-- ==== Sys2Proof/Word.lean ====
section
/-! DEFINITION. The word types of the model and the sparse map every table of the device is kept in. -/

namespace Sys2Proof

/-- One byte. -/
abbrev Byte := BitVec 8
/-- One 64-byte unit: a flit, or a work queue entry. -/
abbrev Line := BitVec 512
/-- A free-running ring index, modulo 2^32 (R212). -/
abbrev Idx := BitVec 32
/-- A packet sequence number, 24 bits (R347). -/
abbrev Psn := BitVec 24

/-- A sparse table by number: pairs in rising order of number, each number at most once. -/
abbrev FMap (α : Type) := List (Nat × α)

end Sys2Proof
end

