-- ==== Sys2Proof/Wire.lean ====
section
/-! DEFINITION. What travels on the device's wires, and the operands of its commands: the packet headers
(R50, R345, R383, R427), the twin frame (R520), and the small records that a command carries. -/

namespace Sys2Proof

/-- The route header, head-flit bits [127:0] (R50). -/
structure RouteHdr where
  dest : Nat
  src : Nat
  plane : Nat := 0
  cls : Nat
  vc : Nat := 0
  epoch : Nat := 0
  esc : Bool := false
  down : Bool := false
  xb : Bool := false
  age : Nat := 0
  hops : Nat := 0
  dir : Nat := 0
  detours : Nat := 0
  len : Nat := 1
  flow : Nat := 0
  deriving DecidableEq, Repr

/-- The transport header of connection packets (R345). -/
structure ConnHdr where
  ttype : Nat
  status : Nat := 0
  srcCtx : Nat := 0
  srcInc : Nat := 0
  dstCtx : Nat := 0
  dstInc : Nat := 0
  psn : Psn := 0
  sends : Nat := 1
  key : Nat := 0
  offset : Nat := 0
  rcntNum : Nat := 0
  rcntEn : Bool := false
  length : Nat := 0
  aop : Nat := 0
  srcFn : Nat := 0
  operand0 : Nat := 0
  operand1 : Nat := 0
  deriving DecidableEq, Repr

/-- The transport header of message packets (R383); the fields in bits [223:128] are those of R345. -/
structure MsgHdr where
  ttype : Nat
  status : Nat := 0
  srcCtx : Nat := 0
  srcInc : Nat := 0
  dstCtx : Nat := 0
  dstInc : Nat := 0
  psn : Psn := 0
  sends : Nat := 1
  dstEp : Nat := 0
  srcEp : Nat := 0
  srcFn : Nat := 0
  msn : Psn := 0
  seg : Nat := 0
  twoSeg : Bool := false
  comm : Nat := 0
  msgLen : Nat := 0
  rdvId : Nat := 0
  length : Nat := 0
  tag : Nat := 0
  moff : Nat := 0
  result : Nat := 0
  deriving DecidableEq, Repr

/-- The transport header of Carillon packets (R427). -/
structure CarHdr where
  ttype : Nat
  status : Nat := 0
  groupId : Nat := 0
  tepoch : Nat := 0
  lost : Bool := false
  mismatch : Bool := false
  exact : Bool := false
  op : Nat := 0
  type : Nat := 0
  rop : Nat := 0
  opnum : Nat := 0
  contrib : Nat := 0
  count : Nat := 0
  peerRank : Nat := 0
  pktIndex : Nat := 0
  pktCount : Nat := 1
  length : Nat := 0
  deriving DecidableEq, Repr

/-- The transport header of a packet, by the engine that consumes it (R29). `other` is a reserved type (R346),
`mgmt` a message between Curators (R66), whose content the spec does not lay out. -/
inductive Transport where
  | conn (h : ConnHdr)
  | msg (h : MsgHdr)
  | car (h : CarHdr)
  | mgmt (kind : Nat)
  /-- A reserved type: its code, and bits [511:136] of the head flit, which are forwarded as they came. -/
  | other (ttype : Nat) (rest : Nat := 0)
  deriving DecidableEq, Repr

/-- One packet: headers, payload, and whether a lost flit was replaced by a poisoned zero flit (R157). -/
structure Packet where
  rt : RouteHdr
  tt : Transport
  payload : List Byte := []
  poisoned : Bool := false
  deriving DecidableEq, Repr

/-- A segment of a region (R283): `type` 0 pinned-contiguous, 1 on-demand, 2 device-local. -/
structure Segment where
  offset : Nat
  length : Nat
  base : Nat
  type : Nat := 0
  rights : Nat := 0
  early : Bool := false
  device : Bool := false
  deriving DecidableEq, Repr

/-- The attributes of a work queue (R214, R241). -/
structure QueueCfg where
  fn : Nat
  strict : Bool
  supervisor : Bool
  evr : Nat
  base : Nat
  log2 : Nat
  shadow : Nat
  headAddr : Nat
  errBase : Nat
  errLog2 : Nat
  errCons : Nat
  deriving DecidableEq, Repr

/-- The attributes of an event ring (R241). -/
structure EvCfg where
  base : Nat
  log2 : Nat
  vector : Nat
  modNs : Nat
  consAddr : Nat
  statusAddr : Nat
  deriving DecidableEq, Repr

/-- A region as the mirror carries it (R280, R522). -/
structure RegionCfg where
  gen : Nat
  fn : Nat
  remote : Bool
  ptRoot : Nat
  segs : List Segment
  deriving DecidableEq, Repr

/-- A connection as the mirror carries it (R522): `st` is its state code of R335. -/
structure ConnCfg where
  fn : Nat
  inc : Nat
  st : Nat
  reason : Nat
  plane : Nat
  coord : Nat
  ctx : Nat
  peerInc : Nat
  retryUs : Nat
  retryMax : Nat
  deriving DecidableEq, Repr

/-- An endpoint as the mirror carries it (R403, R522); `arrival` is its ARRIVAL counter. -/
structure EpCfg where
  owner : Nat
  log2 : Nat
  base : Nat
  cons : Nat
  arrival : Option Nat
  maxUnexp : Nat
  maxEagerKib : Nat
  maxPosted : Nat
  deriving DecidableEq, Repr

/-- One mirror record. Its content belongs to the device and the spec gives no layout (R520): the model carries what
the tables of R522 and R523 name. -/
inductive MirrorRec where
  | grant (group tenant page : Nat)
  | grantGone (group : Nat)
  | queue (q : Nat) (cfg : QueueCfg) (start : Idx)
  | queueGone (q : Nat)
  | doorbell (q : Nat) (v : Idx)
  | errSeq (q : Nat) (seq : Idx)
  | drain (q : Nat) (reset : Bool)
  | stopped (q : Nat) (st : Nat)
  | evRing (fn ring : Nat) (cfg : EvCfg)
  | evRingGone (fn ring : Nat)
  | faultRing (fn base log2 cons : Nat)
  | faultRingGone (fn : Nat)
  | region (index : Nat) (cfg : RegionCfg)
  | regionGone (index gen : Nat)
  | conn (ctx : Nat) (cfg : ConnCfg)
  | connGone (ctx inc : Nat)
  | sent (ctx : Nat) (psn : Psn) (q : Nat) (idx : Idx) (packet : Nat)
  | received (ctx : Nat) (psn : Psn) (nak : Bool) (result : Option ConnHdr)
  /-- The sequence state that a connection has when the copy is made: next PSN, E, the PSNs received beyond it, those of final
  NAKs, and the result cache. -/
  | connSeq (ctx : Nat) (nextPsn e : Psn) (got naked : List Psn) (results : List (Psn × ConnHdr))
  | atomic (ctx : Nat) (psn : Psn) (fn addr old new : Nat)
  | begun (q : Nat) (idx : Idx)
  | counterCfg (n owner : Nat)
  | counterGone (n : Nat)
  | counter (n value : Nat) (job : Option (Nat × Idx))
  | endpoint (ep : Nat) (cfg : EpCfg)
  | endpointGone (ep : Nat)
  | endpointSeq (ep : Nat) (seq : Idx)
  | channel (ch owner q prio : Nat)
  | channelGone (ch : Nat)
  | carillon (handle group rank q : Nat)
  | carillonGone (handle : Nat)
  deriving DecidableEq, Repr

/-- A twin frame (R520). `body` of a HELLO is GLB_SERIAL; `record` is the record of a MIRROR. -/
structure TwinFrame where
  kind : Nat
  seq : Nat := 0
  ack : Nat := 0
  time : Nat := 0
  state : Nat := 0
  curReady : Bool := false
  coord : Nat := 0
  plane : Nat := 0
  adoptEn : Bool := false
  body : Nat := 0
  record : Option MirrorRec := none
  deriving DecidableEq, Repr

/-- Board straps (R275, R601). -/
structure Straps where
  pcieMode : Nat := 0
  timeRole : Nat := 0
  plane : Nat := 0
  board : Nat := 0
  deriving DecidableEq, Repr

/-- One occurrence of a fault source, with the DETAIL it supplies (R542). -/
structure Occ where
  src : Nat
  detail : Nat
  deriving DecidableEq, Repr

/-- How a device read over PCI Express ends when it fails (R202). -/
inductive CplError where
  | unsupportedRequest
  | completerAbort
  | poisoned
  | timeout
  deriving DecidableEq, Repr

/-- A host configuration write that changes a function (R182, R185, R186, R200, R203, R205). -/
inductive CfgWrite where
  | busMaster (on : Bool)
  | vfEnable (on : Bool)
  | numVfs (n : Nat)
  | relaxedOrdering (on : Bool)
  | completionTimeout (code : Nat)
  | tag10 (on : Bool)
  | functionMask (on : Bool)
  /-- MSI-X Enable; ARI Capable Hierarchy of the SR-IOV capability. -/
  | msixEnable (on : Bool)
  | ari (on : Bool)
  /-- Max Payload Size and Max Read Request Size as the base specification encodes them: 128 bytes times 2 to the code. -/
  | maxPayload (code : Nat)
  | maxRead (code : Nat)
  /-- A write of ones to the uncorrectable error status of AER. -/
  | aerClear (mask : Nat)
  /-- Base address registers 0, 2 and 4 of a function, or with `vf` those of its SR-IOV capability (R188). -/
  | bar (n : Nat) (vf : Bool) (base : Nat)
  deriving DecidableEq, Repr

/-- A plane's fault map: fenced links as (linear number, port), and fenced devices by linear number (R77). -/
structure FaultMap where
  links : List (Nat × Nat) := []
  devices : List Nat := []
  deriving DecidableEq, Repr

/-- A tree install message: all that a vertex computes its part of the new tree from (R409, R434, R437). -/
structure TreeInstall where
  group : Nat
  size : Nat
  abort_ : Bool
  slots2 : Bool
  exactMax : Nat
  epoch : Nat
  /-- Coordinate of the root. -/
  root : Nat
  /-- Members in rank order: (coordinate, tenant); and the ranks known lost. -/
  members : List (Nat × Nat)
  lost : List Nat
  map : FaultMap
  deriving DecidableEq, Repr

/-- A member's join report (R437). -/
structure JoinReport where
  group : Nat
  rank : Nat
  coord : Nat
  tenant : Nat
  size : Nat
  abort_ : Bool
  slots2 : Bool
  exactMax : Nat
  digest : Nat
  deriving DecidableEq, Repr

/-- A vertex's ready report: the highest OPNUM it has started or received, plus one; or that it lacks resources; or, before any
change, that a member's GROUP_REBUILD asks for one (R434, R437; log entry 118). -/
structure TreeReport where
  group : Nat
  epoch : Nat
  coord : Nat
  highest : Nat := 0
  refused : Bool := false
  rebuild : Bool := false
  deriving DecidableEq, Repr

/-- What a master or a root floods in the second half of a change (R80, R81, R115, R434, R437). -/
inductive SwitchFlood where
  /-- Route epoch: its switch time T, and its retirement time R. -/
  | routeT (number time : Nat)
  | routeR (number time : Nat)
  /-- Strike schedule epoch: T and R. -/
  | strikeT (epoch time : Nat)
  | strikeR (epoch time : Nat)
  /-- A group's tree epoch: N and T; or that no vertex installs it, with the status of its commands. -/
  | tree (group epoch n time : Nat)
  /-- The master has cancelled a schedule change (R116). -/
  | strikeCancel (id epoch : Nat)
  | treeRefused (group epoch : Nat)
  /-- The root has dropped a change, or a creation, for want of reports (R434, R437). -/
  | treeDropped (group epoch : Nat)
  deriving DecidableEq, Repr

/-- What a Curator tells the epoch master: a fence, a restored link, or that its host asks for a change; and the master's
acknowledgement of a report of the device's (R95, R641). -/
inductive PortReport where
  | fence (port : Nat)
  | restored (port : Nat)
  | change
  | acked (port : Nat) (restored : Bool)
  deriving DecidableEq, Repr

/-- A ready report: for a route epoch, or for a Strike schedule, with the fields of the staged image (R79, R115). -/
inductive ReadyReport where
  | route (device number : Nat)
  | strike (device id epoch participants : Nat)
  deriving DecidableEq, Repr

/-- A report of a device's actual switch time (R79, R115). -/
structure SwitchReport where
  strike : Bool
  device : Nat
  number : Nat
  time : Nat
  deriving DecidableEq, Repr

/-- A TIME_X ordered set (R158), and of one received the instant at which it came, on the receiver's own time at full resolution (R124). -/
structure TimeX where
  /-- Bits [55:0] of the send instant of the sender's previous TIME_X. -/
  prevSend : Nat
  /-- Bits [55:0] of the receive instant of the last TIME_X from the other end. -/
  lastRecv : Nat
  exch : Nat
  depth : Nat
  root : Nat
  rootValid : Bool
  isParent : Bool
  recvAt : Nat
  deriving DecidableEq, Repr

/-- One valid flit slot of a received group (R151, R153): a slot where a head flit may begin, or a later flit of a
packet, whose channel the wire form leaves to the receiver to know (log entry 12). -/
inductive RxSlot where
  | head (line : Line) (poison : Bool)
  | body (vc : Nat) (line : Line) (poison : Bool)
  deriving DecidableEq, Repr

/-- Where a register access goes: one of the function's BARs, and the byte offset in it (R188, R191). -/
structure BarPlace where
  bar : Nat
  offset : Nat
  deriving DecidableEq, Repr

/-- What an access is: a write or a read, and whether its byte enables are sparse (R18). -/
structure AccessKind where
  write : Bool
  sparse : Bool
  deriving DecidableEq, Repr

/-- An ordered set as a port receives it: the payloads of its control block, by lane (R157, R158). -/
structure PortSet where
  port : Nat
  lanes : List Nat
  deriving DecidableEq, Repr

/-- A time exchange as a port receives it: the payloads of its control block, by lane, and the part of the tick, in units of 0.25 ns, at
which its last bit came (R123, R130). -/
structure TimedSet where
  lanes : List Nat
  frac : Nat
  deriving DecidableEq, Repr

/-- What the receiver of one lane takes while it looks for block lock: its sync headers in order, and the blocks by which it lags the
first lane (R148, R150, R170). -/
structure LaneHeads where
  lane : Nat
  heads : List Nat
  skew : Nat
  deriving DecidableEq, Repr

/-- What one lane receives in a group: the PAM4 levels of its symbols in order, and the 58 bits that came before them, which its
descrambler still holds, the latest highest (R148, R149). -/
structure LaneBits where
  prior : Nat
  levels : List Nat
  deriving DecidableEq, Repr

/-- A received flit group as its lanes carry it, in order of logical lane, with what the receiver knows beside it: for each valid flit
slot in order, none where a head flit may begin, else the channel of the packet that the flit continues (R151, R152; log entry 12). -/
structure RawGroup where
  lanes : List LaneBits
  follow : List (Option Nat) := []
  deriving DecidableEq, Repr

/-- A received flit group, as its decoding and CRC check leave it (R152 to R156): `good`, symbols corrected, the
trailer's fields, the valid slots in order and the used credit slots. -/
structure FlitGroup where
  good : Bool
  corrected : Nat := 0
  seq : Nat := 0
  ackSeq : Nat := 0
  nak : Bool := false
  slots : List RxSlot := []
  credits : List (Nat × Nat) := []
  deriving DecidableEq, Repr

/-- The settings of a fabric lane's receiver: its continuous-time equalizer, the taps of its decision-feedback equalizer, and its
sampling phase (R167). -/
structure LaneEq where
  ctle : Nat := 0
  dfe : List Int := [0, 0, 0, 0, 0, 0, 0, 0, 0, 0, 0, 0]
  sampling : Int := 0
  deriving DecidableEq, Repr

/-- A TRAIN ordered set, but for the lane number that each lane adds (R158). -/
structure TrainMsg where
  port : Nat
  coord : Nat
  coordValid : Bool
  plane : Nat
  phase : Nat
  deriving DecidableEq, Repr

/-- An ordered set that a port sends (R158). -/
inductive OrderedSet where
  | train (m : TrainMsg)
  | timeX (t : TimeX)
  | fence (coord plane reason : Nat)
  | sleep
  deriving DecidableEq, Repr

/-- What a twin's or a remote Curator relays to this device's lock bank: an access to a lock, by action 0 query, 1 claim or
2 release; or that a tenant has gone through FLR (R507, R509). A twin's requester has no coordinate. -/
inductive LockRelay where
  | access (twin : Bool) (coord plane tenant requester lock action : Nat)
  | flr (twin : Bool) (coord plane tenant : Nat)
  deriving DecidableEq, Repr

/-- A message from this device's Curator to another's (R66). The spec lays out no such message: the model carries what
the rules say is told. -/
inductive CurMsg where
  | report (device : Nat) (r : PortReport)
  | epoch (number : Nat) (map : FaultMap)
  | ready (r : ReadyReport)
  | switched (r : SwitchReport)
  | flood (f : SwitchFlood)
  /-- The fabric-commanded reset (R614). -/
  | reset
  | install (m : TreeInstall)
  | treeReady (r : TreeReport)
  | join (j : JoinReport)
  | rebuild (group : Nat)
  | destroy (group : Nat)
  | faultMap (map : FaultMap)
  | coordinate (coord : Nat)
  | reAim (coord failed : Nat)
  | lockAsk (twin : Bool) (tenant requester lock action : Nat)
  | lockAnswer (status word : Nat)
  | flr (tenant : Nat)
  deriving DecidableEq, Repr

/-- One sample of the Registrar's supply sensors (R585, R586): each rail's voltage and current, whether each sensor reads
within its physical limits, whether the rails and the junction are within their ranges, and the package power. -/
structure EnergySample where
  coreMv : Nat
  coreMa : Nat
  sramMv : Nat
  sramMa : Nat
  coreOk : Bool := true
  sramOk : Bool := true
  inRange : Bool := true
  packageMw : Nat
  deriving DecidableEq, Repr

/-- A write through the Registrar's calibration port: a parameter, or the firmware image with the SHA-256 digest that boot will
compute of it (R592). -/
inductive CalWrite where
  | period (seconds : Nat)
  | core (gain offset : Nat)
  | sram (gain offset : Nat)
  | key (id key : Nat)
  | sealDigest (digest : Nat)
  | image (digest version : Nat)
  deriving DecidableEq, Repr

end Sys2Proof
end

