-- ==== Sys2Proof/Syntax.lean ====
section
/-! DEFINITION. The commands of the block: one constructor for each row of the opcode table, with the row's
operands. The table gives the rows no operand fields; the operands are what the event or access itself carries. -/

namespace Sys2Proof

/-- One command (one row of the opcode table). -/
inductive Instr where
  /-- Command 0x0100 completes OK with no effect, confirming that the Curator serves the queue. (R265) -/
  | deviceNop (fn : Nat)
  /-- Command 0x0101 writes the 64-byte device identity reply. (R266) -/
  | deviceIdentify (fn : Nat)
  /-- Command 0x0102 sets masked RW fields of HIF_FN_CFG, RGL_CFG or MVT_PACE_LIMIT. (R267) -/
  | deviceConfig (fn : Nat)
  /-- Command 0x0103 waits for earlier writers of the block, then places the block in expert mode. (R268) -/
  | expertEnter (fn : Nat)
  /-- Command 0x0104 returns a block to basic mode, and the Curator adopts its register values. (R264) -/
  | expertLeave (fn : Nat)
  /-- Command 0x0105 writes the state of both firmware slots. (R274) -/
  | fwQuery (fn : Nat)
  /-- Command 0x0106 writes image data into the slot that is not running and checks the image on LAST. (R271) -/
  | fwStage (fn : Nat)
  /-- Command 0x0107 makes the staged slot the boot slot, optionally raising SVN_FUSED later. (R272) -/
  | fwCommit (fn : Nat)
  /-- Command 0x0108 clears STAGED or COMMITTED and invalidates the other slot. (R273) -/
  | fwDiscard (fn : Nat)
  /-- Command 0x0180 grants a queue group to a virtual function at a page index. (R241) -/
  | queueGroupGrant (fn : Nat)
  /-- Command 0x0181 returns a granted queue group to the physical function. (R242) -/
  | queueGroupReclaim (fn : Nat)
  /-- Command 0x0182 initialises the error ring and head index and makes the queue ACTIVE. (R241) -/
  | queueCreate (fn : Nat)
  /-- Command 0x0183 drains the queue, aborting unfinished jobs, and leaves it DISABLED. (R229) -/
  | queueDestroy (fn : Nat)
  /-- Command 0x0184 drains the queue and restarts it ACTIVE at the restart index. (R232) -/
  | queueReset (fn : Nat)
  /-- Command 0x0185 writes 32 bytes of queue state. (R241) -/
  | queueQuery (fn : Nat)
  /-- Command 0x0186 initialises an event ring and binds it to an MSI-X vector. (R241) -/
  | eventRingCreate (fn : Nat)
  /-- Command 0x0187 removes an event ring that no queue names. (R241) -/
  | eventRingDestroy (fn : Nat)
  /-- Command 0x0188 clears OVERFLOW unless marks are pending and returns the old status word. (R241) -/
  | eventRingClear (fn : Nat)
  /-- Command 0x0200 takes the longest-free context into READY with the next incarnation. (R374) -/
  | connCreate (fn : Nat)
  /-- Command 0x0201 sets the peer and retry parameters and enters CONNECTED without handshake. (R374) -/
  | connConnect (fn : Nat)
  /-- Command 0x0202 fails unfinished jobs and puts the connection in QUARANTINE. (R374) -/
  | connDestroy (fn : Nat)
  /-- Command 0x0203 fails unfinished jobs and returns the connection to READY with the next incarnation. (R374) -/
  | connReset (fn : Nat)
  /-- Command 0x0204 writes 32 bytes of connection state. (R373) -/
  | connQuery (fn : Nat)
  /-- Command 0x0210 allocates the lowest free run of trigger counters and zeroes them. (R374) -/
  | counterAlloc (fn : Nat)
  /-- Command 0x0211 frees a range of trigger counters. (R374) -/
  | counterFree (fn : Nat)
  /-- Command 0x0212 returns one CTX_COUNTER value. (R373) -/
  | counterQuery (fn : Nat)
  /-- Command 0x0220 sets CTX_CFG fields selected by VALID_MASK. (R373) -/
  | ctxConfig (fn : Nat)
  /-- Command 0x0300 takes a free region index and registers the segments under a new key. (R309) -/
  | regionCreate (fn : Nat)
  /-- Command 0x0301 increments the generation, drains passed accesses and drops cached translations. (R301) -/
  | regionRevoke (fn : Nat)
  /-- Command 0x0302 revokes the region and frees its index on completion. (R301) -/
  | regionDestroy (fn : Nat)
  /-- Command 0x0303 writes the region header and its segments. (R307) -/
  | regionQuery (fn : Nat)
  /-- Command 0x0304 drops cached translations of a range and waits for accesses that used them. (R295) -/
  | regionInvalidate (fn : Nat)
  /-- Command 0x0305 creates the function's page-fault ring. (R309) -/
  | faultRingCreate (fn : Nat)
  /-- Command 0x0306 removes the page-fault ring and fails waiting local faults. (R309) -/
  | faultRingDestroy (fn : Nat)
  /-- Command 0x0307 retries or fails a stalled local fault named by its record SEQ. (R296) -/
  | pageResolve (fn : Nat)
  /-- Command 0x0308 sets XLT_CFG fields selected by VALID_MASK. (R307) -/
  | xltConfig (fn : Nat)
  /-- Command 0x0400 creates a messaging endpoint with its receive ring and limits. (R404) -/
  | endpointCreate (fn : Nat)
  /-- Command 0x0401 removes receives, discards unexpected messages, refuses rendezvous and quarantines the endpoint. (R404) -/
  | endpointDestroy (fn : Nat)
  /-- Command 0x0402 writes 32 bytes of endpoint state. (R403) -/
  | endpointQuery (fn : Nat)
  /-- Command 0x0403 sets EAGER_MAX. (R403) -/
  | catConfig (fn : Nat)
  /-- Command 0x0500 joins a member to a collective group and completes at T of tree epoch 1. (R437) -/
  | groupCreate (fn : Nat)
  /-- Command 0x0501 destroys the group on every vertex and fails its unfinished jobs. (R439) -/
  | groupDestroy (fn : Nat)
  /-- Command 0x0502 writes the 64-byte group state. (R445) -/
  | groupQuery (fn : Nat)
  /-- Command 0x0503 starts a tree epoch change and completes at its T. (R446) -/
  | groupRebuild (fn : Nat)
  /-- Command 0x0504 sets CAR_CFG fields selected by VALID_MASK. (R444) -/
  | carConfig (fn : Nat)
  /-- Command 0x0600 writes the 64-byte routing state record. (R92) -/
  | routeQuery (fn : Nat)
  /-- Command 0x0601 sets MVT_ROUTE_CFG fields selected by VALID_MASK. (R93) -/
  | routeConfig (fn : Nat)
  /-- Command 0x0602 sets or clears the administrative fence of a fabric port or the twin bridge. (R94) -/
  | routePortFence (fn : Nat)
  /-- Command 0x0603 asks the epoch master for a new route epoch and completes at this device's switch. (R95) -/
  | routeEpochChange (fn : Nat)
  /-- Command 0x0604 writes one routing table entry of a bank. (R96) -/
  | routeTableRead (fn : Nat)
  /-- Command 0x0700 writes the Strike state and configuration registers. (R121) -/
  | strikeQuery (fn : Nat)
  /-- Command 0x0701 writes schedule image data into the idle bank and checks the image on LAST. (R102) -/
  | strikeStage (fn : Nat)
  /-- Command 0x0702 reports ready to the epoch master and completes at the schedule switch. (R115) -/
  | strikeActivate (fn : Nat)
  /-- Command 0x0703 empties the idle schedule bank. (R121) -/
  | strikeDiscard (fn : Nat)
  /-- Command 0x0704 binds a queue to a Strike flow with its late option. (R104) -/
  | strikeFlowBind (fn : Nat)
  /-- Command 0x0705 removes a flow binding, spilling held frames. (R121) -/
  | strikeFlowUnbind (fn : Nat)
  /-- Command 0x0706 sets STK_CFG fields selected by VALID_MASK. (R121) -/
  | strikeConfig (fn : Nat)
  /-- Command 0x0800 writes the five LNE_PORT registers of a port. (R180) -/
  | laneQuery (fn : Nat)
  /-- Command 0x0801 retrains a fabric port and completes at READY or training failure. (R180) -/
  | laneRetrain (fn : Nat)
  /-- Command 0x0802 sets SLEEP_EN and SLEEP_IDLE of a port. (R180) -/
  | laneSleepConfig (fn : Nat)
  /-- Command 0x0803 writes bytes of the lane table in use. (R180) -/
  | laneTableRead (fn : Nat)
  /-- Command 0x0804 sets LNE_CFG fields selected by VALID_MASK. (R180) -/
  | laneConfig (fn : Nat)
  /-- Command 0x0900 claims a lock, optionally waiting once under the wait alias. (R515) -/
  | lockClaim (fn : Nat)
  /-- Command 0x0901 releases a lock held by the requester. (R515) -/
  | lockRelease (fn : Nat)
  /-- Command 0x0902 returns a lock word. (R515) -/
  | lockQuery (fn : Nat)
  /-- Command 0x0903 sets a lock group's rights and ABANDON_NOTIFY. (R515) -/
  | lockGroupConfig (fn : Nat)
  /-- Command 0x0904 queries, claims or releases a lock on the twin or a remote device. (R509) -/
  | lockPeer (fn : Nat)
  /-- Command 0x0905 claims a word lock in SRAM or host memory. (R510) -/
  | wordLockClaim (fn : Nat)
  /-- Command 0x0906 releases a word lock. (R510) -/
  | wordLockRelease (fn : Nat)
  /-- Command 0x0A00 writes the twin status registers and the partner serial. (R540) -/
  | twinQuery (fn : Nat)
  /-- Command 0x0A01 sets ADOPT_EN, STOP_EN and the mirror base. (R541) -/
  | twinConfig (fn : Nat)
  /-- Command 0x0A02 retrains the twin bridge outside SYNCING and PAIRED. (R541) -/
  | twinBridgeRetrain (fn : Nat)
  /-- Command 0x0A03 runs adoption of a dead partner whose stop was not confirmed. (R541) -/
  | twinAdopt (fn : Nat)
  /-- Command 0x0B00 samples a range of event counters in ascending order. (R578) -/
  | counterRead (fn : Nat)
  /-- Command 0x0B01 sets MODE, THRESH or CLEAR of a counter range in one tick. (R579) -/
  | counterConfig (fn : Nat)
  /-- Command 0x0B02 enables a function's user counter page and sets its counters. (R565) -/
  | userPageConfig (fn : Nat)
  /-- Command 0x0B03 sets or clears a Dial. (R568) -/
  | dialConfig (fn : Nat)
  /-- Command 0x0B04 writes a Dial's values from one tick. (R578) -/
  | dialRead (fn : Nat)
  /-- Command 0x0B05 writes MON_PROV_CFG and reloads the sampling countdown. (R569) -/
  | provConfig (fn : Nat)
  /-- Command 0x0B06 returns Provenance buffer slots as stored. (R579) -/
  | provRead (fn : Nat)
  /-- Command 0x0B10 sets a fault source's severity, or its FLOOR. (R579) -/
  | faultSevSet (fn : Nat)
  /-- Command 0x0B11 returns both CUS_SRC words of a source. (R578) -/
  | faultQuery (fn : Nat)
  /-- Command 0x0B12 returns fault log slots as stored. (R579) -/
  | faultLogRead (fn : Nat)
  /-- Command 0x0C00 returns the 14 RGS registers. (R597) -/
  | registrarQuery (fn : Nat)
  /-- Command 0x0C01 returns Registrar record slots, filtered for virtual functions. (R597) -/
  | registrarRead (fn : Nat)
  /-- Command 0x0D00 allocates the lowest free Mover channel to a queue at a priority. (R478) -/
  | moverChannelAlloc (fn : Nat)
  /-- Command 0x0D01 frees an idle Mover channel. (R478) -/
  | moverChannelFree (fn : Nat)
  /-- Command 0x0D02 returns a channel's state, position and counts. (R477) -/
  | moverChannelQuery (fn : Nat)
  /-- Command 0x0D03 changes a channel's priority from the next beat boundary. (R478) -/
  | moverChannelPriority (fn : Nat)
  /-- Command 0x0D04 sets RR_BEATS. (R477) -/
  | moverConfig (fn : Nat)
  /-- Command 0x0E00 returns a SCH_GROUP value. (R498) -/
  | schedGroupQuery (fn : Nat)
  /-- Command 0x0E01 sets a queue group's QUANTUM from its next turn. (R484) -/
  | schedGroupQuantum (fn : Nat)
  /-- Command 0x0E02 changes a function's shaper settings as one change at a tick boundary. (R488) -/
  | schedShaperConfig (fn : Nat)
  /-- Command 0x0E03 changes a function's policer settings and refills its bucket. (R490) -/
  | schedPolicerConfig (fn : Nat)
  /-- Command 0x0E04 returns a function's shaper and policer registers. (R498) -/
  | schedFnQuery (fn : Nat)
  /-- Command 0x0E05 returns the latest DEPTH and DELAY samples of a queue. (R498) -/
  | schedQueueSample (fn : Nat)
  /-- Command 0x0E06 sets DEFAULT_QUANTUM and SAMPLE_EN. (R498) -/
  | schedConfig (fn : Nat)
  /-- The Curator takes the next command covered by the admin doorbell and sets the mailbox to PENDING. (R250) -/
  | commandTaken (fn : Nat)
  /-- A command that waited on the fabric, a peer or a time ends and writes response, reply, head index and mailbox. (R252) -/
  | commandComplete (fn : Nat) (status : Nat) (word : Nat)
  /-- A command reaching 250 ms completes with TIMEOUT. (R254) -/
  | commandTimeout (fn : Nat)
  /-- A Curator core stops; its running command completes with TIMEOUT and its class 1 locks are freed. (R277) -/
  | curCoreStop (core : Nat) (fn : Option Nat)
  /-- A write of ENABLE = 1 to ADM_CFG makes a disabled admin queue IDLE. (R244) -/
  | adminQueueEnable (fn : Nat) (value : BitVec 32)
  /-- A write of ENABLE = 0 stops command taking; the queue becomes DISABLED after the running command. (R245) -/
  | adminQueueDisable (fn : Nat) (value : BitVec 32)
  /-- A write to the admin doorbell advances the accepted producer value under R194. (R246) -/
  | admDb (fn : Nat) (value : Idx)
  /-- A read of ADM_MAILBOX0 latches the other three mailbox words. (R258) -/
  | admMailboxRead (fn : Nat)
  /-- A doorbell write is accepted, ignored as stale, or refused as out of range. (R194) -/
  | dbProducer (fn : Nat) (offset : Nat) (width : Nat) (value : Idx)
  /-- A BAR4 store is placed in the combining buffer slot of its key, possibly evicting the least recent slot. (R198) -/
  | inlineStore (fn : Nat) (offset : Nat) (bytes : List Byte)
  /-- A physical-function write of a channel number delivers an append to that channel. (R471) -/
  | movAppend (fn : Nat) (value : BitVec 32)
  /-- A write to a lock word claims or releases the lock by its identity. (R504) -/
  | lockWordWrite (fn : Nat) (offset : Nat) (value : BitVec 32)
  /-- A read of a lock's wait alias returns at once if free, else is held. (R506) -/
  | lockWaitRead (fn : Nat) (lock : Nat)
  /-- A held wait read returns when the lock becomes free or 10 µs pass. (R506) -/
  | waitReadReturn (lock : Nat)
  /-- A direct write of MVT_PORT_CFG.FENCE in expert mode sets or clears an administrative fence. (R90) -/
  | portFenceWrite (fn : Nat) (port : Nat) (value : BitVec 32)
  /-- A write of LNE_PORT_CFG.RETRAIN takes a fabric port down and retrains it. (R179) -/
  | retrain (fn : Nat) (port : Nat)
  /-- Unmasking an MSI-X vector with its pending bit set sends one message. (R204) -/
  | msixUnmask (fn : Nat) (vector : Nat)
  /-- A read of a lower half or of a latching word latches the companion words for the following reads. (R17) -/
  | latchingRegisterRead (fn : Nat) (place : BarPlace) (width : Nat)
  /-- A read of a user counter page slot samples the counter and latches its time-stamp. (R564) -/
  | userPageRead (fn : Nat) (offset : Nat) (width : Nat)
  /-- A write to a register with no row of its own sets, clears or ignores fields by access code and mode. (R14) -/
  | registerWrite (fn : Nat) (offset : Nat) (width : Nat) (value : BitVec 64)
  /-- An access to an undefined offset, or a bad-width access, reads 0 or is ignored and records a fault. (R18) -/
  | undefinedOffsetAccess (fn : Nat) (offset : Nat) (width : Nat) (kind : AccessKind)
  /-- Job 0x00 does nothing and is done when reached. (R217) -/
  | nop (q : Nat)
  /-- Job 0x01 segments a put into request packets to the connection's peer. (R339) -/
  | put (q : Nat)
  /-- Job 0x02 sends up to 128 bytes of data carried in the entries as one packet. (R340) -/
  | putImm (q : Nat)
  /-- Job 0x03 sends GET request packets for remote data. (R339) -/
  | get (q : Nat)
  /-- Job 0x04 sends a remote atomic on one 8-byte word. (R341) -/
  | atomic (q : Nat)
  /-- Job 0x08 adds VALUE to a trigger counter. (R368) -/
  | counterAdd (q : Nat)
  /-- Job 0x09 sets a trigger counter to VALUE. (R368) -/
  | counterSet (q : Nat)
  /-- Job 0x20 waits for earlier jobs, flushes early-acknowledged connections and declares local writes visible. (R320) -/
  | barrier (q : Nat)
  /-- Job 0x21 sends a reserving 8-byte load to the target. (R326) -/
  | reserveLoad (q : Nat)
  /-- Job 0x22 sends a conditional 8-byte store to the target. (R326) -/
  | condStore (q : Nat)
  /-- Job 0x30 sends a tagged message, eager or rendezvous, over the peer slot. (R380) -/
  | send (q : Nat)
  /-- Job 0x31 checks the buffer, searches the Accession store and posts the receive if unmatched. (R378) -/
  | recv (q : Nat)
  /-- Job 0x40 checks operands and contributes to a group operation. (R416) -/
  | collective (q : Nat)
  /-- Job 0x50 starts a Mover program on a channel. (R452) -/
  | moverStart (q : Nat)
  /-- Job 0x51 starts a descriptor chain on a channel. (R467) -/
  | moverChain (q : Nat)
  /-- Job 0x52 delivers an append to a channel. (R471) -/
  | moverAppend (q : Nat)
  /-- An armed job whose counter reaches its threshold starts as if just fetched. (R366) -/
  | armedJobRelease (q : Nat) (idx : Idx)
  /-- The device writes a new head index covering done jobs in index order. (R221) -/
  | headIndexPublish (q : Nat)
  /-- Every 2 µs a BLOCKED queue re-reads its error-ring consumer word and writes waiting records. (R224) -/
  | errorRingReread (q : Nat)
  /-- Every 2 µs a full event ring's consumer word is re-read and pending marks written as coalesced records. (R237) -/
  | eventRingReread (fn : Nat) (ring : Nat)
  /-- An event ring's MSI-X message is sent after its record, no sooner than MOD_NS after the last. (R238) -/
  | msixMessage (fn : Nat) (ring : Nat)
  /-- Every 2 µs a full page-fault ring's consumer word is re-read and waiting local records written. (R300) -/
  | faultRingReread (fn : Nat)
  /-- Every 2 µs a BLOCKED endpoint re-reads its receive-ring consumer word and writes waiting records. (R398) -/
  | receiveRingReread (ep : Nat)
  /-- An unresolved local fault fails its job with TRANSLATION_FAULT after LOCAL_TIMEOUT. (R296) -/
  | localTimeout (q : Nat) (idx : Idx)
  /-- After the backoff wait the initiator re-sends a packet answered PAGE_PENDING or NO_RESOURCE. (R298) -/
  | pagePendingResend (ctx : Nat) (psn : Psn)
  /-- A request packet's timer expires and it is retransmitted, or fails RETRY_EXCEEDED after the last send. (R351) -/
  | retransmitTimeout (ctx : Nat) (psn : Psn)
  /-- The target sends a coalesced ACK within ACK_DELAY + 100 ns of the acknowledgement point. (R350) -/
  | ackSend (ctx : Nat)
  /-- After 100 µs of a fenced peer the context's jobs fail DEST_FENCED and it enters ERROR. (R358) -/
  | fencedHoldExpiry (ctx : Nat)
  /-- A peer slot idle for PEER_IDLE ms sends PEER_CLOSE and enters CLOSING. (R363) -/
  | peerIdleExpiry (ctx : Nat)
  /-- A context becomes FREE 4 ms after entering QUARANTINE. (R336) -/
  | contextQuarantineEnd (ctx : Nat)
  /-- A destroyed endpoint becomes FREE 4 ms after entering QUARANTINE. (R404) -/
  | endpointQuarantineEnd (ep : Nat)
  /-- A destroyed group handle becomes FREE after 4 ms. (R439) -/
  | handleQuarantineEnd (handle : Nat)
  /-- Ejection space reserved for an aborted job's reply is released after 4 ms. (R229) -/
  | ejectionReserveTimeout (ctx : Nat) (psn : Psn)
  /-- A reservation is cleared 64 µs after it was set. (R330) -/
  | reservationExpiry (granule : Nat)
  /-- A PUT request packet arrives, is classified and checked, and its payload written and acknowledged. (R313) -/
  | putArrival (p : Packet)
  /-- A STRIKE_PUT packet is applied as a put, its acknowledgement marked late if it arrived as a request. (R112) -/
  | strikePutArrival (p : Packet)
  /-- A GET request packet reads target memory and returns GET_DATA. (R343) -/
  | getArrival (p : Packet)
  /-- An ATOMIC packet reads, updates and writes the granule and returns the old value. (R342) -/
  | atomicArrival (p : Packet)
  /-- A RESERVE_LOAD packet reads the granule and sets the holder's reservation. (R327) -/
  | reserveLoadArrival (p : Packet)
  /-- A COND_STORE packet compares the granule with the loaded value and writes it on a match. (R328) -/
  | condStoreArrival (p : Packet)
  /-- A FLUSH request is answered once every write issued for the connection is visible. (R320) -/
  | flush (p : Packet)
  /-- A SKIP marks an abandoned PSN or MSN received without applying it. (R356) -/
  | skip (p : Packet)
  /-- A PEER_OPEN is answered by allocating or binding a peer slot. (R362) -/
  | peerOpen (p : Packet)
  /-- A PEER_CLOSE is accepted into QUARANTINE or refused with NO_RESOURCE. (R363) -/
  | peerClose (p : Packet)
  /-- An ACK marks PSNs answered at the sender, possibly completing jobs or fast-retransmitting. (R350) -/
  | ack (p : Packet)
  /-- A NAK ends a request with a final status or schedules a re-send on a transient one. (R349) -/
  | nak (p : Packet)
  /-- A GET_DATA reply's data is written to local memory. (R322) -/
  | getData (p : Packet)
  /-- An ATOMIC_DATA reply's old or loaded value is written to local memory. (R344) -/
  | atomicData (p : Packet)
  /-- A FLUSH_DONE clears or keeps the barrier's unflushed mark. (R643) -/
  | flushDone (p : Packet)
  /-- A PEER_OPEN_ACK connects the opener's slot or schedules a retry. (R362) -/
  | peerOpenAck (p : Packet)
  /-- A PEER_CLOSE_ACK quarantines the closing slot or returns it to CONNECTED. (R363) -/
  | peerCloseAck (p : Packet)
  /-- An eager message packet is committed at its endpoint to a receive or the Accession store. (R388) -/
  | msgEager (p : Packet)
  /-- A rendezvous request is committed and, if matched, starts fetching data. (R389) -/
  | msgRts (p : Packet)
  /-- A rendezvous get at the sender reads the SEND's range and returns GET_DATA. (R392) -/
  | msgRdvGet (p : Packet)
  /-- An MSG_FIN completes the rendezvous SEND with its result. (R392) -/
  | msgFin (p : Packet)
  /-- A parked match packet commits once every earlier MSN has committed or been skipped. (R386) -/
  | parkedPacketCommit (ctx : Nat) (msn : Psn)
  /-- Once a delivery's writes are visible, its receive record is written and LCNT and ARRIVAL advance. (R397) -/
  | deliveryEnd (ep : Nat) (id : Nat)
  /-- An up-tree partial is added into the operation's partial at the vertex. (R429) -/
  | carUp (port : Nat) (p : Packet)
  /-- A down-tree result or data packet is forwarded to children and written for the member. (R429) -/
  | carDown (port : Nat) (p : Packet)
  /-- A broadcast acknowledgement sweep packet is counted toward the subtree's CAR_ACK. (R429) -/
  | carAck (port : Nat) (p : Packet)
  /-- A CAR_END carries final status and CONTRIB and completes waiting member jobs. (R419) -/
  | carEnd (port : Nat) (p : Packet)
  /-- A CAR_SLOT returns one edge-buffer credit. (R412) -/
  | carSlot (port : Nat) (p : Packet)
  /-- A vertex stages the new tree in its idle bank and reports ready with its highest OPNUM. (R434) -/
  | treeInstall (m : TreeInstall)
  /-- At T operations from N run on the new tree and old operations crossing a fence end. (R434) -/
  | treeEpochSwitch (handle : Nat)
  /-- The old tree bank is retired when its operations end or at T + 2 ms + 40 ns. (R435) -/
  | treeEpochRetire (handle : Nat)
  /-- A tree change without every report within CREATE_TIMEOUT is dropped and restarted. (R434) -/
  | treeReadyTimeout (group : Nat)
  /-- The root Curator receives a member's join report and installs the tree at SIZE joins. (R437) -/
  | groupJoin (j : JoinReport)
  /-- A GROUP_CREATE not reaching epoch 1 within CREATE_TIMEOUT fails with TIMEOUT. (R437) -/
  | groupCreateTimeout (fn : Nat)
  /-- Instruction 0x01 reads source bytes and writes destination beats in order. (R457) -/
  | move (ch : Nat)
  /-- Instructions 0x02 to 0x04 move data and write a checksum trailer. (R458) -/
  | moveChecked (ch : Nat)
  /-- Instruction 0x10 advances a loop level and jumps back or falls through. (R460) -/
  | loop (ch : Nat)
  /-- Instruction 0x11 starts a wait on a counter, a time or the channel event. (R461) -/
  | wait (ch : Nat)
  /-- A Mover wait ends on its counter, time or event, or fails at TIMEOUT. (R461) -/
  | waitEnd (ch : Nat)
  /-- Instruction 0x12 adds to a counter or sets a channel's EVENT flag once earlier writes are visible. (R462) -/
  | signal (ch : Nat)
  /-- Instruction 0x13 holds later instructions until earlier writes are visible. (R463) -/
  | moverFence (ch : Nat)
  /-- Instruction 0x1F completes the program once its writes are visible. (R464) -/
  | moverEnd (ch : Nat)
  /-- The shared datapath grants one beat to the ready channel of highest priority. (R449) -/
  | moverBeat
  /-- A chain descriptor is read and executed as a move, then its link is followed. (R469) -/
  | descriptor (ch : Nat)
  /-- A failed source read fails its beat with BUS_ERROR and ends the program. (R466) -/
  | moverReadFailure (ch : Nat)
  /-- An injection port chooses its next packet by Strike, reply, maintenance, then deficit round robin. (R479) -/
  | injectionGrant (port : Nat)
  /-- Each tick every enabled shaper and policer applies due resets and accrues RATE. (R486) -/
  | shaperTick
  /-- Every 1,000 ticks every sampled queue's DEPTH and DELAY are taken. (R493) -/
  | queueSample
  /-- A sample reaches a Dial and updates its count, sum, extremes and histogram. (R567) -/
  | dialSample (dial : Nat)
  /-- A flow's front frame starts at the first tick of a window occurrence in which it fits. (R106) -/
  | strikeFrameStart (flow : Nat)
  /-- At T the staged schedule bank becomes current. (R115) -/
  | strikeEpochSwitch
  /-- At R the old schedule bank is idled. (R115) -/
  | strikeEpochRetire
  /-- Without all ready reports within 100 ms the master cancels the schedule change. (R116) -/
  | strikeActivateTimeout
  /-- A Strike packet waiting 64 ticks or facing a fenced port is moved to the request class on escape. (R67) -/
  | strikeWaitExpiry (port : Nat)
  /-- A waiting head flit is granted an output virtual channel, oldest first, or delivered. (R57) -/
  | headFlitGrant (port : Nat) (vc : Nat)
  /-- A head flit waiting ESC_DELAY or DETOUR_WAIT ticks becomes eligible for escape. (R61) -/
  | escDelayExpiry (port : Nat) (vc : Nat)
  /-- Every 1 µs the head flit at the front of each buffer is discarded if 1,952 units old. (R84) -/
  | ageCheck
  /-- A function whose ejection writes make no progress for 100 µs raises HIF_EJECT_STALL and is fenced. (R71) -/
  | ejectStall (fn : Nat)
  /-- A flit group is decoded, checked and accepted in SEQ order or NAKed. (R154) -/
  | flitGroupReceive (port : Nat) (g : RawGroup)
  /-- Every 2 µs a receiver repeats its NAK until the expected group arrives. (R161) -/
  | nakRepeat (port : Nat)
  /-- A TRAIN ordered set advances the port through its training phases. (R170) -/
  | train (port : Nat) (lanes : List Nat)
  /-- A port not READY within its bound fails training and retries every 100 ms. (R170) -/
  | trainingTimeout (port : Nat)
  /-- Every 4 µs each ACTIVE fabric link direction sends a time-exchange ordered set. (R130) -/
  | timeXSend (port : Nat)
  /-- A received time exchange yields offset and delay, steers the rate and may synchronise. (R130) -/
  | timeX (port : Nat) (set : TimedSet)
  /-- A holdover lasting more than 1 ms raises RGL_SYNC_LOST. (R139) -/
  | holdoverExpiry
  /-- A received FENCE ordered set fences the port and raises LNE_PEER_FENCE. (R159) -/
  | fence (port : Nat) (lanes : List Nat)
  /-- A received SLEEP ordered set puts the receiver to sleep. (R174) -/
  | sleep (set : PortSet)
  /-- A transmit direction idle for SLEEP_IDLE µs sends SLEEP and enters electrical idle. (R174) -/
  | sleepEntry (port : Nat)
  /-- A sleeping direction wakes when a flit, credit or acknowledgement becomes due. (R175) -/
  | sleepWake (port : Nat)
  /-- A lane loses signal or lock; a bridge lane signals the twin block at once. (R169) -/
  | laneSignalLoss (port : Nat) (lane : Nat) (lock : Bool)
  /-- Loss lasting 500 ns takes the fabric link down and fences the port. (R169) -/
  | lneLinkDown (port : Nat)
  /-- REF_10M or TIME_IN_PPS loses signal or lock and REF_OK changes. (R169) -/
  | refSignalLoss (bits : Nat)
  /-- A PPS edge aligns the root's time-stamp to the announced second. (R128) -/
  | timeInPps (frac : Nat)
  /-- A time-of-day message naming the next PPS edge is checked and kept. (R125) -/
  | timeInTod (message : List Byte)
  /-- The output pulse rises at each whole second of Regulator time. (R126) -/
  | timeOutPps
  /-- A root without its reference for 10 s hands the role to the backup root. (R137) -/
  | rootHandover
  /-- The backup root becomes root after 20 µs without a valid root exchange or on a root fence. (R138) -/
  | backupRootTakeover
  /-- Every 1 µs a 512-tick replica window ends and MVT_PACE is updated and checked against LIMIT. (R42) -/
  | paceWindow (count : Nat) (mv : Nat) (tj : Int)
  /-- The epoch master receives a fence or restored-link report and starts an epoch change. (R641) -/
  | fenceReport (device : Nat) (r : PortReport)
  /-- An unacknowledged fence report is re-sent every 100 µs. (R641) -/
  | fenceReportResend
  /-- A device receives a new epoch and fault map, writes its idle bank and reports ready. (R79) -/
  | epochFlood (number : Nat) (map : FaultMap)
  /-- The master collects ready reports and floods switch time T. (R79) -/
  | epochReadyReport (r : ReadyReport)
  /-- A device receives T, switching on receipt if T has passed. (R80) -/
  | switchTimeFlood (f : SwitchFlood)
  /-- At T the staged route bank becomes current and the switch is reported. (R79) -/
  | routeEpochSwitch
  /-- The master collects switch reports and floods retirement time R. (R81) -/
  | switchReport (r : SwitchReport)
  /-- At R the old route bank is returned to idle. (R81) -/
  | routeEpochRetire
  /-- A device silent 1 ms after flood or after T is fenced and the change restarts. (R80) -/
  | epochReportTimeout
  /-- A Curator receives its twin's plane fault map over the bridge. (R77) -/
  | faultMapReport (map : FaultMap)
  /-- A received coordinate announcement may fix the coordinate or reveal a miswire. (R610) -/
  | coordinateAnnouncement (port : Nat) (coord : Nat)
  /-- A peer re-aims its connections to the survivor and closes its peer slot to the failed device. (R533) -/
  | reAimNotice (coord : Nat) (failed : Nat)
  /-- A reset from the epoch master warm-resets the device and takes its host link down. (R614) -/
  | fabricCommandedReset (sender : Nat)
  /-- Every 1 µs a twin block sends a HEARTBEAT frame while the bridge is READY. (R521) -/
  | heartbeatSend
  /-- A received HELLO frame drives pairing checks. (R517) -/
  | hello (frame : TwinFrame)
  /-- A received HEARTBEAT refreshes the partner's liveness and state. (R521) -/
  | heartbeat (frame : TwinFrame)
  /-- A received mirror record is buffered, confirmed and written to the mirror area. (R522) -/
  | mirror (frame : TwinFrame)
  /-- A SYNC_DONE frame confirms the configuration copy and leads to PAIRED. (R517) -/
  | syncDone (frame : TwinFrame)
  /-- Confirmation of a mirror record releases the gated event waiting on it. (R523) -/
  | mirrorConfirm (seq : Nat)
  /-- No HEARTBEAT for 4 µs is a cause of death. (R524) -/
  | heartbeatTimeout
  /-- Assertion of FATAL_IN is a cause of death and confirms a stop. (R524) -/
  | fatalIn
  /-- The plane 1 twin asserts TWIN_STOP_OUT 5 µs after a bridge cause unless stopped first. (R525) -/
  | twinStopDelayExpiry
  /-- Assertion of TWIN_STOP_IN forces the safe state. (R525) -/
  | twinStopIn
  /-- Without FATAL_IN 5 µs after TWIN_STOP_OUT, the twin enters PARTNER_DEAD without adopting. (R526) -/
  | stopConfirmTimeout
  /-- TWIN_STOP_OUT is deasserted 10 µs after FATAL_IN is seen. (R608) -/
  | stopOutRelease
  /-- With a queue's head and shadow words read, the survivor recreates and replays it. (R528) -/
  | adoptQueue (q : Nat)
  /-- Every 10 µs before its first doorbell, an adopted queue's shadow producer word is read. (R534) -/
  | shadowWordPoll (q : Nat)
  /-- A fault source occurrence is counted, logged and handled at its severity. (R543) -/
  | faultOccurrence (occs : List Occ)
  /-- A main-die rail below threshold or PWRGD low resets all main-die state. (R599) -/
  | powerOnReset
  /-- The main die leaves reset 1 ms after PWRGD and on PERST0# deassertion, sampling straps. (R600) -/
  | resetRelease (straps : Straps)
  /-- PERST0# asserted for 100 ns or more resets the main die except sticky fields. (R616) -/
  | warmReset
  /-- Link-down or hot reset of one half resets its functions as FLR. (R184) -/
  | linkHalfReset (half : Nat)
  /-- FLR discards a function's queues and resources without host access. (R206) -/
  | functionLevelReset (fn : Nat)
  /-- The machine record and lane table are read over I2C and accepted or defaulted. (R604) -/
  | machineRecordRead (bytes : List Byte)
  /-- The boot loader loads and checks the boot image, starts the Curator and releases FATAL_OUT at READY. (R605) -/
  | firmwareLoad
  /-- After READY the Curator fixes the coordinate from anchor, neighbour or twin. (R609) -/
  | coordinateDiscovery
  /-- A function entering D3hot stops fetching and NAKs its arrivals. (R618) -/
  | d3hotEntry (fn : Nat)
  /-- A function returning to D0 resumes fetching and delivering with its state kept. (R618) -/
  | d0Return (fn : Nat)
  /-- A rail or junction condition persisting for its time raises its supply or thermal source. (R40) -/
  | supplyMonitor (src : Nat) (value : Int)
  /-- REG_VDD power-on starts a new Registrar session after the image digest check. (R580) -/
  | registrarPowerOn
  /-- A tap frame adds per-tenant increments, or marks a gap. (R581) -/
  | tapFrame (lost : Bool) (bad : Bool)
  /-- No tap frame for 1 ms sets TAP_STOPPED and writes an event record. (R581) -/
  | tapStopped
  /-- 100,000 times a second each metered rail's power is integrated. (R585) -/
  | energySample (e : EnergySample)
  /-- At each period boundary the Registrar writes ENERGY and per-tenant records. (R588) -/
  | periodBoundary
  /-- A SEAL on the calibration port blows the SEAL fuse and freezes the parameters. (R592) -/
  | seal_
  /-- A calibration-port write is accepted before SEAL, or refused and sets TAMPER after. (R593) -/
  | calibrationWrite (w : CalWrite)
  /-- Assertion of CAL_EN after SEAL sets the tamper flag. (R593) -/
  | calEn
  /-- A device read over PCI Express returns its completion, or fails with Unsupported Request, Completer Abort, poison or completion timeout. (R202) -/
  | hostReadCompletion (addr : Nat) (data : List Byte) (error : Option CplError)
  /-- A host configuration write changes Bus Master Enable, VF Enable or Device Control of a function. (R186) -/
  | configurationRequest (fn : Nat) (bus : Nat) (w : CfgWrite)
  /-- A host link half finishes training, and its rate and width are reported in HIF_LINK_STATUS. (R181) -/
  | hostLinkTrained (half : Nat) (speed : Nat) (width : Nat)
  /-- A lane receiver in DETECT detects signal and locks clock recovery. (R170) -/
  | signalDetect (port : Nat) (lane : Nat)
  /-- The adaptation loop of every fabric lane reaches FOM_MIN and the ADAPT phase ends. (R170) -/
  | adapt (port : Nat) (lanes : List (Nat × LaneEq))
  /-- A lane receiver gains block lock after 64 consecutive valid sync headers. (R150) -/
  | blockLock (port : Nat) (lane : LaneHeads)
  /-- A lane's figure of merit stays below FOM_WARN for 1 ms and LNE_FOM_LOW is raised. (R167) -/
  | lneFomLow (port : Nat) (lane : Nat) (fom : Nat)
  /-- REF_10M and TIME_IN_PPS are present and locked again and REF_OK returns to 1, raising LNE_REF_LOSS. (R169) -/
  | refOk
  /-- A lock access or FLR report relayed from the twin or a remote Curator arrives at the target bank and is applied. (R509) -/
  | remoteRelay (r : LockRelay)
  /-- The group's root Curator collects tree ready reports, sets N and floods N and switch time T. (R434) -/
  | treeReadyReport (r : TreeReport)
  /-- The root's GROUP_DESTROY flood reaches another vertex, which destroys the group there. (R446) -/
  | destroyFlood (group : Nat)
  /-- FATAL_IN is deasserted when the partner's Curator becomes READY. (R517) -/
  | fatalInDeasserted
  /-- TWIN_STOP_IN is deasserted, re-arming the source for a later assertion. (R608) -/
  | twinStopInDeasserted
  /-- The host link enters ASPM L1 by host policy, and leaves it within 8 µs when the device requests exit for a pending access. (R617) -/
  | aspmL1 (half : Nat) (enter : Bool)
  deriving DecidableEq, Repr

end Sys2Proof
end

