-- ==== Sys2Proof/Decode.lean ====
section
/-! DEFINITION. The block takes commands, not words: no row of the opcode table has bits, so that no word spells a command. Each command
has its row's number in the table. -/

namespace Sys2Proof

/-- The command that a word spells by the table's bits: none, since the table gives no row any bits. -/
def decodeTableWord (_nbits _w : Nat) : Option Instr := none

/-- The number of a command's row in the opcode table, from 0. -/
def Instr.row (i : Instr) : Nat :=
  match i with
  | .deviceNop _ => 0
  | .deviceIdentify _ => 1
  | .deviceConfig _ => 2
  | .expertEnter _ => 3
  | .expertLeave _ => 4
  | .fwQuery _ => 5
  | .fwStage _ => 6
  | .fwCommit _ => 7
  | .fwDiscard _ => 8
  | .queueGroupGrant _ => 9
  | .queueGroupReclaim _ => 10
  | .queueCreate _ => 11
  | .queueDestroy _ => 12
  | .queueReset _ => 13
  | .queueQuery _ => 14
  | .eventRingCreate _ => 15
  | .eventRingDestroy _ => 16
  | .eventRingClear _ => 17
  | .connCreate _ => 18
  | .connConnect _ => 19
  | .connDestroy _ => 20
  | .connReset _ => 21
  | .connQuery _ => 22
  | .counterAlloc _ => 23
  | .counterFree _ => 24
  | .counterQuery _ => 25
  | .ctxConfig _ => 26
  | .regionCreate _ => 27
  | .regionRevoke _ => 28
  | .regionDestroy _ => 29
  | .regionQuery _ => 30
  | .regionInvalidate _ => 31
  | .faultRingCreate _ => 32
  | .faultRingDestroy _ => 33
  | .pageResolve _ => 34
  | .xltConfig _ => 35
  | .endpointCreate _ => 36
  | .endpointDestroy _ => 37
  | .endpointQuery _ => 38
  | .catConfig _ => 39
  | .groupCreate _ => 40
  | .groupDestroy _ => 41
  | .groupQuery _ => 42
  | .groupRebuild _ => 43
  | .carConfig _ => 44
  | .routeQuery _ => 45
  | .routeConfig _ => 46
  | .routePortFence _ => 47
  | .routeEpochChange _ => 48
  | .routeTableRead _ => 49
  | .strikeQuery _ => 50
  | .strikeStage _ => 51
  | .strikeActivate _ => 52
  | .strikeDiscard _ => 53
  | .strikeFlowBind _ => 54
  | .strikeFlowUnbind _ => 55
  | .strikeConfig _ => 56
  | .laneQuery _ => 57
  | .laneRetrain _ => 58
  | .laneSleepConfig _ => 59
  | .laneTableRead _ => 60
  | .laneConfig _ => 61
  | .lockClaim _ => 62
  | .lockRelease _ => 63
  | .lockQuery _ => 64
  | .lockGroupConfig _ => 65
  | .lockPeer _ => 66
  | .wordLockClaim _ => 67
  | .wordLockRelease _ => 68
  | .twinQuery _ => 69
  | .twinConfig _ => 70
  | .twinBridgeRetrain _ => 71
  | .twinAdopt _ => 72
  | .counterRead _ => 73
  | .counterConfig _ => 74
  | .userPageConfig _ => 75
  | .dialConfig _ => 76
  | .dialRead _ => 77
  | .provConfig _ => 78
  | .provRead _ => 79
  | .faultSevSet _ => 80
  | .faultQuery _ => 81
  | .faultLogRead _ => 82
  | .registrarQuery _ => 83
  | .registrarRead _ => 84
  | .moverChannelAlloc _ => 85
  | .moverChannelFree _ => 86
  | .moverChannelQuery _ => 87
  | .moverChannelPriority _ => 88
  | .moverConfig _ => 89
  | .schedGroupQuery _ => 90
  | .schedGroupQuantum _ => 91
  | .schedShaperConfig _ => 92
  | .schedPolicerConfig _ => 93
  | .schedFnQuery _ => 94
  | .schedQueueSample _ => 95
  | .schedConfig _ => 96
  | .commandTaken _ => 97
  | .commandComplete _ _ _ => 98
  | .commandTimeout _ => 99
  | .curCoreStop _ _ => 100
  | .adminQueueEnable _ _ => 101
  | .adminQueueDisable _ _ => 102
  | .admDb _ _ => 103
  | .admMailboxRead _ => 104
  | .dbProducer _ _ _ _ => 105
  | .inlineStore _ _ _ => 106
  | .movAppend _ _ => 107
  | .lockWordWrite _ _ _ => 108
  | .lockWaitRead _ _ => 109
  | .waitReadReturn _ => 110
  | .portFenceWrite _ _ _ => 111
  | .retrain _ _ => 112
  | .msixUnmask _ _ => 113
  | .latchingRegisterRead _ _ _ => 114
  | .userPageRead _ _ _ => 115
  | .registerWrite _ _ _ _ => 116
  | .undefinedOffsetAccess _ _ _ _ => 117
  | .nop _ => 118
  | .put _ => 119
  | .putImm _ => 120
  | .get _ => 121
  | .atomic _ => 122
  | .counterAdd _ => 123
  | .counterSet _ => 124
  | .barrier _ => 125
  | .reserveLoad _ => 126
  | .condStore _ => 127
  | .send _ => 128
  | .recv _ => 129
  | .collective _ => 130
  | .moverStart _ => 131
  | .moverChain _ => 132
  | .moverAppend _ => 133
  | .armedJobRelease _ _ => 134
  | .headIndexPublish _ => 135
  | .errorRingReread _ => 136
  | .eventRingReread _ _ => 137
  | .msixMessage _ _ => 138
  | .faultRingReread _ => 139
  | .receiveRingReread _ => 140
  | .localTimeout _ _ => 141
  | .pagePendingResend _ _ => 142
  | .retransmitTimeout _ _ => 143
  | .ackSend _ => 144
  | .fencedHoldExpiry _ => 145
  | .peerIdleExpiry _ => 146
  | .contextQuarantineEnd _ => 147
  | .endpointQuarantineEnd _ => 148
  | .handleQuarantineEnd _ => 149
  | .ejectionReserveTimeout _ _ => 150
  | .reservationExpiry _ => 151
  | .putArrival _ => 152
  | .strikePutArrival _ => 153
  | .getArrival _ => 154
  | .atomicArrival _ => 155
  | .reserveLoadArrival _ => 156
  | .condStoreArrival _ => 157
  | .flush _ => 158
  | .skip _ => 159
  | .peerOpen _ => 160
  | .peerClose _ => 161
  | .ack _ => 162
  | .nak _ => 163
  | .getData _ => 164
  | .atomicData _ => 165
  | .flushDone _ => 166
  | .peerOpenAck _ => 167
  | .peerCloseAck _ => 168
  | .msgEager _ => 169
  | .msgRts _ => 170
  | .msgRdvGet _ => 171
  | .msgFin _ => 172
  | .parkedPacketCommit _ _ => 173
  | .deliveryEnd _ _ => 174
  | .carUp _ _ => 175
  | .carDown _ _ => 176
  | .carAck _ _ => 177
  | .carEnd _ _ => 178
  | .carSlot _ _ => 179
  | .treeInstall _ => 180
  | .treeEpochSwitch _ => 181
  | .treeEpochRetire _ => 182
  | .treeReadyTimeout _ => 183
  | .groupJoin _ => 184
  | .groupCreateTimeout _ => 185
  | .move _ => 186
  | .moveChecked _ => 187
  | .loop _ => 188
  | .wait _ => 189
  | .waitEnd _ => 190
  | .signal _ => 191
  | .moverFence _ => 192
  | .moverEnd _ => 193
  | .moverBeat => 194
  | .descriptor _ => 195
  | .moverReadFailure _ => 196
  | .injectionGrant _ => 197
  | .shaperTick => 198
  | .queueSample => 199
  | .dialSample _ => 200
  | .strikeFrameStart _ => 201
  | .strikeEpochSwitch => 202
  | .strikeEpochRetire => 203
  | .strikeActivateTimeout => 204
  | .strikeWaitExpiry _ => 205
  | .headFlitGrant _ _ => 206
  | .escDelayExpiry _ _ => 207
  | .ageCheck => 208
  | .ejectStall _ => 209
  | .flitGroupReceive _ _ => 210
  | .nakRepeat _ => 211
  | .train _ _ => 212
  | .trainingTimeout _ => 213
  | .timeXSend _ => 214
  | .timeX _ _ => 215
  | .holdoverExpiry => 216
  | .fence _ _ => 217
  | .sleep _ => 218
  | .sleepEntry _ => 219
  | .sleepWake _ => 220
  | .laneSignalLoss _ _ _ => 221
  | .lneLinkDown _ => 222
  | .refSignalLoss _ => 223
  | .timeInPps _ => 224
  | .timeInTod _ => 225
  | .timeOutPps => 226
  | .rootHandover => 227
  | .backupRootTakeover => 228
  | .paceWindow _ _ _ => 229
  | .fenceReport _ _ => 230
  | .fenceReportResend => 231
  | .epochFlood _ _ => 232
  | .epochReadyReport _ => 233
  | .switchTimeFlood _ => 234
  | .routeEpochSwitch => 235
  | .switchReport _ => 236
  | .routeEpochRetire => 237
  | .epochReportTimeout => 238
  | .faultMapReport _ => 239
  | .coordinateAnnouncement _ _ => 240
  | .reAimNotice _ _ => 241
  | .fabricCommandedReset _ => 242
  | .heartbeatSend => 243
  | .hello _ => 244
  | .heartbeat _ => 245
  | .mirror _ => 246
  | .syncDone _ => 247
  | .mirrorConfirm _ => 248
  | .heartbeatTimeout => 249
  | .fatalIn => 250
  | .twinStopDelayExpiry => 251
  | .twinStopIn => 252
  | .stopConfirmTimeout => 253
  | .stopOutRelease => 254
  | .adoptQueue _ => 255
  | .shadowWordPoll _ => 256
  | .faultOccurrence _ => 257
  | .powerOnReset => 258
  | .resetRelease _ => 259
  | .warmReset => 260
  | .linkHalfReset _ => 261
  | .functionLevelReset _ => 262
  | .machineRecordRead _ => 263
  | .firmwareLoad => 264
  | .coordinateDiscovery => 265
  | .d3hotEntry _ => 266
  | .d0Return _ => 267
  | .supplyMonitor _ _ => 268
  | .registrarPowerOn => 269
  | .tapFrame _ _ => 270
  | .tapStopped => 271
  | .energySample _ => 272
  | .periodBoundary => 273
  | .seal_ => 274
  | .calibrationWrite _ => 275
  | .calEn => 276
  | .hostReadCompletion _ _ _ => 277
  | .configurationRequest _ _ _ => 278
  | .hostLinkTrained _ _ _ => 279
  | .signalDetect _ _ => 280
  | .adapt _ _ => 281
  | .blockLock _ _ => 282
  | .lneFomLow _ _ _ => 283
  | .refOk => 284
  | .remoteRelay _ => 285
  | .treeReadyReport _ => 286
  | .destroyFlood _ => 287
  | .fatalInDeasserted => 288
  | .twinStopInDeasserted => 289
  | .aspmL1 _ _ => 290

end Sys2Proof
end

