-- ==== Sys2Proof/Config.lean ====
section
/-! DEFINITION. What the spec leaves free: constants without a body, which no proof can see into. Each is named in
the assumption log; every statement about the machine holds for every value of them. -/

namespace Sys2Proof

/-- The `n`-th free number the device draws (log entry 1): the RANDOM reload of R569, the spurious failure of R331,
the choice between a stale and a new translation of R294, the SESSION of R589, and every value the spec does not
state for an effect that it does state. -/
opaque Config.free : Nat → Nat

/-- The contents of the device-local area after reset, by byte (R286; log entry 2). -/
opaque Config.deviceLocal : Nat → Byte

/-- The contents of the SRAM words that word locks may name after reset, by byte (R510; log entry 2). -/
opaque Config.sram : Nat → Byte

/-- The SHA-384 digest of Nelier's public key that the fuses hold; the spec does not give it (R268, R270; log entry 3). -/
opaque Config.keyDigest : List Byte

/-- CRC of the Registrar's sealed parameter block, whose layout the spec does not give (R592, R595; log entry 4). -/
opaque Config.paramCrc : List Nat → Nat

/-- A rail's power in µW from its calibration gain and offset and a sensor's voltage in mV and current in mA; the formula is not
stated (R585; log entry 26). -/
opaque Config.railPower : Nat → Nat → Nat → Nat → Nat

/-- The result of FETCH_ADD_F64 where an operand is a NaN or the sum is invalid: the payload of the quiet NaN is
not stated (R341; log entry 5). -/
opaque Config.nanSum : Nat → Nat → Nat

/-- The two ports that the detour table of an epoch, by its number and fault map, names for a fenced fabric port; the spec asks only that
they lie in other dimensions (R73; log entry 13). -/
opaque Config.detour : Nat → FaultMap → Nat → Nat × Nat

/-- The offset in the companion function's BAR0 at which it holds its copy of HIF_LINK_STATUS; the spec places the copy nowhere
(R183; log entry 27). -/
opaque Config.companionLink : Nat

/-- Bytes of the 16 MiB staging partition that parked match packets may take; the spec gives no share (R47, R386; log entry 125). -/
opaque Config.parkSpace : Nat

/-- The equalizer setting from which a lane's training starts, by RX_CTLE and LOSS of its entry; how LOSS adjusts it is not stated (R167; log
entry 147). -/
opaque Config.ctleStart : Nat → Nat → Nat

/-- Flits of ejection staging that may be reserved for replies; the spec gives no size (R68; log entry 42). -/
opaque Config.ejectSpace : Nat

/-- Part serial number and grade, by fuse (R275; log entry 6). -/
opaque Config.serial : Nat
/-- GRADE, by fuse: false EDL-1200-C, true EDL-1200-X (R275; log entry 6). -/
opaque Config.gradeX : Bool

end Sys2Proof
end

