-- ==== Sys2Proof/Machine/State.lean ====
section
/-! DEFINITION. The whole state of the device as plain data, one record for each block, and the state after
power-on reset. Every field names the rule of the spec that gives it. Fields marked MODEL are the model's own. -/

namespace Sys2Proof.Machine

/-! ### Custodian (chapter 18) -/

/-- One fault source (R542, R556). `sev = none` is the source's default. -/
structure FaultSrc where
  /-- SEV, once it has been written (R542). -/
  sev : Option Nat := none
  /-- The severity that still holds in the tick of a write of SEV (R545). -/
  sevOld : Option Nat := none
  seen : Bool := false
  /-- Occurrences since reset, 32 bits, wraps (R556). -/
  count : Nat := 0
  lastDetail : Nat := 0
  /-- SEQ and tick of the record this source wrote last (R548). -/
  lastRec : Option (Nat × Nat) := none
  deriving DecidableEq, Repr

/-- A fault-log record (R549). -/
structure LogRec where
  seq : Nat
  source : Nat := 0
  sev : Nat := 0
  isLocal : Bool := false
  count : Nat := 0
  time : Nat := 0
  detail : Nat := 0
  deriving DecidableEq, Repr

/-- CUS_FATAL and its companions (R555). -/
structure FatalRec where
  source : Nat
  isLocal : Bool
  others : Nat
  ts : Nat
  detail : Nat
  deriving DecidableEq, Repr

structure Custodian where
  /-- CUS_SRC (R556). -/
  srcs : FMap FaultSrc := []
  /-- SAFE_PRIOR, sticky (R554). -/
  safePrior : Bool := false
  /-- NEXT_SEQ, sticky (R554). -/
  nextSeq : Nat := 0
  /-- CUS_FATAL, CUS_FATAL_TS, CUS_FATAL_DETAIL, sticky (R555). -/
  fatal : Option FatalRec := none
  /-- The fault log by slot, sticky (R549, R557); an unlisted slot is as after power-on. -/
  log : FMap LogRec := []
  /-- The device is in the safe state (R551). -/
  safe : Bool := false
  /-- UNIT fences of R546 in force, as (UNIT, its number). -/
  unitFences : List (Nat × Nat) := []
  /-- MODEL: occurrences of this step that the Custodian has yet to handle; empty between steps. -/
  raised : List Occ := []
  deriving DecidableEq, Repr

/-! ### Monitors (chapter 19) -/

/-- One event or occupancy counter (R560, R572). -/
structure Cnt where
  value : Nat := 0
  saturate : Bool := false
  wrapped : Bool := false
  saturated : Bool := false
  thresh : Nat := 0
  /-- MODE and THRESH that still hold in the tick of a change (R562). -/
  old : Option (Bool × Nat) := none
  deriving DecidableEq, Repr

/-- One Dial (R566 to R568, R574). -/
structure Dial where
  kind : Nat := 0
  en : Bool := false
  shift : Nat := 0
  arg : Nat := 0
  min : Nat := 18446744073709551615
  minTs : Nat := 0
  max : Nat := 0
  maxTs : Nat := 0
  count : Nat := 0
  sum : Nat := 0
  lastTs : Nat := 0
  bins : FMap Nat := []
  /-- Samples on their way to the Dial, oldest first: value and time-stamp (R568). -/
  coming : List (Nat × Nat) := []
  /-- Samples of the present tick that have been applied: a CLEAR in the same tick keeps them (R568). -/
  recent : List (Nat × Nat) := []
  deriving DecidableEq, Repr

/-- A function's user counter page (R564, R565, R573). -/
structure UserPage where
  en : Bool := false
  slots : List Nat := []
  deriving DecidableEq, Repr

/-- A Provenance record (R570). -/
structure ProvRec where
  seq : Nat
  queue : Nat := 0
  isLocal : Bool := false
  opcode : Nat := 0
  index : Nat := 0
  status : Nat := 0
  entries : Nat := 0
  context : Nat := 0
  lkey : Nat := 0
  loffset : Nat := 0
  rkey : Nat := 0
  roffset : Nat := 0
  dest : Nat := 0
  destPlane : Nat := 0
  length : Nat := 0
  tPost : Nat := 0
  latency : Nat := 0
  toFirst : Nat := 0
  deriving DecidableEq, Repr

/-- MON_PROV_CFG (R575). -/
structure ProvCfg where
  n : Nat := 1024
  en : Bool := false
  random : Bool := false
  stopFull : Bool := false
  tenant : Nat := 0
  anyTenant : Bool := true
  opcode : Nat := 0
  anyOpcode : Bool := true
  deriving DecidableEq, Repr

structure Monitors where
  /-- The 1,427 counters by number (R558); an unlisted counter is 0. -/
  cnt : FMap Cnt := []
  /-- Events counted in the present tick, by counter (R562). -/
  inTick : FMap Nat := []
  /-- Largest level that an occupancy counter's quantity held in the present tick (R559). -/
  peak : FMap Nat := []
  /-- MON_CNT_TS of the last sample of each counter (R561, R572). -/
  cntTs : FMap Nat := []
  pages : FMap UserPage := []
  dials : FMap Dial := []
  prov : ProvCfg := {}
  /-- Countdown to the next sampled job (R569). -/
  countdown : Nat := 1024
  provNext : Nat := 0
  provFull : Bool := false
  /-- Records written since the latest PROV_CONFIG (R571). -/
  provSince : Nat := 0
  provLog : FMap ProvRec := []
  deriving DecidableEq, Repr

/-! ### Host interface (chapter 06) -/

/-- One MSI-X table entry (R203). -/
structure MsixVec where
  addr : Nat := 0
  data : Nat := 0
  masked : Bool := true
  deriving DecidableEq, Repr

/-- One function: HIF_FN_STATE (R211), its configuration bits (R182, R185, R200) and its MSI-X state (R203). -/
structure Fn where
  present : Bool := false
  bme : Bool := false
  flr : Bool := false
  fenced : Bool := false
  rid : Nat := 0
  /-- Enable Relaxed Ordering (R200): set after reset by the base specification. -/
  relaxed : Bool := true
  vfEnable : Bool := false
  numVfs : Nat := 0
  cplTimeout : Nat := 0
  tag10 : Bool := false
  fnMask : Bool := false
  /-- MSI-X Enable, ARI Capable Hierarchy, Max Payload Size and Max Read Request Size by code, and the uncorrectable error status of AER (R182),
  with the base specification's reset values (log entry 151). -/
  msixEn : Bool := false
  ari : Bool := false
  maxPayload : Nat := 0
  maxRead : Nat := 2
  aer : Nat := 0
  /-- It has been reset, and its driver has not enabled it again (R206, R207). -/
  sinceFlr : Bool := false
  /-- D3hot (R618). -/
  d3hot : Bool := false
  /-- Base addresses of BAR0, 2 and 4, and at 10 more those of the SR-IOV capability; unlisted: not assigned (R188). -/
  bars : FMap Nat := []
  vectors : FMap MsixVec := []
  /-- Vectors whose pending bit is set (R204). -/
  pend : List Nat := []
  /-- Tick since which an ejection write for the function has made no progress (R71, R186). -/
  stallFrom : Option Nat := none
  deriving DecidableEq, Repr

/-- One slot of the combining buffer: bytes stored and their valid mask (R198). -/
structure WcSlot where
  group : Nat
  slot : Nat
  j8 : Nat
  bytes : FMap Byte := []
  deriving DecidableEq, Repr

/-- One half of the host link (R208). -/
structure LinkHalf where
  up : Bool := false
  speed : Nat := 0
  width : Nat := 0
  /-- ASPM L1 (R617). -/
  l1 : Bool := false
  deriving DecidableEq, Repr

structure HostIf where
  /-- The mode of the host link, sampled at power-on reset only (R181): 0 x16, 1 two x8 halves. -/
  mode : Nat := 0
  half0 : LinkHalf := {}
  half1 : LinkHalf := {}
  /-- HIF_FN_CFG (R209). -/
  vfVectors : Nat := 7
  wcEn : Bool := true
  /-- Functions by tenant number; 256 is the companion function (R183). -/
  fns : FMap Fn := []
  /-- Combining buffer, least recently stored first (R198). -/
  wc : List WcSlot := []
  /-- Queue group grants: group to (tenant, page index) (R214, R241). -/
  grants : FMap (Nat × Nat) := []
  /-- MSI-X messages sent, oldest first: (function, vector, address, data) (R204). -/
  msgs : List (Nat × Nat × Nat × Nat) := []
  /-- Read latches of 64-bit registers, by function * 2^26 + offset (R17). -/
  latch : FMap Nat := []
  /-- Held lower-half writes of 64-bit registers, by function * 2^26 + offset (R17). -/
  held : FMap Nat := []
  /-- MODEL: the value that the latest host read returned, and to which function (reads R191, R192);
  none while the latest read is held. -/
  rdData : Option (Nat × Nat) := none
  deriving DecidableEq, Repr

/-! ### Rings and work queues (chapter 07) -/

/-- Queue states, HIF_QUEUE_STATE.STATE (R240). -/
inductive QState where
  | disabled
  | active
  | blocked
  | stopped
  | draining
  deriving DecidableEq, Repr

/-- Where a job stands: grouped and not started; armed (R366); started; failed with its record still to be written (R223); done (R222). -/
inductive JobSt where
  | waiting
  | armed
  | running
  | failed
  | done
  deriving DecidableEq, Repr

/-- A job that the device holds: from its grouping until the head index passes it (R218, R222). -/
structure Job where
  idx : Idx
  entries : List Line
  opcode : Nat
  context : Nat := 0
  cookie : Nat := 0
  fence : Bool := false
  arm : Bool := false
  event : Bool := false
  malformed : Bool := false
  st : JobSt := .waiting
  /-- Final status so far; 0 while none has failed (R239). -/
  status : Nat := 0
  detail0 : Nat := 0
  detail1 : Nat := 0
  /-- Next operand offset for which a packet has yet to be built (R343). -/
  nextOff : Nat := 0
  /-- Every packet of the job has been built. -/
  built : Bool := false
  /-- Packets built and not yet answered or abandoned (R344). -/
  pend : Nat := 0
  /-- Lowest job offset of a failed packet (R344). -/
  failOff : Option Nat := none
  /-- Connections whose FLUSH_DONE a BARRIER still awaits (R320). -/
  flush : List Nat := []
  /-- Time-stamp of acceptance or of release, and of the first packet (R570). -/
  tPost : Nat := 0
  tStart : Nat := 0
  tFirst : Option Nat := none
  sampled : Bool := false
  /-- STRIKE_LATE is due as the completion of the frame (R111). -/
  late : Bool := false
  /-- Strike: the frame has started; it was spilled to the request class; its lateness has been counted (R106, R108). -/
  started : Bool := false
  spilled : Bool := false
  /-- Strike: the flow in whose window the frame was injected; 0 none (R50, R107). -/
  flow : Nat := 0
  lateSeen : Bool := false
  /-- SEND: the RDV_ID it holds (R392), and its MSN once its match packet has been sent (R382). -/
  rdvId : Option Nat := none
  msn : Option Psn := none
  deriving DecidableEq, Repr

/-- The job does nothing more: it is done, or it has failed. -/
def Job.over (j : Job) : Bool := j.st == .done || j.st == .failed

/-- An error record (R225). -/
structure ErrRec where
  idx : Idx
  status : Nat
  opcode : Nat
  entries : Nat
  cookie : Nat
  time : Nat
  isLocal : Bool
  detail0 : Nat
  detail1 : Nat
  /-- The STATUS byte is still to be written: the function's memory was out of reach (R185). -/
  statusDue : Bool := false
  deriving DecidableEq, Repr

/-- A work queue (R214, R240). -/
structure Queue where
  st : QState := .disabled
  strict : Bool := false
  supervisor : Bool := false
  fn : Nat := 0
  evr : Nat := 0
  base : Nat := 0
  log2 : Nat := 0
  shadow : Nat := 0
  headAddr : Nat := 0
  errBase : Nat := 0
  errLog2 : Nat := 0
  errCons : Nat := 0
  /-- LAST, CONS (R194) and the last published head index (R221). CONS is the next entry to group. -/
  last : Idx := 0
  cons : Idx := 0
  head : Idx := 0
  /-- Next error SEQ, and the last error-ring consumer word read (R224, R226). -/
  errSeq : Idx := 0
  errCached : Idx := 0
  waiting : List ErrRec := []
  /-- Jobs from the head index on, in index order. -/
  jobs : List Job := []
  /-- Start index of an unfinished chain that the doorbell does not cover yet is CONS itself (R218). Time-stamps
  of accepted doorbells: (value, time) newest last (R570). -/
  posts : List (Idx × Nat) := []
  /-- Connections with early-acknowledged writes that no BARRIER has flushed (R643). -/
  unflushed : List Nat := []
  /-- Inline copies taken by the doorbells that covered them (R199). -/
  inl : List (Idx × Line) := []
  /-- Adopted from the partner, and its first doorbell has not arrived (R534). -/
  adopted : Bool := false
  deriving DecidableEq, Repr

/-- A pending mark for a pair (SOURCE, TYPE) (R237). -/
structure Mark where
  source : Nat
  type : Nat
  count : Nat
  info : Nat
  time : Nat
  isLocal : Bool
  deriving DecidableEq, Repr

/-- An event ring (R233, R236, R238). -/
structure EvRing where
  base : Nat
  log2 : Nat
  vector : Nat
  modNs : Nat
  consAddr : Nat
  statusAddr : Nat
  cached : Idx := 0
  seq : Idx := 0
  overflow : Bool := false
  episodes : Nat := 0
  lastMsg : Option Nat := none
  /-- A record has been written whose message has not been sent (R238). -/
  msgDue : Bool := false
  /-- The ring's message has gone to its vector's pending bit (R204). -/
  msgPend : Bool := false
  /-- Marks are pending since an event found the ring full (R236, R237). -/
  episode : Bool := false
  deriving DecidableEq, Repr

structure Rings where
  queues : FMap Queue := []
  /-- Event rings by function * 64 + ring (R233). -/
  rings : FMap EvRing := []
  /-- Pending marks by function * 64 + ring, first set first (R233, R237). -/
  marks : FMap (List Mark) := []
  deriving DecidableEq, Repr

/-! ### Curator (chapter 08) -/

/-- The four words of a status reply (R256). -/
structure Reply where
  tag : Nat := 0xFFFF
  status : Nat := 0
  isLocal : Bool := false
  opcode : Nat := 0
  respBytes : Nat := 0
  detail : Nat := 0
  time : Nat := 0
  deriving DecidableEq, Repr

/-- What a command that has been taken waits on (R254), with what its end needs. -/
inductive Wait where
  | none
  /-- What it waited on has come: the status, the response and the DETAIL it ends with. -/
  | ready (status : Nat) (resp : List Byte) (detail : Nat)
  | routeEpoch
  | strikeSwitch
  | laneTrain (port : Nat)
  | groupEpoch (group : Nat)
  /-- A lost claim: its lock and identity, and the tick at which its wait ends. -/
  | lockWait (lock : Nat) (identity : Nat) (until_ : Nat)
  | lockPeer
  | drain
  | trainBridge
  | adopt
  /-- Accesses that passed their check before a revocation, destruction or invalidation: the region, or every region of the function; whether
  its index is freed at the end; and the response (R301, R309). -/
  | accesses (region : Option Nat) (destroy : Bool) (resp : List Byte)
  deriving DecidableEq, Repr

/-- A command that has been taken and is not complete (R250). -/
structure Cmd where
  index : Idx
  opcode : Nat
  tag : Nat
  event : Bool
  params : List Byte
  respAddr : Nat
  respLen : Nat
  /-- Ticks of the covering doorbell and of the taking (R254, R566). -/
  tDoorbell : Nat
  tTaken : Nat
  /-- How many commands the device had taken before it (R255). -/
  order : Nat := 0
  wait : Wait := .none
  /-- Size of the ring when the command was taken, and its base (R252). -/
  slotAddr : Nat
  deriving DecidableEq, Repr

/-- ADM_STATE.STATE (R243). -/
inductive AdmSt where
  | disabled
  | idle
  | busy
  deriving DecidableEq, Repr

/-- One function's admin queue (R243). -/
structure AdmQ where
  base : Nat := 0
  head : Nat := 0
  log2 : Nat := 6
  enable : Bool := false
  st : AdmSt := .disabled
  cons : Idx := 0
  last : Idx := 0
  mailbox : Reply := {}
  cmd : Option Cmd := none
  /-- Tick at which the accepted doorbell value was accepted (R566). -/
  tDb : Nat := 0
  deriving DecidableEq, Repr

/-- A firmware slot's state (R274). -/
inductive SlotSt where
  | erased
  | invalid
  | valid
  | running
  deriving DecidableEq, Repr

/-- A firmware slot of the flash (R268, R271, R274). `data` holds the bytes staged into it, sparsely. -/
structure FwSlot where
  st : SlotSt := .erased
  version : Nat := 0
  svn : Nat := 0
  digest : Nat := 0
  data : List Host.Cell := []
  deriving DecidableEq, Repr

structure Curator where
  ready : Bool := false
  /-- Bit n of CORES, for cores 0 to 3 (R276). -/
  cores : List Bool := [false, false, false, false]
  staged : Bool := false
  committed : Bool := false
  /-- Codes of the blocks in expert mode (R276). -/
  expert : List Nat := []
  adm : FMap AdmQ := []
  /-- Tenant served last in the round robin of R254. -/
  rr : Nat := 255
  /-- MODEL: commands taken so far, which gives their order (R255). -/
  taken : Nat := 0
  /-- Whether a FW_STAGE has erased the slot since the last discard or reset (R271). -/
  fwErased : Bool := false
  /-- RAISE of the FW_COMMIT in force (R272). -/
  fwRaise : Bool := false
  deriving DecidableEq, Repr

/-! ### Regulator (chapter 04) -/

/-- What a neighbour announced in its latest TIME_X (R129, R158). -/
structure Nbr where
  depth : Nat := 0x3F
  root : Nat := 0
  rootValid : Bool := false
  exch : Nat := 0
  /-- The neighbour named this device as its parent (IS_PARENT). -/
  isParent : Bool := false
  deriving DecidableEq, Repr

structure Regulator where
  /-- The time-stamp, in units of 0.25 ns (R123, R141). -/
  time : Nat := 0
  /-- Sample ticks since the main die left reset: every timer of the device counts these (R12, R35). -/
  ticks : Nat := 0
  /-- Active role: 0 member, 1 root, 2 backup root (R142). -/
  role : Nat := 0
  synced : Bool := false
  holdover : Bool := false
  refOk : Bool := false
  /-- SYNC_LOST, sticky (R142). -/
  syncLost : Bool := false
  parent : Nat := 0xF
  depth : Nat := 0x3F
  /-- RGL_OFFSET (R143). -/
  offset : Int := 0
  delay : Nat := 0
  /-- RGL_CFG (R144). -/
  cfgRole : Nat := 0
  toutEn : Bool := true
  skewLimit : Nat := 100
  /-- RGL_ROOT (R145). -/
  rootCoord : Nat := 0
  rootValid : Bool := false
  changes : Nat := 0
  /-- Last accepted second count of TIME_IN_TOD, and the counts of the messages since (R125). -/
  tod : Option Nat := none
  todRecent : List Nat := []
  /-- The next PPS edge has been named by a valid message (R125, R140). -/
  todNamed : Bool := false
  /-- Consecutive exchanges within 2 ns, and consecutive ones beyond SKEW_LIMIT (R139, R140). -/
  good : Nat := 0
  bad : Nat := 0
  /-- Tick at which the present holdover, and the present loss of reference, began (R136 to R139). -/
  holdFrom : Option Nat := none
  refLostAt : Option Nat := some 0
  /-- Tick of the latest exchange with the root's coordinate and ROOT_VALID (R138). -/
  rootHeard : Nat := 0
  nbrs : FMap Nbr := []
  /-- Send instant of the latest TIME_X sent, and receive instant of the latest received, by port (R158). -/
  txAt : FMap Nat := []
  rxAt : FMap Nat := []
  /-- Correction of the rate now in force, in ps per 4 µs, signed (R130). -/
  steer : Int := 0
  /-- Correction accumulated since the last whole 0.25 ns, in 250 ps / 1,000,000 (R130). -/
  frac : Int := 0
  /-- What is left of the correction after a PPS edge, in the same part; none: the correction goes on until the next exchange (R128, R130). -/
  steerLeft : Option Nat := none
  /-- Exchange number of the latest TIME_X sent, and the tick in which it was, by port (R130, R158). -/
  txNum : FMap Nat := []
  txTick : FMap Nat := []
  /-- Ports whose latest TIME_X sent named the receiver as parent (R158, R174). -/
  txParent : List Nat := []
  /-- Tick until which TIME_OUT_PPS stays high (R126). -/
  ppsUntil : Nat := 0
  /-- TIME_IN_PPS: instant of the latest edge that was not ignored, on the oscillator's count of 0.25 ns, tick of the latest edge, stray edges
  in a row (R169), and the time-stamp's offset from the latest edge that was not ignored (R143). -/
  ppsAt : Option Nat := none
  ppsLast : Nat := 0
  ppsStray : Nat := 0
  ppsOff : Int := 0
  /-- It has synchronised since reset (R85, R140). -/
  hadSync : Bool := false
  deriving DecidableEq, Repr

/-! ### Movement (chapters 01 and 02) -/

/-- What a route bank holds (R78, R79). -/
inductive BankSt where
  | idle
  | staged
  | current
  | old
  deriving DecidableEq, Repr

/-- One bank of routing, detour and fault tables. The tables are functions of the fault map and the mode. -/
structure RouteBank where
  st : BankSt := .idle
  number : Nat := 0
  /-- 0 dimension order, 1 safe route (R89). -/
  mode : Nat := 0
  map : FaultMap := {}
  deriving DecidableEq, Repr

/-- A packet at a receive port or an injection port: the flits that have arrived, those that have been forwarded,
and the output virtual channel that it claims (R55, R57). -/
structure Held where
  pkt : Packet
  got : Nat
  sent : Nat := 0
  claim : Option (Nat × Nat) := none
  /-- Tick at which the head flit arrived, and from which it waits here (R61, R67). -/
  arr : Nat := 0
  /-- ESC_DELAY or DETOUR_WAIT has run out (R61, R74); the Strike wait has run out (R67). -/
  escReady : Bool := false
  /-- The port that a Carillon packet sent here leaves by, its tree edge, or a management packet (R65, R66, R411). -/
  out : Option Nat := none
  /-- Flits of it in the buffer for which a credit is to return to the sender (R55; log entry 139). -/
  due : Nat := 0
  deriving DecidableEq, Repr

structure Movement where
  /-- MVT_SHAPE (R86): sizes minus one of A to F; empty until the shape has been read. -/
  shape : List Nat := []
  /-- MVT_SELF (R87). -/
  coord : Nat := 0
  plane : Nat := 0
  selfValid : Bool := false
  /-- MVT_ROUTE_CFG (R88). -/
  escDelay : Nat := 64
  detourEn : Bool := true
  detourWait : Nat := 512
  /-- The two banks by EPOCH bit (R79). -/
  bank0 : RouteBank := {}
  bank1 : RouteBank := {}
  /-- MVT_EPOCH_T and MVT_EPOCH_R of the latest change (R89), and the switch and retirement that are due. -/
  epochT : Nat := 0
  epochR : Nat := 0
  dueT : Option Nat := none
  dueR : Option Nat := none
  /-- Administrative fences (R90), fences as link faults or by the Custodian (R72, R546), fences of FENCE (R159). -/
  adminFence : List Nat := []
  linkFence : List Nat := []
  peerFence : List Nat := []
  /-- Packets by input port * 16 + virtual channel, oldest first; input ports 12, 13 and 15 hold injected packets. -/
  bufs : FMap (List Held) := []
  /-- Claims of output channels: output port * 16 + VC to input port * 16 + VC (R57). -/
  claims : FMap Nat := []
  /-- Rotating pointer of each input port (R60). -/
  rotate : FMap Nat := []
  /-- The channel of each output port that sent the latest flit: channels take turns (R57). -/
  turns : FMap Nat := []
  /-- Flits still to come of a packet that was discarded before its tail arrived, by input port * 16 + channel (R55). -/
  swallow : FMap Nat := []
  /-- Packets delivered to their engine and not yet consumed (R29), oldest first. -/
  eject : List Packet := []
  /-- MODEL: the function for which a packet of `eject` waits (R71, R558). -/
  heldFor : List (Packet × Nat) := []
  /-- The fault map of the other plane, as the twin last reported it (R77). -/
  twinMap : Option FaultMap := none
  /-- MVT_PACE, MVT_PACE_TS (R42, R43) and MVT_PACE_LIMIT (R44). -/
  period : Nat := 0
  coreMv : Nat := 0
  tj : Nat := 0
  paceSeq : Nat := 0
  paceTs : Nat := 0
  limit : Nat := 0x04B8
  limitEn : Bool := true
  /-- MVT_PACE_LIMIT as it was before a write in this tick (R45). -/
  limitOld : Option (Nat × Bool) := none
  deriving DecidableEq, Repr

/-- One fence report or restored-link report that the master has not acknowledged (R641). -/
structure Report where
  port : Nat
  restored : Bool
  sentAt : Nat
  /-- The master has acknowledged it: it is sent no more. A restored link's report stays until the link joins (R172, R641). -/
  acked : Bool := false
  deriving DecidableEq, Repr

/-- The route epoch change that this device runs as epoch master (R79 to R82). -/
structure MasterChange where
  number : Nat
  map : FaultMap
  /-- Tick of the flood of step 1. -/
  flooded : Nat
  ready : List Nat := []
  t : Option Nat := none
  /-- Devices that have switched, and when. -/
  switched : List (Nat × Nat) := []
  r : Option Nat := none
  deriving DecidableEq, Repr

/-- The Strike schedule change that this device runs as epoch master (R115, R116). -/
structure StrikeChange where
  id : Nat
  epoch : Nat
  participants : Nat
  ready : List Nat
  /-- Tick of the first report. -/
  start : Nat
  t : Option Nat := none
  switched : List (Nat × Nat) := []
  deriving DecidableEq, Repr

/-- Epoch work of the Curator: its own reports, and its work as epoch master (R79 to R82, R115, R434, R641). -/
structure Epochs where
  reports : List Report := []
  /-- Links whose restoration one end has reported: (linear number, port) (R172). -/
  restored : List (Nat × Nat) := []
  /-- The master's fault map, with the changes reported during a change (R82); until it is known, the current bank's, or that
  of a plane without a link. -/
  known : Bool := false
  masterMap : FaultMap := {}
  change : Option MasterChange := none
  /-- Another change must follow the present one (R82, R95). -/
  again : Bool := false
  /-- Devices that the master has fenced for their silence: linear number, tick, and tick of the latest reset sent (R80, R614). -/
  silent : List (Nat × Nat × Option Nat) := []
  strike : Option StrikeChange := none
  /-- Strike changes past their T whose R is not set, while the reports of another come (R115). -/
  strikeOld : List StrikeChange := []
  /-- This device has switched its route epoch since reset (R611). -/
  joined : Bool := false
  /-- Coordinates that neighbours have announced, by port (R610). -/
  told : FMap Nat := []
  /-- MODEL: messages that this Curator has sent to others, oldest first: destination coordinate, none for a flood to every
  device of the plane (R66). -/
  sent : List (Option Nat × CurMsg) := []
  deriving DecidableEq, Repr

/-! ### Lanes (chapter 05) -/

/-- LNE_PORT_STATUS.TX_STATE and RX_STATE (R173, R179). -/
inductive LaneSt where
  | down
  | training
  | active
  | sleep
  | safe
  deriving DecidableEq, Repr

/-- One flit handed to a transmit island. A head flit carries its packet's headers; a twin frame stands alone. -/
structure TxFlit where
  vc : Nat := 0
  head : Option Packet := none
  data : List Byte := []
  poison : Bool := false
  twin : Option TwinFrame := none
  deriving DecidableEq, Repr

/-- A group that a port has sent: its trailer's fields, its flits in slot order, and its used credit slots (R153, R155). -/
structure OutGroup where
  seq : Nat
  ack : Nat
  nak : Bool
  flits : List TxFlit := []
  credits : List (Nat × Nat) := []
  deriving DecidableEq, Repr

/-- A stored non-empty group (R160). -/
structure TxGroup where
  seq : Nat
  flits : List TxFlit
  deriving DecidableEq, Repr

/-- One fabric port's or the bridge's lanes (R179). -/
structure LanePort where
  tx : LaneSt := .down
  rx : LaneSt := .down
  /-- Loss of signal and loss of lock now, by logical lane. -/
  los : List Nat := []
  lol : List Nat := []
  peerFence : Bool := false
  miswire : Bool := false
  phase : Nat := 0
  sleepEn : Bool := true
  sleepIdle : Nat := 10
  /-- Figures of merit of the logical lanes (R167). -/
  fom : FMap Nat := []
  /-- LNE_PORT_PEER: port, coordinate, COORD_VALID, plane of the last TRAIN. -/
  peerPort : Nat := 0
  peerCoord : Nat := 0
  peerValid : Bool := false
  peerPlane : Nat := 0
  /-- Transmit side of link-level retry (R160, R162). -/
  nextSeq : Nat := 0
  lastAck : Nat := 0
  replay : List TxGroup := []
  sendq : List TxFlit := []
  /-- MODEL: the groups that left when the port last sent, oldest first (R155, R156, R162). -/
  sent : List OutGroup := []
  /-- Receive side: next SEQ expected, NAK in force, NAKs in a row of it, and that a group was uncorrectable since the latest (R161,
  R163). -/
  rxSeq : Nat := 0
  nak : Bool := false
  nakRow : Nat := 0
  nakBad : Bool := false
  /-- Flits sent by channel, credits returned to us by channel (cumulative), and credits we returned (R155). -/
  sentOn : FMap Nat := []
  credIn : FMap Nat := []
  credOut : FMap Nat := []
  /-- Acknowledgement owed, and the channels whose credit count has changed since a credit slot named them (R155, R174, R175). -/
  owed : Bool := false
  credDue : List Nat := []
  /-- Tick since which the transmit direction has been idle, and that of its latest decision to sleep (R174). -/
  idleFrom : Nat := 0
  sleptAt : Option Nat := none
  /-- Tick at which training began, and whether the present series has raised LNE_TRAIN_FAIL (R170). -/
  trainFrom : Option Nat := none
  failSeries : Bool := false
  retryAt : Option Nat := none
  /-- Lanes whose receiver has signal, adaptation and block lock (R150, R170). -/
  signal : List Nat := []
  adapted : Bool := false
  lock : List Nat := []
  /-- Block lock by lane: whether each of its latest 64 sync headers was valid, latest first, and valid ones in a row (R150). -/
  heads : FMap (List Bool) := []
  run : FMap Nat := []
  /-- The logical lane that each lane's TRAIN sets name, and its skew in blocks (R170). -/
  laneMap : FMap Nat := []
  skew : FMap Nat := []
  /-- Receiver settings by lane, and the tick at which tracking last moved them (R167). -/
  eq : FMap LaneEq := []
  eqAt : Nat := 0
  /-- Tick since which a lane's figure of merit has been below FOM_WARN, and the lanes of which that has been raised (R167). -/
  lowFrom : FMap Nat := []
  lowTold : List Nat := []
  /-- Tick since which each lane's loss of signal, at 2 * lane, and of lock, at 2 * lane + 1, has lasted (R169). -/
  lossAt : FMap Nat := []
  /-- NAK repeat time (R161). -/
  nakAt : Nat := 0
  /-- A LANE_RETRAIN waits, and how it ended: some true READY, some false failed (R180). -/
  retrainEnd : Option Bool := none
  deriving DecidableEq, Repr

/-- One lane's entry of the table in use (R165). -/
structure LaneEntry where
  txInv : Bool := false
  rxInv : Bool := false
  pre2 : Nat := 0
  pre1 : Nat := 0
  main : Nat := 63
  post1 : Nat := 0
  rxCtle : Nat := 8
  loss : Nat := 0
  deriving DecidableEq, Repr

structure Lanes where
  /-- LNE_CFG (R176). -/
  fomMin : Nat := 64
  fomWarn : Nat := 40
  retryMax : Nat := 8
  /-- LNE_TABLE_STATUS (R177). -/
  loaded : Bool := false
  defaults : Bool := false
  version : Nat := 0
  crc : Nat := 0
  /-- The table in use (R164, R165): reversal bits and entries by lane; an unlisted lane has the defaults. -/
  rev : Nat := 0
  table : FMap LaneEntry := []
  /-- LNE_REF_STATUS: bits [3:0] now, and SEEN, sticky (R178). -/
  refNow : Nat := 0
  refSeen : Nat := 0
  ports : FMap LanePort := []
  /-- The latest ordered set sent, by port (R158). -/
  osOut : FMap OrderedSet := []
  deriving DecidableEq, Repr

/-! ### Strike (chapter 03) -/

/-- A flow record of a schedule image (R100). -/
structure FlowRec where
  flow : Nat
  dest : Nat
  peerCtx : Nat
  maxBytes : Nat
  deriving DecidableEq, Repr

/-- A window record of a schedule image (R101). -/
structure Window where
  offset : Nat
  length : Nat
  port : Nat
  flow : Nat
  period : Nat
  deriving DecidableEq, Repr

/-- An accepted schedule (R99 to R102). -/
structure Schedule where
  id : Nat
  epoch : Nat
  participants : Nat
  base : Nat
  flows : List FlowRec
  windows : List Window
  deriving DecidableEq, Repr

/-- One bank of the Strike schedule store: the bytes staged, the schedule once accepted, and the first tick from
which its occurrences are used (R97, R115). -/
structure StrikeBank where
  data : List Host.Cell := []
  sched : Option Schedule := none
  from_ : Nat := 0
  deriving DecidableEq, Repr

/-- One binding entry of STK_FLOW with its MON_FLOW counters (R104, R120, R563). -/
structure Binding where
  flow : Nat
  spill : Bool
  queue : Nat
  held : Bool := false
  holds : Nat := 0
  spills : Nat := 0
  /-- Tick at which the occupancy of the previous frame ends (R106). -/
  busy : Nat := 0
  deriving DecidableEq, Repr

structure Strike where
  /-- STK_CFG (R119). -/
  checkEn : Bool := true
  lateEvt : Bool := false
  bank0 : StrikeBank := {}
  bank1 : StrikeBank := {}
  /-- Bank that is current, and whether the previous bank is still live, between T and R (R118). -/
  current : Nat := 0
  oldLive : Bool := false
  activating : Bool := false
  epochT : Nat := 0
  epochR : Nat := 0
  dueT : Option Nat := none
  dueR : Option Nat := none
  bindings : FMap Binding := []
  deriving DecidableEq, Repr

/-! ### Injection scheduling (chapter 15) -/

/-- A shaper, or a policer (R485, R490, R497). -/
structure Shaper where
  en : Bool := false
  rate : Nat := 0
  burst : Nat := 1
  resetFull : Bool := true
  tokens : Nat := 1000000000
  /-- A reset falls due in the next tick (R488); EN as it still holds in this tick. -/
  due : Bool := false
  oldEn : Option Bool := none
  deriving DecidableEq, Repr

/-- One function's entry of SCH_FN (R497). -/
structure FnSched where
  sh0 : Shaper := {}
  sh1 : Shaper := {}
  pol : Shaper := {}
  exceeded : Bool := false
  /-- Time-stamp / 4,000,000 of the latest excess that was raised (R491). -/
  raisedIn : Option Nat := none
  deriving DecidableEq, Repr

/-- One queue group's entry of SCH_GROUP, with its round-robin slot (R481, R482, R496). -/
structure GroupSched where
  quantum : Nat := 4
  /-- QUANTUM that the present turn still uses, and a change of it that waits for the next turn (R484). -/
  deficit : Nat := 0
  blocked : Bool := false
  slot : Nat := 3
  deriving DecidableEq, Repr

/-- What a queue has built and waits to inject (R480, R481). -/
inductive Item where
  /-- The next packet of a job. -/
  | job (idx : Idx)
  /-- A sent packet that is sent again: a retransmission or a re-send (R298, R351). -/
  | again (ctx : Nat) (psn : Psn)
  /-- The FLUSH of a BARRIER on a connection (R320). -/
  | flush (idx : Idx) (ctx : Nat)
  /-- The next MSG_RDV_GET of a delivery, and its MSG_FIN (R389). -/
  | rdvGet (id : Nat)
  | fin (id : Nat)
  deriving DecidableEq, Repr

/-- A connection-maintenance request (R479). -/
inductive Maint where
  | open_ (ctx : Nat)
  | close (ctx : Nat)
  | skip (ctx : Nat) (psn : Psn)
  /-- MSG_FIN with RESULT 1 of a rendezvous that has no RECV (R404). -/
  | refuse (ctx : Nat) (rdvId : Nat) (fn : Nat) (ep : Nat)
  deriving DecidableEq, Repr

structure Sched where
  /-- SCH_CFG (R494). -/
  defaultQuantum : Nat := 4
  sampleEn : Bool := true
  groups : FMap GroupSched := []
  fns : FMap FnSched := []
  /-- Active lists of ports 12 and 13, and whether the head group's turn is in progress (R482). -/
  list12 : List Nat := []
  list13 : List Nat := []
  turn12 : Bool := false
  turn13 : Bool := false
  /-- What waits, by queue, by port, and the replies with the function they are charged to (R479). -/
  ready : FMap (List Item) := []
  strike : FMap (List (Nat × Idx)) := []
  replies : FMap (List (Nat × Packet)) := []
  maint : FMap (List Maint) := []
  /-- Latest samples by queue: DEPTH, DELAY, time-stamp (R493). -/
  samples : FMap (Nat × Nat × Nat) := []
  deriving DecidableEq, Repr

/-! ### Translation (chapter 09) -/

/-- A live region (R280). -/
structure Region where
  fn : Nat
  remote : Bool
  ptRoot : Nat
  segs : List Segment
  /-- Adopted from the partner: its device-local segments are refused (R530). -/
  adopted : Bool := false
  deriving DecidableEq, Repr

/-- What stalls on a local fault (R296, R390, R453). -/
inductive Stalled where
  | job (q : Nat) (idx : Idx)
  | channel (ch : Nat)
  | copy (id : Nat)
  deriving DecidableEq, Repr

/-- A local fault that is not resolved: SEQ is none while its record waits for room (R300). -/
structure Stall where
  who : Stalled
  fn : Nat
  q : Nat
  seq : Option Nat
  since : Nat
  key : Nat
  access : Nat
  level : Nat
  va : Nat
  time : Nat
  isLocal : Bool
  deriving DecidableEq, Repr

/-- A page-fault ring (R299). -/
structure FaultRing where
  base : Nat
  log2 : Nat
  cons : Nat
  cached : Idx := 0
  seq : Idx := 0
  deriving DecidableEq, Repr

/-- A cached translation: region index, generation, page size as a power of two, virtual page, bus page, W (R294). -/
structure CacheEntry where
  region : Nat
  gen : Nat
  log2 : Nat
  va : Nat
  pa : Nat
  writable : Bool
  deriving DecidableEq, Repr

structure Xlt where
  /-- XLT_CFG (R304). -/
  localTimeout : Nat := 100
  tgtEn : Bool := true
  regions : FMap Region := []
  /-- Generations by index, kept across reset (R282, R303). -/
  gens : FMap Nat := []
  /-- Tick from which an index has been free; an unlisted index has been free since the reset (R282, R303). -/
  freed : FMap Nat := []
  faultRings : FMap FaultRing := []
  /-- Unresolved local faults, in the order of the faults (R296). -/
  stalls : List Stall := []
  /-- Tick of the latest target record by function and 4 KiB page: (function, page, tick) (R297). -/
  recent : List (Nat × Nat × Nat) := []
  cache : List CacheEntry := []
  /-- The device-local area, by byte; an unlisted byte is free (R286). -/
  local_ : FMap Byte := []
  deriving DecidableEq, Repr

/-! ### Connections (chapter 11) -/

/-- Where a request packet's payload comes from when it is sent (R353). -/
inductive Src where
  | none
  | data (l : List Byte)
  | mem (q key off len : Nat)
  deriving DecidableEq, Repr

/-- A request packet that has been sent and is not answered (R347, R351). -/
structure Unans where
  psn : Psn
  /-- The packet as built, without its payload. -/
  pkt : Packet
  src : Src
  /-- The queue that it is charged to (R480), and the job, or the delivery, that it belongs to. -/
  q : Nat := 0
  job : Option (Nat × Idx) := none
  delivery : Option Nat := none
  /-- Job offset of its first byte (R344). -/
  off : Nat := 0
  sends : Nat := 1
  /-- Ticks of the first and of the latest send. -/
  first : Nat
  last : Nat
  /-- The retransmission timer runs (R351). -/
  timer : Bool := true
  /-- Transient NAKs drawn, and the tick at which it is sent again (R298, R349). -/
  naks : Nat := 0
  pageNaks : Nat := 0
  resendAt : Option Nat := none
  /-- It waits in a ready list to be sent again; that send counts towards RETRY_MAX (R298, R351). -/
  queued : Bool := false
  counts : Bool := true
  /-- Transmissions of every kind: SENDS (R345). -/
  total : Nat := 1
  /-- PSNs covered by later ACKs, first sent after its latest send; an early send has been made (R352). -/
  passed : Nat := 0
  fast : Bool := false
  /-- The packet is abandoned: a SKIP of its PSN stands in its place (R356). -/
  skip : Bool := false
  deriving DecidableEq, Repr

/-- A pending acknowledgement (R350). -/
structure PendAck where
  psn : Psn
  early : Bool
  late : Bool
  at_ : Nat
  /-- The function that it is charged to, by whose port it leaves (R28, R30). -/
  fn : Nat := 0
  deriving DecidableEq, Repr

/-- CTX_STATE.STATE (R335). -/
inductive CtxSt where
  | free
  | quarantine
  | ready
  | connected
  | error
  | opening
  | closing
  deriving DecidableEq, Repr

/-- A context that is, or has been, in use (R335 to R337, R345 to R363). -/
structure Ctx where
  st : CtxSt := .free
  peer : Bool := false
  fn : Nat := 0
  inc : Nat := 0
  reason : Nat := 0
  /-- Tick of entry into QUARANTINE, or into FREE (R336). -/
  since : Nat := 0
  pPlane : Nat := 0
  pCoord : Nat := 0
  pCtx : Nat := 0
  pInc : Nat := 0
  /-- The peer slot knows its peer's slot (R362). -/
  bound : Bool := false
  retryUs : Nat := 20
  retryMax : Nat := 8
  nextPsn : Psn := 0
  unans : List Unans := []
  /-- Receive side: E, received PSNs at or above it, and those of the 512 around it whose answer was a final NAK. -/
  e : Psn := 0
  got : List Psn := []
  naked : List Psn := []
  /-- Received PSNs of that range that were early-acknowledged (R345, R354). -/
  early : List Psn := []
  /-- PSNs that have arrived and whose acknowledgement point waits on the twin (R523). -/
  inFlight : List Psn := []
  /-- The result cache: PSN and reply (R355). -/
  results : List (Psn × ConnHdr) := []
  retx : Nat := 0
  acks : List PendAck := []
  /-- Tick since which the peer has been fenced (R358). -/
  heldFrom : Option Nat := none
  /-- Tick of the latest packet sent or received (R363). -/
  used : Nat := 0
  /-- Sends of the PEER_OPEN or PEER_CLOSE under way, its tick, and NO_RESOURCE answers drawn (R362). -/
  opens : Nat := 0
  openAt : Nat := 0
  openNaks : Nat := 0
  openResend : Option Nat := none
  /-- Message numbers: next to send; next expected; numbers beyond it that are skipped (R382, R386). -/
  nextMsn : Psn := 0
  expMsn : Psn := 0
  skipMsn : List Psn := []
  /-- Adopted (R528, R529): packets that keep the PSN that was mirrored, as PSN, queue, index and packet number; atomics as PSN,
  function, address, old and new value. -/
  replay : List (Psn × Nat × Idx × Nat) := []
  rewrites : List (Psn × Nat × Nat × Nat × Nat) := []
  deriving DecidableEq, Repr

/-- A trigger counter that is allocated (R364, R372). -/
structure Counter where
  owner : Nat
  value : Nat := 0
  deriving DecidableEq, Repr

/-- An armed job (R366). -/
structure Armed where
  q : Nat
  idx : Idx
  counter : Nat
  threshold : Nat
  released : Bool := false
  deriving DecidableEq, Repr

structure Conns where
  /-- CTX_CFG (R369). -/
  ackDelay : Nat := 20
  peerIdle : Nat := 10
  fastRetx : Bool := true
  ctxs : FMap Ctx := []
  counters : FMap Counter := []
  /-- Armed jobs in the order in which they were armed (R366). -/
  armed : List Armed := []
  /-- Ejection space kept for replies of aborted jobs: context, PSN, tick (R229). -/
  kept : List (Nat × Psn × Nat) := []
  deriving DecidableEq, Repr

/-! ### Reservation store and Pallet bank (chapters 10 and 16) -/

/-- A reservation (R324). -/
structure Rsv where
  addr : Nat
  fn : Nat
  region : Nat
  coord : Nat
  plane : Nat
  ctx : Nat
  inc : Nat
  value : Nat
  time : Nat
  senior : Bool := false
  deriving DecidableEq, Repr

/-- A holder's consecutive COND_STORE failures on a granule, and when they reached 8 (R324, R332). -/
structure RsvFail where
  addr : Nat
  coord : Nat
  plane : Nat
  ctx : Nat
  inc : Nat
  count : Nat
  /-- Place in the order in which counts reached 8, until its holder has become senior. -/
  order : Option Nat := none
  /-- Tick of its last failure. -/
  at_ : Nat := 0
  deriving DecidableEq, Repr

/-- A lock (R503). -/
structure Lock where
  owner : Nat := 0
  abandoned : Bool := false
  deriving DecidableEq, Repr

/-- PAL_GROUP (R513). -/
structure LockGroup where
  tenant : Nat := 0
  fnEn : Bool := false
  fw : Bool := true
  twin : Bool := false
  remote : Bool := false
  configured : Bool := false
  deriving DecidableEq, Repr

/-- A remote slot: the requester's coordinate, plane, tenant and requester number (R501). -/
structure RemoteSlot where
  coord : Nat
  plane : Nat
  tenant : Nat
  requester : Nat
  deriving DecidableEq, Repr

/-- A held wait read: lock, the function that reads, tick of arrival, and the lock word of the first tick in which the lock was
free, once there has been one (R506). -/
structure WaitRead where
  lock : Nat
  fn : Nat
  at_ : Nat
  word : Option Nat := none
  deriving DecidableEq, Repr

/-- A held word lock: space (0 SRAM, 1 host), function whose host memory it lies in, address, identity (R510). -/
structure WordLock where
  space : Nat
  fn : Nat
  addr : Nat
  id : Nat
  deriving DecidableEq, Repr

structure Pallet where
  rsvs : List Rsv := []
  fails : List RsvFail := []
  rsvEvict : Nat := 0
  /-- PAL_CFG (R511). -/
  notify : Bool := true
  locks : FMap Lock := []
  groups : FMap LockGroup := []
  slots : FMap RemoteSlot := []
  waits : List WaitRead := []
  abandons : Nat := 0
  words : List WordLock := []
  /-- Main-die SRAM words that word locks have written, by byte; an unlisted byte is free (R510). -/
  sram : FMap Byte := []
  deriving DecidableEq, Repr

/-! ### Catalogue and Accession store (chapter 12) -/

/-- A posted receive (R376, R377, R379). -/
structure Recv where
  pseq : Idx := 0
  q : Nat
  idx : Idx
  cookie : Nat
  key : Nat
  off : Nat
  len : Nat
  lcnt : Option Nat
  coord : Nat
  srcEp : Nat
  anySource : Bool
  anyTag : Bool
  comm : Nat
  tag : Nat
  deriving DecidableEq, Repr

/-- A message as it commits: its match fields and where it came from (R376, R383). -/
structure Msg where
  coord : Nat
  plane : Nat
  srcEp : Nat
  srcFn : Nat
  comm : Nat
  tag : Nat
  len : Nat
  rdv : Bool
  rdvId : Nat := 0
  /-- The peer slot it came by, with its incarnation, and its MSN. -/
  ctx : Nat
  inc : Nat
  msn : Psn
  twoSeg : Bool := false
  deriving DecidableEq, Repr

/-- A message in the Accession store, with the eager bytes that have arrived (R385, R389). -/
structure Unexp where
  msg : Msg
  data : List Byte := []
  /-- Segments still to come. -/
  missing : Nat := 0
  deriving DecidableEq, Repr

/-- A delivery in progress (R388 to R391). -/
structure Delivery where
  id : Nat
  ep : Nat
  recv : Recv
  msg : Msg
  unexpected : Bool
  /-- Bytes to deliver, and those written. -/
  want : Nat
  got : Nat := 0
  /-- Eager: segments still to come. Rendezvous: next MOFF to fetch, and gets outstanding. -/
  missing : Nat := 0
  nextOff : Nat := 0
  outstanding : Nat := 0
  /-- Bytes of an unexpected message still to be copied from the pool (R390). -/
  copy : Option (List Byte) := none
  status : Nat := 0
  /-- Every write is visible, or the delivery has failed: the record is due (R397); the time-stamp of that moment, and whether it is local
  time (R396). -/
  ended : Bool := false
  endTime : Nat := 0
  endLocal : Bool := false
  finSent : Bool := false
  /-- The receive record has been written, or waits in the ring. -/
  recorded : Bool := false
  deriving DecidableEq, Repr

/-- A receive record that waits, or is written (R396). -/
structure RecvRec where
  status : Nat
  unexpected : Bool
  rdv : Bool
  isLocal : Bool
  msg : Msg
  delivered : Nat
  recv : Recv
  time : Nat
  deriving DecidableEq, Repr

/-- A messaging endpoint, ACTIVE or in QUARANTINE (R375, R402, R403). -/
structure Endpoint where
  live : Bool := true
  /-- Tick of entry into QUARANTINE. -/
  since : Nat := 0
  owner : Nat
  log2 : Nat
  base : Nat
  cons : Nat
  cached : Idx := 0
  seq : Idx := 0
  arrival : Option Nat
  maxUnexp : Nat
  maxEagerKib : Nat
  maxPosted : Nat
  pseq : Idx := 0
  posted : List Recv := []
  unexp : List Unexp := []
  waiting : List RecvRec := []
  deriving DecidableEq, Repr

/-- A rendezvous SEND that holds an RDV_ID (R392). -/
structure RdvSend where
  q : Nat
  idx : Idx
  /-- Failure recorded at the sender; 0 while there is none. -/
  failed : Nat := 0
  deriving DecidableEq, Repr

structure Catalogue where
  /-- EAGER_MAX (R400). -/
  eagerMax : Nat := 8192
  eps : FMap Endpoint := []
  deliveries : List Delivery := []
  nextId : Nat := 0
  /-- Parked packets with the tick of their arrival (R386). -/
  parked : List (Nat × Packet) := []
  rdv : FMap RdvSend := []
  deriving DecidableEq, Repr

/-! ### Carillon (chapter 13) -/

/-- An exact accumulator of one element with its flags: the sum in units of 2^-1074 (R423). -/
structure ExactAcc where
  sum : Int := 0
  nan : Bool := false
  pinf : Bool := false
  ninf : Bool := false
  negz : Bool := true
  deriving DecidableEq, Repr

/-- A partial or a result: element words, or exact accumulators, or bytes of a broadcast (R422, R423). -/
inductive CarData where
  | none
  | words (l : List Nat)
  | exact (l : List ExactAcc)
  deriving DecidableEq, Repr

/-- The fields on which the members of an operation must agree (R418). -/
structure CarParams where
  op : Nat
  type : Nat
  rop : Nat
  exact : Bool
  count : Nat
  peer : Nat
  deriving DecidableEq, Repr

/-- A tree as one vertex holds it (R409, R410): child ports with the ranks below each. -/
structure CarTree where
  epoch : Nat
  parent : Option Nat
  children : List (Nat × List Nat)
  depth : Nat
  scanPos : Nat
  /-- The hops from the root to this vertex, as (linear number, port). -/
  path : List (Nat × Nat)
  deriving DecidableEq, Repr

/-- A contribution that a vertex holds: its member's own, or the partial of a child edge (R429). One of no member carries no
data and no parameters. -/
structure CarPart where
  src : Option Nat
  params : Option CarParams
  data : CarData
  contrib : Nat
  lost : Bool := false
  mismatch : Bool := false
  deriving DecidableEq, Repr

/-- A partial that is arriving over a child edge: its packets so far, by index (R429). -/
structure CarIn where
  port : Nat
  pkts : FMap (List Byte)
  deriving DecidableEq, Repr

/-- A packet of a broadcast that a vertex holds: the edge it came by, none for the source's own; its index and bytes. -/
structure CarBlock where
  port : Option Nat
  index : Nat
  bytes : List Byte
  hold : Option Nat := none
  deriving DecidableEq, Repr

/-- An operation in progress at a vertex (R417, R429). -/
structure CarOp where
  opnum : Nat
  /-- The tree epoch bit of the tree that it runs on. -/
  bank : Nat
  params : Option CarParams := none
  /-- This member's job, once it has started; its own contribution is in, or is lost; the job is over. -/
  job : Option Idx := none
  ownIn : Bool := false
  jobOver : Bool := false
  /-- The held translation of the destination: its key and its pieces (device-local, address, length) (R416). -/
  dkey : Nat := 0
  dst : List (Bool × Nat × Nat) := []
  /-- Contributions in order of arrival, partials that are still arriving, child edges whose partial is missing. -/
  parts : List CarPart := []
  ins : List CarIn := []
  missing : List Nat := []
  lost : Bool := false
  mismatch : Bool := false
  sentUp : Bool := false
  /-- The result or prefix as it arrives from the parent, by packet. -/
  down : FMap (List Byte) := []
  /-- The result, prefix or end has come, or has been formed here: status, CONTRIB, whether it bears data, and the data. -/
  final : Option (Nat × Nat × Bool × List (List Byte)) := none
  /-- The packet that brought it keeps its slot; it has gone to the children. -/
  hold : Option Nat := none
  passed : Bool := false
  /-- The operation ends at a tree epoch change (R435). -/
  cut : Bool := false
  /-- BROADCAST: packets held; packets dealt with, and packets in all; CAR_ACKs by child edge; this vertex's CAR_ACK has been
  sent; the receiver's data is visible. -/
  blocks : List CarBlock := []
  dealt : Nat := 0
  total : Option Nat := none
  acks : FMap Nat := []
  ackSent : Bool := false
  seen : Bool := false
  /-- BROADCAST: no data will come from the source. -/
  dead : Bool := false
  deriving DecidableEq, Repr

/-- What waits to be sent on a tree edge (R411). `hold` is the down-tree or broadcast packet of which this is a copy. -/
structure CarSend where
  bank : Nat
  port : Nat
  vc : Nat
  hdr : CarHdr
  payload : List Byte
  hold : Option Nat
  deriving DecidableEq, Repr

/-- A received packet that keeps its slot until its copies have been sent: the copies left, and the slot (R412). -/
structure CarHold where
  left : Nat
  bank : Nat
  port : Nat
  vc : Nat
  deriving DecidableEq, Repr

/-- CAR_GROUP.STATE (R443); a handle without an entry is FREE. -/
inductive CarSt where
  | staging
  | active
  | quarantine
  deriving DecidableEq, Repr

/-- A tree epoch change in which this vertex takes part (R434). -/
structure TreeChange where
  epoch : Nat
  tree : Option CarTree
  root : Nat
  map : FaultMap
  n : Nat := 0
  t : Option Nat := none
  deriving DecidableEq, Repr

/-- The root Curator's part in a group's creation or tree epoch change (R434, R437). -/
structure TreeMaster where
  install : TreeInstall
  /-- Vertices of the old and new trees, by linear number. -/
  vertices : List Nat
  reports : List TreeReport := []
  /-- Tick at which the installs were sent; N and T have been flooded. -/
  start : Nat
  flooded : Bool := false
  deriving DecidableEq, Repr

/-- A group that this device holds in a tree slot (R406, R443). -/
structure CarGroup where
  st : CarSt := .staging
  /-- Tick of entry into QUARANTINE. -/
  since : Nat := 0
  id : Nat := 0
  member : Bool := false
  abort_ : Bool := false
  slots2 : Bool := false
  exactMax : Nat := 0
  size : Nat := 0
  tenant : Nat := 0
  rank : Nat := 0
  queue : Nat := 0
  /-- Members in rank order: (coordinate, tenant) (R408). -/
  list : List (Nat × Nat) := []
  /-- Ranks known lost; this device's own member is lost (R431). -/
  lost : List Nat := []
  selfLost : Bool := false
  /-- Coordinate of the root of the current tree, and the fault map that it was computed from. -/
  root : Nat := 0
  map : FaultMap := {}
  bit : Nat := 0
  tree0 : Option CarTree := none
  tree1 : Option CarTree := none
  oldLive : Bool := false
  switchedAt : Nat := 0
  change : Option TreeChange := none
  /-- N of the latest change; operations below `cutTo` end at once (R435). -/
  n : Nat := 0
  cutTo : Nat := 0
  nextOp : Nat := 0
  /-- Highest OPNUM started or received, plus one. -/
  highOp : Nat := 0
  ops : List CarOp := []
  /-- Operations that have ended here: all below `floor`, and these. -/
  floor : Nat := 0
  ended : List Nat := []
  /-- Send credits in use, by bank * 16 + port; what waits to be sent, oldest first; packets that keep their slot (R411). -/
  used : FMap Nat := []
  sends : List CarSend := []
  holds : FMap CarHold := []
  nextHold : Nat := 0
  /-- A change must follow the present one (R435). -/
  again : Bool := false
  deriving DecidableEq, Repr

/-- A GROUP_CREATE that has been taken, by the function that issued it (R437). -/
structure CarCreate where
  join : JoinReport
  queue : Nat
  list : List (Nat × Nat)
  deriving DecidableEq, Repr

structure Carillon where
  /-- CAR_CFG (R441). -/
  createTimeout : Nat := 100
  lostNotify : Bool := true
  /-- Groups by handle. -/
  groups : FMap CarGroup := []
  creates : FMap CarCreate := []
  /-- As root Curator: join reports, and changes by GROUP_ID (R434, R437). -/
  joins : List JoinReport := []
  masters : FMap TreeMaster := []
  deriving DecidableEq, Repr

/-! ### Mover (chapter 14) -/

/-- MOV_CH_STATE.STATE (R476). -/
inductive ChSt where
  | free
  | idle
  | running
  | waiting
  | stalled
  deriving DecidableEq, Repr

/-- One loop level: the LOOP instruction that holds it, its index and its strides (R460). -/
structure LoopLevel where
  held : Option Nat := none
  i : Nat := 0
  ss : Int := 0
  ds : Int := 0
  deriving DecidableEq, Repr

/-- The MOVE or descriptor under way (R456, R469): `alg` is the checksum of a MOVE_CHECKED. -/
structure MoveOp where
  skey : Nat
  src : Nat
  dkey : Nat
  dst : Nat
  len : Nat
  alg : Option Nat := none
  done : Nat := 0
  /-- Bytes written, for the checksum. -/
  sum : List Byte := []
  deriving DecidableEq, Repr

/-- A WAIT under way (R461). -/
structure MovWait where
  kind : Nat
  counter : Nat := 0
  arg : Nat := 0
  /-- Tick at which TIMEOUT is reached. -/
  limit : Option Nat := none
  deriving DecidableEq, Repr

/-- A Mover channel (R447, R476). -/
structure Channel where
  st : ChSt := .free
  owner : Nat := 0
  queue : Nat := 0
  prio : Nat := 0
  job : Option Idx := none
  chain : Bool := false
  event : Bool := false
  append : Bool := false
  pc : Nat := 0
  l0 : LoopLevel := {}
  l1 : LoopLevel := {}
  move : Option MoveOp := none
  wait : Option MovWait := none
  /-- Chain: offset of the descriptor under way or next; its WB word; descriptors completed. -/
  desc : Nat := 0
  /-- The descriptor under way: its link word. -/
  link : Nat := 0
  wb : Option Nat := none
  descs : Nat := 0
  /-- The beat's source read has failed (R466). -/
  readBad : Bool := false
  /-- Earlier contents of the aligned 8-byte units that the program's MOVEs have written since the last FENCE, oldest
  first, and of those that the present MOVE has written, from before it (R457). -/
  olds : FMap (List (List Byte)) := []
  own : FMap (List Byte) := []
  /-- Bus address of the byte of host memory that the job wrote last (R201). -/
  lastWrite : Option Nat := none
  /-- The job's first beat has come, and waits for the twin (R523). -/
  begun : Bool := false
  gated : Bool := false
  deriving DecidableEq, Repr

structure Mover where
  /-- MOV_CFG (R473). -/
  rrBeats : Nat := 64
  chans : FMap Channel := []
  /-- The channel that was served last, and the beats of its present turn (R449). -/
  last : Nat := 31
  beats : Nat := 0
  /-- MOV_STATUS.CURRENT and BUSY (R474). -/
  current : Nat := 0
  busy : Bool := false
  deriving DecidableEq, Repr

/-! ### Twin bridge (chapter 17) -/

/-- TWN_STATUS.STATE (R516). -/
inductive TwinSt where
  | down
  | syncing
  | paired
  | alone
  | partnerDead
  deriving DecidableEq, Repr

/-- An event that waits for the confirmation of its mirror record (R523). -/
inductive Gated where
  /-- A first transmission: the packet has its PSN and enters the Movement by the port. -/
  | packet (port fn : Nat) (p : Packet)
  /-- An answer of a target: the reply, and the PSN that it marks received, with its final-NAK mark. -/
  | reply (port fn : Nat) (p : Packet) (ctx : Nat) (psn : Psn) (nak : Bool)
  | ack (ctx : Nat) (a : PendAck)
  /-- A counter change by a job, by an arrival or by the Mover. -/
  | counter (fn n value : Nat) (set : Bool) (job : Option (Nat × Idx))
  | errRec (q : Nat) (e : ErrRec)
  /-- An ATOMIC or COND_STORE that has arrived and may now write: the old value that its record carries, and the granule that it holds, as
  (device-local, address, length) (R325). -/
  | apply (p : Packet) (old : Nat) (pieces : List (Bool × Nat × Nat))
  /-- The first beat of a Mover job. -/
  | mover (ch : Nat)
  deriving DecidableEq, Repr

/-- A queue of the partner, as its mirror records tell it (R522). -/
structure MirQueue where
  cfg : QueueCfg
  door : Idx
  errSeq : Idx := 0
  /-- DRAINING, with QUEUE_RESET true or QUEUE_DESTROY false. -/
  drain : Option Bool := none
  st : Nat := 1
  deriving DecidableEq, Repr

/-- A connection of the partner, as its mirror records tell it (R522, R523). -/
structure MirConn where
  cfg : ConnCfg
  /-- Its sequence state, in the fields of a context. -/
  seq : Ctx := {}
  /-- Gated first transmissions: PSN, queue, index and packet number. -/
  sent : List (Psn × Nat × Idx × Nat) := []
  /-- ATOMIC and COND_STORE: PSN, function, address, old and new value. -/
  atomics : List (Psn × Nat × Nat × Nat × Nat) := []
  deriving DecidableEq, Repr

/-- The partner's state as mirrored here (R522). -/
structure Mirror where
  grants : FMap (Nat × Nat) := []
  queues : FMap MirQueue := []
  rings : FMap EvCfg := []
  faultRings : FMap (Nat × Nat × Nat) := []
  regions : FMap RegionCfg := []
  conns : FMap MirConn := []
  counters : FMap Counter := []
  /-- Jobs whose counter change is mirrored, and jobs mirrored as begun. -/
  counted : List (Nat × Idx) := []
  begun : List (Nat × Idx) := []
  eps : FMap EpCfg := []
  epSeqs : FMap Idx := []
  channels : FMap (Nat × Nat × Nat) := []
  /-- Carillon membership by handle: GROUP_ID, rank, queue. -/
  groups : FMap (Nat × Nat × Nat) := []
  deriving DecidableEq, Repr

structure Twin where
  /-- TWN_CFG and TWN_MIRROR_BASE (R537). -/
  adoptEn : Bool := true
  stopEn : Bool := true
  base : Nat := 0
  /-- TWN_STATUS, TWN_DEATH_TS (R538) and TWN_ADOPT_COUNT (R539). -/
  state : TwinSt := .down
  cause : Nat := 0
  stopOut : Bool := false
  adopted : Bool := false
  conflict : Bool := false
  deathTs : Nat := 0
  adoptedQueues : Nat := 0
  adoptedConns : Nat := 0
  notAdopted : Nat := 0
  /-- FATAL_IN reads asserted while the partner is unpowered (R524). -/
  fatalIn : Bool := true
  stopIn : Bool := false
  /-- Tick of the latest heartbeat (R521). -/
  heard : Nat := 0
  /-- Twin frames that the bridge's receive island passed to the twin block, oldest first (R52, R520). -/
  inbox : List TwinFrame := []
  /-- Frames that wait for a flit slot of the bridge (R521). -/
  outbox : List TwinFrame := []
  /-- Next SEQ to send and to receive; highest SEQ the partner has confirmed plus one (R520). -/
  txSeq : Nat := 0
  rxSeq : Nat := 0
  confirmed : Nat := 0
  /-- What the partner's latest frame said, and its serial (R517, R540). -/
  curReady : Bool := false
  pAdopt : Bool := false
  pCoord : Option Nat := none
  pSerial : Nat := 0
  pState : Nat := 0
  /-- Both sides of the configuration copy are confirmed (R517). -/
  syncSent : Bool := false
  syncGot : Bool := false
  mirror : Mirror := {}
  /-- Gated events with the SEQ of their record, oldest first (R523). -/
  gate : List (Nat × Gated) := []
  /-- Tick at which a bridge cause was detected; TWIN_STOP_OUT is due (R525). -/
  causeAt : Option Nat := none
  /-- Tick at which TWIN_STOP_OUT was asserted (R526, R608), and FATAL_IN was seen after it. -/
  stopAt : Option Nat := none
  fatalSeen : Option Nat := none
  /-- Queues of the partner that are to be adopted (R528). -/
  adopting : List Nat := []
  /-- A HELLO has come since the partner's death: it has been replaced or reset (R517). -/
  rejoin : Bool := false
  /-- MODEL: the bridge was lost in this step, by a lane or by its link (R524), with a cause of death or none. -/
  bridgeLost : Option Nat := none
  deriving DecidableEq, Repr

/-! ### The Registrar (chapter 20) -/

/-- A record of the Registrar's ring (R589). -/
structure RegRec where
  seq : Nat
  session : Nat := 0
  time : Nat := 0
  type : Nat := 0
  tenant : Nat := 0
  flags : Nat := 0
  v0 : Nat := 0
  v1 : Nat := 0
  v2 : Nat := 0
  v3 : Nat := 0
  tag : Nat := 0
  deriving DecidableEq, Repr

/-- A tenant's traffic: the four quantities of R582. -/
structure Traffic where
  injPkts : Nat := 0
  injBytes : Nat := 0
  dlvPkts : Nat := 0
  dlvBytes : Nat := 0
  deriving DecidableEq, Repr

/-- The main die's end of the tap (R581): the number of the next frame, and the increments that it will carry. -/
structure Tap where
  number : Nat := 0
  incs : FMap Traffic := []
  deriving DecidableEq, Repr

/-- The Registrar's one-time-programmable store (R580, R592, R593). -/
structure RegStore where
  blown : Bool := false
  tamper : Bool := false
  /-- First cause of tampering; 0 while there is none. -/
  cause : Nat := 0
  period : Nat := 0
  coreGain : Nat := 0
  coreOffset : Nat := 0
  sramGain : Nat := 0
  sramOffset : Nat := 0
  key : Nat := 0
  keyId : Nat := 0
  sealDigest : Nat := 0
  paramCrc : Nat := 0
  /-- The image, by its digest and its version. -/
  imageDigest : Nat := 0
  imageVersion : Nat := 0
  deriving DecidableEq, Repr

/-- A period that has ended at `time`, whose records are still to be written: the energies, in units of 10 pJ, the peak power, the flags but
for TAMPER, and the traffic counts with which it ended (R588, R589). -/
structure PeriodEnd where
  time : Nat
  core : Nat
  sram : Nat
  peak : Nat
  flags : Nat
  traffic : FMap Traffic
  deriving DecidableEq, Repr

structure Registrar where
  store : RegStore := {}
  /-- REG_VDD is up and boot has run (R580); HALTED (R593). -/
  on : Bool := false
  halted : Bool := false
  session : Nat := 0
  nextSeq : Nat := 0
  /-- The ring by slot (R587); an unlisted slot is as after Registrar power-on. -/
  ring : FMap RegRec := []
  /-- RGS_FW and RGS_DIGEST, set at boot (R595). -/
  fw : Nat := 0
  digest : Nat := 0
  sealSeen : Nat := 0
  /-- Time as the Registrar keeps it, whether the tap last said SYNCED, and the time at the latest energy sample (R581). -/
  time : Nat := 0
  synced : Bool := false
  sampleAt : Nat := 0
  /-- Number of the latest good frame; samples since any frame, and since a good one; the tap is stopped (R581, R595). -/
  lastFrame : Option Nat := none
  quiet : Nat := 0
  good : Nat := 100
  stopped : Bool := false
  /-- Cumulative traffic by tenant, and what the last period's records gave (R588). -/
  traffic : FMap Traffic := []
  before_ : FMap Traffic := []
  /-- Time of the last boundary, and the periods that have ended and have no records yet, oldest first (R588). -/
  boundary : Nat := 0
  ended : List PeriodEnd := []
  /-- CORE_UJ and SRAM_UJ in units of 10 pJ; peak package power of the period, in mW (R585, R589). -/
  core : Nat := 0
  sram : Nat := 0
  peak : Nat := 0
  /-- Flags of the period: TAP_GAP, TAP_STOPPED, SENSOR, RANGE (R589); sensors that read outside their limits now, by bit. -/
  gap : Bool := false
  stop : Bool := false
  sensor : Bool := false
  range : Bool := false
  bad : Nat := 0
  sampled : Bool := false
  deriving DecidableEq, Repr

/-! ### The board, fuses, flash, and where start-up stands (chapters 08, 21, 22) -/

structure Board where
  /-- GLB_STRAPS, sampled at the end of reset (R275, R601). -/
  straps : Straps := {}
  /-- Fused security version (R270, R275), and the flash's two firmware slots (R269, R274). -/
  svnFused : Nat := 0
  slotA : FwSlot := { st := .valid }
  slotB : FwSlot := {}
  /-- Slot that boots next, and the running slot: false A, true B (R272, R274). -/
  bootB : Bool := false
  runB : Bool := false
  /-- GLB_FW and GLB_DIGEST, by boot (R275). -/
  fwVersion : Nat := 0
  fwSvn : Nat := 0
  fallback : Bool := false
  fwDigest : Nat := 0
  /-- The reset in progress is a power-on reset: PCIE_MODE and TIME_ROLE are sampled at its end (R601, R602). -/
  cold : Bool := true
  /-- The machine record has been read, and its positions A to D (R603, R605). -/
  record : Bool := false
  anchorPos : Nat := 0
  /-- The boot loader has halted (R607); READY has been 1 since reset, so that FATAL_OUT is released (R608). -/
  halted : Bool := false
  served : Bool := false
  deriving DecidableEq, Repr

/-- Bytes of a write that the device has posted to host memory for a function (R201). -/
structure Issued where
  fn : Nat
  /-- The context of the put that an early acknowledgement covers, and its PSN (R313). -/
  ctx : Option Nat := none
  psn : Psn := 0
  /-- The queue whose job wrote locally (R320). -/
  queue : Option Nat := none
  region : Nat
  addr : Nat
  bytes : List Byte := []
  /-- The write carries Relaxed Ordering (R200). -/
  relaxed : Bool := false
  /-- The bytes are in host memory. -/
  landed : Bool := false
  deriving DecidableEq, Repr

structure State where
  brd : Board := {}
  cus : Custodian := {}
  mon : Monitors := {}
  hif : HostIf := {}
  rings : Rings := {}
  cur : Curator := {}
  rgl : Regulator := {}
  mvt : Movement := {}
  epo : Epochs := {}
  lne : Lanes := {}
  stk : Strike := {}
  sch : Sched := {}
  xlt : Xlt := {}
  ctx : Conns := {}
  pal : Pallet := {}
  cat : Catalogue := {}
  car : Carillon := {}
  mov : Mover := {}
  twn : Twin := {}
  rgs : Registrar := {}
  tap : Tap := {}
  /-- Host memory as the device sees it (R2): sorted cells, none of them 0; an unlisted byte reads 0. -/
  host : List Host.Cell := []
  /-- Posted writes to host memory that no read of R201 has declared visible, in the order in which they were issued (R201, R313 to R315). -/
  issued : List Issued := []
  /-- Address ranges whose device reads fail, and how (R202). -/
  hostErr : List (Nat × Nat × CplError) := []
  /-- MODEL: how many free values have been drawn (`Config.free`). -/
  drawn : Nat := 0
  /-- MODEL: the RW1C bits that hardware has set in the present tick (R15), as (kind, number): 0 SEEN of a source,
  1 MISWIRE of a port, 2 SYNC_LOST, 3 a SEEN bit of LNE_REF_STATUS, 4 WRAPPED, 5 SATURATED of a counter, 6 CONFLICT, 7 EXCEEDED of a function. -/
  justSet : List (Nat × Nat) := []
  /-- The main die is held in reset (R599, R600). -/
  inReset : Bool := true
  pending : List Instr := []
  deriving DecidableEq, Repr

/-- Why the machine stops with a fault. -/
inductive Fault where
  /-- An event names a Movement port that has no lanes: ports 12, 13, 15 and above (R26, R146). Raised by the lane
  events. Safe: no such event exists on the hardware. -/
  | noSuchPort (port : Nat)
  deriving DecidableEq, Repr

/-- Why the model has no meaning for a command. -/
inductive Refusal where
  /-- The command has no meaning in this model yet. Raised by the dispatch alone. Safe: nothing is claimed of it. -/
  | notModelled (mnemonic : String)
  deriving DecidableEq, Repr

/-- The device right after power-on reset (R16, R599): every field at the value the spec gives, or that the
assumption log names. -/
def State.reset : State := {}

end Sys2Proof.Machine
end

