-- ==== Sys2Proof/Machine/Ops.lean ====
section
/-! DEFINITION. The named operations that every meaning is built from: sparse tables, bit and byte fields, host
memory, counters, raised faults, and the device's accesses to host memory. -/

namespace Sys2Proof.Machine

/-! ### Sparse tables -/

/-- The entry of number `n`, if the table lists one. -/
def fmFind {α : Type} : FMap α → Nat → Option α
  | [], _ => none
  | (k, v) :: m, n => if k = n then some v else fmFind m n

/-- The entry of number `n`, or `d` where the table lists none. -/
def fmGet {α : Type} (m : FMap α) (n : Nat) (d : α) : α := (fmFind m n).getD d

/-- The table with entry `n` replaced or added, numbers still rising. -/
def fmSet {α : Type} : FMap α → Nat → α → FMap α
  | [], n, v => [(n, v)]
  | (k, w) :: m, n, v =>
    if n < k then (n, v) :: (k, w) :: m
    else if n = k then (n, v) :: m
    else (k, w) :: fmSet m n v

/-- The table without entry `n`. -/
def fmErase {α : Type} (m : FMap α) (n : Nat) : FMap α := m.filter (fun p => p.1 != n)

/-- The table with entry `n` changed by `f`, starting from `d` where it lists none. -/
def fmModify {α : Type} (m : FMap α) (n : Nat) (d : α) (f : α → α) : FMap α := fmSet m n (f (fmGet m n d))

/-- The list without any `x`. -/
def without {α : Type} [DecidableEq α] (l : List α) (x : α) : List α := l.filter (fun y => y != x)

/-- The list with `x` at its end, once. -/
def withMember {α : Type} [DecidableEq α] (l : List α) (x : α) : List α := if x ∈ l then l else l ++ [x]

/-- The first of the `n` numbers from `k` on that `p` accepts. -/
def firstFrom (p : Nat → Bool) : Nat → Nat → Option Nat
  | 0, _ => none
  | n + 1, k => if p k then some k else firstFrom p n (k + 1)

/-- The entry of a table whose measure is least, among those that `p` accepts; of several, the lowest number. -/
def leastBy {α : Type} (p : Nat → α → Bool) (f : α → Nat) (m : FMap α) : Option Nat :=
  (m.foldl (fun (best : Option (Nat × Nat)) kv =>
    if !p kv.1 kv.2 then best
    else match best with
      | none => some (kv.1, f kv.2)
      | some (k, n) => if f kv.2 < n then some (kv.1, f kv.2) else some (k, n)) none).map (·.1)

/-! ### Bit and byte fields (R9 to R11) -/

/-- Bits [lo + w - 1 : lo] of `v`. -/
def field (v lo w : Nat) : Nat := v / 2 ^ lo % 2 ^ w

/-- Bit `i` of `v`. -/
def bitAt (v i : Nat) : Bool := v / 2 ^ i % 2 = 1

/-- `f n`, with `n` worked out first. -/
def forced {α : Type} (n : Nat) (f : Nat → α) : α := match n with | 0 => f 0 | k + 1 => f (k + 1)

/-- 1 for true. -/
def b2n (b : Bool) : Nat := if b then 1 else 0

/-- The word with each value at its low bit; the fields do not overlap. -/
def place : List (Nat × Nat) → Nat
  | [] => 0
  | (lo, v) :: l => v * 2 ^ lo + place l

/-- The `n` low bytes of `v`, least significant first (R9). -/
def leBytes : Nat → Nat → List Byte
  | 0, _ => []
  | n + 1, v => BitVec.ofNat 8 v :: leBytes n (v / 256)

/-- The number whose bytes, least significant first, are `l` (R9). -/
def leNat : List Byte → Nat
  | [] => 0
  | b :: l => b.toNat + 256 * leNat l

/-- The number in bytes `at` to `at + n - 1` of a parameter area or record. -/
def numAt (l : List Byte) (at_ n : Nat) : Nat := leNat ((l.drop at_).take n)

/-- Byte `at` of a parameter area, 0 beyond its end. -/
def byteAt (l : List Byte) (at_ : Nat) : Nat := (l.getD at_ 0).toNat

/-- Bytes `at` to `at + n - 1` are all 0. -/
def zeroAt (l : List Byte) (at_ n : Nat) : Bool := ((l.drop at_).take n).all (fun b => b == 0)

/-- `l` cut or padded with 0 to `n` bytes. -/
def padTo (n : Nat) (l : List Byte) : List Byte := l.take n ++ List.replicate (n - l.length) 0

/-- The signed value of a `w`-bit two's complement number. -/
def toSigned (w v : Nat) : Int := if v < 2 ^ (w - 1) then (v : Int) else (v : Int) - (2 ^ w : Nat)

/-- The `w`-bit two's complement of a signed number. -/
def ofSigned (w : Nat) (i : Int) : Nat := (i % ((2 ^ w : Nat) : Int)).toNat

/-- `a` lies before `b` (R213). -/
def before (a b : Idx) : Bool := a != b && (b - a).toNat < 2 ^ 31

/-- PSN `a` lies before `b` (R213 with 2^24). -/
def psnBefore (a b : Psn) : Bool := a != b && (b - a).toNat < 2 ^ 23

/-! ### Memory: a canonical list of cells -/

/-- What an unlisted byte of host memory reads as (log entry 7). -/
def memDefault : Byte := 0

/-- Addresses strictly rise, and no cell holds what an unlisted address reads as. -/
def memWf : List Host.Cell → Bool
  | [] => true
  | (_, b) :: [] => b != memDefault
  | (a, b) :: (a', b') :: m => b != memDefault && decide (a < a') && memWf ((a', b') :: m)

/-- The byte at address `a`. -/
def memGet : List Host.Cell → Nat → Byte
  | [], _ => memDefault
  | (k, b) :: m, a => if k = a then b else memGet m a

/-- The memory with byte `v` at `a`, in canonical form. -/
def memSet : List Host.Cell → Nat → Byte → List Host.Cell
  | [], a, v => if v = memDefault then [] else [(a, v)]
  | (k, b) :: m, a, v =>
    if a < k then (if v = memDefault then (k, b) :: m else (a, v) :: (k, b) :: m)
    else if a = k then (if v = memDefault then m else (a, v) :: m)
    else (k, b) :: memSet m a v

/-- The `n` bytes from `a` on. -/
def memRead (m : List Host.Cell) : Nat → Nat → List Byte
  | _, 0 => []
  | a, n + 1 => memGet m a :: memRead m (a + 1) n

/-- The memory with `l` stored from `a` on. -/
def memWrite (m : List Host.Cell) : Nat → List Byte → List Host.Cell
  | _, [] => m
  | a, b :: l => memWrite (memSet m a b) (a + 1) l

/-! ### Time (R12, R13, R124, R140) -/

/-- The current sample tick since reset, which every timer counts. -/
def now (s : State) : Nat := s.rgl.ticks

/-- The time-stamp of an event in this tick: its two low bits are 0 (R124). -/
def stamp (s : State) : Nat := s.rgl.time / 4 * 4 % 2 ^ 64

/-- A time-stamp recorded now is local time (R140). -/
def localTime (s : State) : Bool := !s.rgl.synced

/-! ### Free values -/

/-- The next free number, and the state that has drawn it. -/
def draw (s : State) : Nat × State := (Config.free s.drawn, { s with drawn := s.drawn + 1 })

/-! ### Event and occupancy counters (R558 to R562) -/

/-- The counter saturates in this tick: a change of MODE holds from the next (R560, R562). -/
def cntSaturates (c : Cnt) : Bool := match c.old with | some (m, _) => m | none => c.saturate

/-- A counter after `k` more events (R560). -/
def cntAdd (c : Cnt) (k : Nat) : Cnt :=
  if c.value + k < 2 ^ 48 then { c with value := c.value + k }
  else if cntSaturates c then { c with value := 2 ^ 48 - 1, saturated := true }
  else { c with value := (c.value + k) % 2 ^ 48, wrapped := true }

/-- Hardware sets an RW1C bit in this tick (R15). -/
def markSet (s : State) (kind n : Nat) : State := { s with justSet := withMember s.justSet (kind, n) }

/-- Count `k` events of counter `n` (R559); the bit that an overflow sets, WRAPPED or SATURATED, is set in this tick (R15). -/
def bumpBy (s : State) (n k : Nat) : State :=
  let c := fmGet s.mon.cnt n {}
  let s := if c.value + k < 2 ^ 48 then s else markSet s (if cntSaturates c then 5 else 4) n
  { s with mon := { s.mon with
      cnt := fmSet s.mon.cnt n (cntAdd c k),
      inTick := fmModify s.mon.inTick n 0 (· + k) } }

/-- Count one event of counter `n`. -/
def bump (s : State) (n : Nat) : State := bumpBy s n 1

/-- The quantity of occupancy counter `n` has reached `level` in this tick (R559). -/
def noteLevel (s : State) (n level : Nat) : State :=
  { s with mon := { s.mon with peak := fmModify s.mon.peak n 0 (max · level) } }

/-- A sample of value `v` sets out for every enabled Dial of KIND `kind` whose ARG `sel` accepts (R566). -/
def sampleDials (s : State) (kind : Nat) (sel : Nat → Bool) (v : Nat) : State :=
  { s with mon := { s.mon with
      dials := s.mon.dials.map (fun p =>
        if p.2.en && p.2.kind == kind && sel p.2.arg
        then (p.1, { p.2 with coming := p.2.coming ++ [(v, stamp s)] }) else p) } }

/-! ### Faults -/

/-- A source is raised in this step; the Custodian handles it at the end of the step (R543, R545). -/
def fault (s : State) (src detail : Nat) : State :=
  { s with cus := { s.cus with raised := s.cus.raised ++ [⟨src, detail⟩] } }

/-! ### Functions and host memory -/

/-- The function of tenant number `fn`. -/
def fnOf (s : State) (fn : Nat) : Fn := fmGet s.hif.fns fn {}

/-- The state with the function of `fn` changed. -/
def setFn (s : State) (fn : Nat) (f : Fn → Fn) : State :=
  { s with hif := { s.hif with fns := fmModify s.hif.fns fn {} f } }

/-- The link half that carries a function (R183). -/
def halfOf (s : State) (fn : Nat) : Nat := if s.hif.mode = 1 && fn ≥ 128 then 1 else 0
def linkHalf (s : State) (half : Nat) : LinkHalf := if half = 0 then s.hif.half0 else s.hif.half1

/-- Counter `k` of the half that carries `fn`; in x16 mode half 0 counts everything (R558). -/
def hifCounter (s : State) (fn k : Nat) : Nat := 273 + 8 * halfOf s fn + k

/-- The device may access host memory for the function (R185, R205, R551, R618). -/
def canAccess (s : State) (fn : Nat) : Bool :=
  let f := fnOf s fn
  f.bme && !f.flr && !f.d3hot && !s.cus.safe && !s.inReset

/-- Status of the completion in DETAIL[15:8] of HIF_CPL_ERROR (R547; log entry 8). -/
def cplStatus : CplError → Nat
  | .unsupportedRequest => 1
  | .completerAbort => 4
  | .poisoned => 0
  | .timeout => 0

/-- How a device read of `n` bytes at `a` fails, if it does (R202). -/
def readError (s : State) (a n : Nat) : Option CplError :=
  (s.hostErr.find? (fun r => decide (r.1 < a + max 1 n) && decide (a ≤ r.2.1))).map (fun r => r.2.2)

/-- The writes to host memory that are under way on a link half. -/
def underWay (s : State) (half : Nat) : List Issued := s.issued.filter (fun e => !e.landed && halfOf s e.fn == half)

/-- Those that may become visible next: one with Relaxed Ordering passes any earlier write; another passes none but those of its own packet
(R200, R311, R315). -/
def mayLand (l : List Issued) : List Issued :=
  l.filter (fun e => e.relaxed || (match l.head? with | some f => f.ctx == e.ctx && f.psn == e.psn | none => false))

/-- A write becomes visible. -/
def landOne (s : State) (e : Issued) : State :=
  { s with host := memWrite s.host e.addr e.bytes, issued := s.issued.map (fun x => if x = e then { x with landed := true } else x) }

/-- At most so many writes of a half become visible, in an order that free values choose; where `stop` is 1, a free value may end it after any
of them. -/
def landWrites (half stop : Nat) : Nat → State → State
  | 0, s => s
  | n + 1, s =>
    match mayLand (underWay s half) with
    | [] => s
    | e :: l =>
      let (v, s) := draw s
      match (e :: l)[v % (l.length + 1 + stop)]? with
      | none => s
      | some e => landWrites half stop n (landOne s e)

/-- No access of a function passes an earlier write of its link half: those under way become visible first (R200, R315). -/
def pushWrites (s : State) (fn : Nat) : State := landWrites (halfOf s fn) 0 s.issued.length s

/-- Writes under way become visible as they may at any time (R315). -/
def settleWrites (s : State) : State := landWrites 1 1 s.issued.length (landWrites 0 1 s.issued.length s)

/-- Memory is out of reach for good for the functions that `p` accepts: of what was under way for them a free part, in an order that the rules of
R315 allow, has become visible, and the rest is lost (R314). -/
def loseWrites (s : State) (p : Nat → Bool) : State :=
  let s := settleWrites s
  { s with issued := s.issued.filter (fun e => !p e.fn) }

/-- A range of bytes in its naturally aligned 8-byte units, each of which is written whole (R311). -/
def units : Nat → Nat → List Byte → List (Nat × List Byte)
  | 0, _, _ => []
  | n + 1, a, l => if l = [] then [] else (a, l.take (8 - a % 8)) :: units n (a + (8 - a % 8)) (l.drop (8 - a % 8))

/-- A write to host memory for a function (R185); it clears the reservations on every granule that it touches (R330).
Where the device may not access the function's memory, nothing. -/
def hostWrite (s : State) (fn a : Nat) (l : List Byte) : State :=
  if canAccess s fn then
    let s := pushWrites s fn
    bump { s with
      host := memWrite s.host a l,
      pal := { s.pal with rsvs := s.pal.rsvs.filter (fun r => decide (r.addr + 8 ≤ a) || decide (a + l.length ≤ r.addr)) }
      } (hifCounter s fn 5)
  else s

/-- The bit of AER's uncorrectable error status that a failed completion sets (R182; log entry 151). -/
def aerBit : CplError → Nat
  | .poisoned => 2 ^ 12
  | .timeout => 2 ^ 14
  | .unsupportedRequest | .completerAbort => 0

/-- A read of host memory for a function: the bytes, or none where it fails (R202). One that succeeds declares the function's earlier writes
visible (R201). -/
def hostRead (s : State) (fn a n : Nat) : State × Option (List Byte) :=
  if canAccess s fn then
    let s := pushWrites s fn
    let s := noteLevel (bump s (hifCounter s fn 4)) (hifCounter s fn 7) 1
    match readError s a n with
    | none => ({ s with issued := s.issued.filter (fun e => e.fn != fn) }, some (memRead s.host a n))
    | some e =>
      let s := setFn s fn (fun f => { f with aer := Nat.lor f.aer (aerBit e) })
      (fault (bump s (hifCounter s fn 6)) 34 (fn + cplStatus e * 256), none)
  else (s, none)

/-- A range of host memory has been written for a function and a queue through a region, and no read of R201 has followed. -/
def noteIssued (s : State) (e : Issued) : State :=
  { s with issued := s.issued.filter (fun x => !(x.landed && x.fn == e.fn && x.ctx == e.ctx && x.queue == e.queue && x.region == e.region))
      ++ [{ e with landed := true }] }

/-- The last byte of a posted write. -/
def lastByte (e : Issued) : Nat := e.addr + max 1 e.bytes.length - 1

/-- The posted writes that `p` accepts are declared visible by one read of R201 that follows them, of length zero; where there is none, no read is
made. The flag says that it succeeded (log entry 154). -/
def declareIssued (s : State) (p : Issued → Bool) : State × Bool :=
  match (s.issued.filter p).getLast? with
  | none => (s, true)
  | some e =>
    let (s, r) := hostRead s e.fn (lastByte e) 0
    (s, r.isSome)

/-- The injection and ejection port of a function (R28). -/
def fnPort (s : State) (fn : Nat) : Nat :=
  if s.hif.mode = 1 then 12 + halfOf s fn else 12 + fn % 2

/-! ### Where the device stands -/

/-- The main die runs: it is not held in reset and not in the safe state (R551, R599). -/
def running (s : State) : Bool := !s.inReset && !s.cus.safe

/-! ### The tap (R581, R582) -/

/-- Packets leave an injection port for a tenant, with payload bytes (R582). -/
def tapInj (s : State) (fn pkts bytes : Nat) : State :=
  { s with tap := { s.tap with
      incs := fmModify s.tap.incs fn {} (fun t => { t with
        injPkts := t.injPkts + pkts, injBytes := t.injBytes + bytes }) } }

/-- Packets are delivered on a tenant's behalf, with payload bytes (R582). -/
def tapDlv (s : State) (fn pkts bytes : Nat) : State :=
  { s with tap := { s.tap with
      incs := fmModify s.tap.incs fn {} (fun t => { t with
        dlvPkts := t.dlvPkts + pkts, dlvBytes := t.dlvBytes + bytes }) } }

/-- A reservation has not expired: it was set less than 64 µs of Regulator time ago (R330). -/
def rsvLive (s : State) (r : Rsv) : Bool := decide (s.rgl.time < r.time + 256000)

/-- The node count of the configured shape. -/
def nodeCount (s : State) : Nat := s.mvt.shape.foldl (fun n d => n * (d + 1)) 1

end Sys2Proof.Machine
end

