-- ==== Sys2Proof/Machine/FloatOps.lean ====
section
/-! DEFINITION. IEEE 754 numbers as words: fp64, fp32 and bf16 values in units of 2^-1074, exact sums and the one rounding
to nearest-even (R341, R420 to R424). -/

namespace Sys2Proof.Machine

/-- A format: exponent bits, fraction bits, and the weight of its least subnormal above 2^-1074, as a power of two. -/
structure Fmt where
  ebits : Nat
  fbits : Nat
  low : Nat
  deriving DecidableEq, Repr

def fp64 : Fmt := { ebits := 11, fbits := 52, low := 0 }
def fp32 : Fmt := { ebits := 8, fbits := 23, low := 925 }
def bf16 : Fmt := { ebits := 8, fbits := 7, low := 941 }

/-- The format of a collective TYPE (R413). -/
def fmtOf (type : Nat) : Fmt := if type = 2 then fp64 else if type = 3 then fp32 else bf16

/-- A value: a number in units of 2^-1074 with the sign of a zero, an infinity, or a NaN. -/
inductive FVal where
  | fin (neg : Bool) (mag : Nat)
  | inf (neg : Bool)
  | nan
  deriving DecidableEq, Repr

/-- The value of a word. -/
def fval (f : Fmt) (w : Nat) : FVal :=
  let frac := field w 0 f.fbits
  let e := field w f.fbits f.ebits
  let neg := bitAt w (f.fbits + f.ebits)
  if e = 2 ^ f.ebits - 1 then (if frac = 0 then .inf neg else .nan)
  else if e = 0 then .fin neg (frac * 2 ^ f.low)
  else .fin neg ((2 ^ f.fbits + frac) * 2 ^ (f.low + e - 1))

def infWord (f : Fmt) (neg : Bool) : Nat := place [(f.fbits, 2 ^ f.ebits - 1), (f.fbits + f.ebits, b2n neg)]

/-- The canonical quiet NaN (R421). -/
def nanWord (f : Fmt) : Nat := place [(f.fbits - 1, 1), (f.fbits, 2 ^ f.ebits - 1)]

/-- Bits of a number. -/
def bitLen (n : Nat) : Nat := if n = 0 then 0 else Nat.log2 n + 1

/-- The word nearest to `mag` units of 2^-1074, ties to even, overflow to infinity. -/
def roundWord (f : Fmt) (neg : Bool) (mag : Nat) : Nat :=
  let ulp := max (bitLen mag - (f.fbits + 1)) f.low
  let q := mag / 2 ^ ulp
  let r := mag % 2 ^ ulp
  let half := 2 ^ ulp / 2
  let q := if ulp > 0 && (r > half || (r = half && q % 2 = 1)) then q + 1 else q
  let (q, ulp) := if q = 2 ^ (f.fbits + 1) then (q / 2, ulp + 1) else (q, ulp)
  let e := if q < 2 ^ f.fbits then 0 else ulp - f.low + 1
  if e ≥ 2 ^ f.ebits - 1 then infWord f neg
  else place [(0, q % 2 ^ f.fbits), (f.fbits, e), (f.fbits + f.ebits, b2n neg)]

/-- The signed sum in units of 2^-1074. -/
def signedOf (neg : Bool) (mag : Nat) : Int := if neg then -(mag : Int) else mag

/-- The sum of two words rounded to nearest-even in a format; `onNan` where it is a NaN. -/
def addWords (f : Fmt) (onNan a b : Nat) : Nat :=
  match fval f a, fval f b with
  | .nan, _ => onNan
  | _, .nan => onNan
  | .inf x, .inf y => if x = y then infWord f x else onNan
  | .inf x, .fin _ _ => infWord f x
  | .fin _ _, .inf y => infWord f y
  | .fin x m, .fin y n =>
    let i := signedOf x m + signedOf y n
    if i = 0 then place [(f.fbits + f.ebits, b2n (x && y && decide (m = 0) && decide (n = 0)))]
    else roundWord f (decide (i < 0)) i.natAbs

/-- A word of one format as a word of a wider one, or rounded to a narrower one (R422). -/
def convert (a b : Fmt) (w : Nat) : Nat :=
  match fval a w with
  | .nan => nanWord b
  | .inf x => infWord b x
  | .fin x m => if m = 0 then place [(b.fbits + b.ebits, b2n x)] else roundWord b x m

/-- −0 lies below +0, and infinities at the ends (R420). -/
def fkey : FVal → Int × Int
  | .fin neg m => (0, 2 * signedOf neg m + (if neg then 0 else 1))
  | .inf neg => (if neg then -1 else 1, 0)
  | .nan => (0, 0)

def fless (a b : FVal) : Bool :=
  let x := fkey a
  let y := fkey b
  decide (x.1 < y.1) || (x.1 == y.1 && decide (x.2 < y.2))

/-- Minimum or maximum of two words: a NaN operand gives the canonical NaN (R420, R421). -/
def minMaxWords (f : Fmt) (mx : Bool) (a b : Nat) : Nat :=
  match fval f a, fval f b with
  | .nan, _ => nanWord f
  | _, .nan => nanWord f
  | x, y => if fless x y == mx then b else a

end Sys2Proof.Machine
end

