-- ==== Sys2Proof/Machine/Mirror.lean ====
section
/-! DEFINITION. Mirror records on their way to the twin, and events gated on their confirmation (R520 to R523). -/

namespace Sys2Proof.Machine

/-- STATE of TWN_STATUS (R516, R538). -/
def twinCode : TwinSt → Nat
  | .down => 0
  | .syncing => 1
  | .paired => 2
  | .alone => 3
  | .partnerDead => 4

/-- The mirror is complete and running (R516). -/
def isPaired (s : State) : Bool := s.twn.state == .paired

/-- A twin frame of a kind, with the sender's fields (R520). -/
def frameOf (s : State) (kind body : Nat) (r : Option MirrorRec) : TwinFrame :=
  { kind := kind, seq := s.twn.txSeq, ack := (s.twn.rxSeq + 2 ^ 32 - 1) % 2 ^ 32, time := s.rgl.time % 2 ^ 64,
    state := twinCode s.twn.state, curReady := s.cur.ready, coord := s.mvt.coord, plane := s.brd.straps.plane,
    adoptEn := s.twn.adoptEn, body := body, record := r }

/-- A frame joins those that wait for a flit slot of the bridge (R521). -/
def queueFrame (s : State) (f : TwinFrame) : State :=
  { s with twn := { s.twn with outbox := s.twn.outbox ++ [f] } }

/-- Send one mirror record (R522). -/
def sendRecord (s : State) (r : MirrorRec) : State :=
  let s := bump (queueFrame s (frameOf s 3 0 (some r))) 391
  { s with twn := { s.twn with txSeq := (s.twn.txSeq + 1) % 2 ^ 32 } }

/-- Mirror a change while the twins are SYNCING or PAIRED (R522). -/
def mirror (s : State) (r : MirrorRec) : State :=
  if s.twn.state == .syncing || isPaired s then sendRecord s r else s

/-- While PAIRED, an event waits for the confirmation of its record (R523). -/
def gateOn (s : State) (r : MirrorRec) (g : Gated) : State :=
  let n := s.twn.txSeq
  let s := sendRecord s r
  let s := if s.twn.gate.length = 4095 then bump s 394 else s
  noteLevel { s with twn := { s.twn with gate := s.twn.gate ++ [(n, g)] } } 393 (s.twn.gate.length + 1)

end Sys2Proof.Machine
end

