-- ==== Sys2Proof/Machine/Rings.lean ====
section
/-! DEFINITION. Ring arithmetic (R212), event rings (R233 to R238), error rings (R224 to R226), and how a job
becomes done, fails and is passed by the head index (R221 to R223, R570). -/

namespace Sys2Proof.Machine

/-- A ring of `2 ^ log2` entries with next index `seq` and consumer word `cons` is full (R212). -/
def ringFull (log2 : Nat) (seq cons : Idx) : Bool := decide ((seq - cons).toNat ≥ 2 ^ log2)

/-- The address of index `seq` in a ring of `rec`-byte records (R212). -/
def slotOf (base log2 size : Nat) (seq : Idx) : Nat := base + size * (seq.toNat % 2 ^ log2)

/-- The records of a fresh ring: SEQ = (slot − size) mod 2^32 and 0 in every other byte (R226). -/
def freshRing (log2 recBytes : Nat) : Nat → List Byte
  | 0 => []
  | n + 1 => freshRing log2 recBytes n ++ padTo recBytes (leBytes 4 ((2 ^ 32 + n - 2 ^ log2) % 2 ^ 32))

/-! ### Event rings -/

/-- The key of ring `ring` of a function. -/
def evKey (fn ring : Nat) : Nat := fn * 64 + ring

/-- An event record (R234). -/
def eventBytes (seq : Idx) (m : Mark) (coalesced : Bool) : List Byte :=
  leBytes 32 (place [(0, seq.toNat), (32, m.type), (40, b2n coalesced), (41, b2n m.isLocal), (48, min m.count 65535),
    (64, m.source), (96, m.info), (128, m.time)])

/-- The ring's status word (R236). -/
def statusWord (r : EvRing) : Nat := place [(0, b2n r.overflow), (32, r.episodes % 2 ^ 32)]

def setRing (s : State) (key : Nat) (r : EvRing) : State :=
  { s with rings := { s.rings with rings := fmSet s.rings.rings key r } }

def setMarks (s : State) (key : Nat) (l : List Mark) : State :=
  { s with rings := { s.rings with marks := if l = [] then fmErase s.rings.marks key else fmSet s.rings.marks key l } }

/-- Write one record into the ring; its MSI-X message becomes due (R234, R238). -/
def writeEvent (s : State) (key : Nat) (r : EvRing) (m : Mark) (coalesced : Bool) : State :=
  setRing (hostWrite s (key / 64) (slotOf r.base r.log2 32 r.seq) (eventBytes r.seq m coalesced)) key
    { r with seq := r.seq + 1, msgDue := true }

/-- Re-read the ring's consumer word, when the cached copy shows the ring full (R237). -/
def rereadEv (s : State) (key : Nat) (r : EvRing) : State × EvRing :=
  if ringFull r.log2 r.seq r.cached then
    match hostRead s (key / 64) r.consAddr 4 with
    | (s, some l) => (setRing s key { r with cached := BitVec.ofNat 32 (leNat l) }, { r with cached := BitVec.ofNat 32 (leNat l) })
    | (s, none) => (s, r)
  else (s, r)

/-- Write pending marks as COALESCED records, oldest first, while the ring has room (R237). -/
def flushMarks (s : State) (key : Nat) : List Mark → State
  | [] =>
    match fmFind s.rings.rings key with
    | some r => setRing (setMarks s key []) key { r with episode := false }
    | none => setMarks s key []
  | m :: l =>
    match fmFind s.rings.rings key with
    | none => setMarks s key (m :: l)
    | some r =>
      if ringFull r.log2 r.seq r.cached || !canAccess s (key / 64) then setMarks s key (m :: l)
      else flushMarks (writeEvent s key r m true) key l

/-- Merge an event into the mark of its pair, or set a new mark (R237). -/
def addMark (m : Mark) : List Mark → List Mark
  | [] => [m]
  | x :: l =>
    if x.source = m.source && x.type = m.type
    then { x with count := x.count + m.count, info := m.info, time := m.time, isLocal := m.isLocal } :: l
    else x :: addMark m l

/-- OVERFLOW is set; where no mark is pending since the ring was last found full, that is an onset, which is counted (R236, R237). -/
def setOverflow (s : State) (key : Nat) (r : EvRing) : State :=
  if r.overflow && r.episode then s
  else
    let r := { r with overflow := true, episode := true, episodes := r.episodes + b2n (!r.episode) }
    setRing (hostWrite s (key / 64) r.statusAddr (leBytes 8 (statusWord r))) key r

/-- Post one event to a function's event ring (R233, R235, R237). -/
def postEvent (s : State) (fn ring type source info : Nat) : State :=
  let key := evKey fn ring
  let m : Mark := { source, type, count := 1, info := info % 2 ^ 32, time := stamp s, isLocal := localTime s }
  let ms := fmGet s.rings.marks key []
  match fmFind s.rings.rings key with
  | none => setMarks s key (addMark m ms)
  | some r =>
    if ms.any (fun x => x.source == source && x.type == type) then setMarks s key (addMark m ms)
    else if !canAccess s fn then setMarks s key (addMark m ms)
    else
      let (s, r) := rereadEv s key r
      let s := flushMarks s key ms
      let r := fmGet s.rings.rings key r
      let left := fmGet s.rings.marks key []
      if left = [] && !ringFull r.log2 r.seq r.cached then writeEvent s key r m false
      else setOverflow (setMarks s key (addMark m left)) key r

/-! ### Queues -/

def queueOf (s : State) (q : Nat) : Queue := fmGet s.rings.queues q {}

def setQueue (s : State) (q : Nat) (x : Queue) : State :=
  { s with rings := { s.rings with queues := fmSet s.rings.queues q x } }

def modQueue (s : State) (q : Nat) (f : Queue → Queue) : State := setQueue s q (f (queueOf s q))

/-- The job of a queue whose first entry has index `idx`. -/
def jobOf (s : State) (q : Nat) (idx : Idx) : Option Job := (queueOf s q).jobs.find? (fun j => j.idx == idx)

def modJob (s : State) (q : Nat) (idx : Idx) (f : Job → Job) : State :=
  modQueue s q (fun x => { x with jobs := x.jobs.map (fun j => if j.idx == idx then f j else j) })

/-- The address of a ring entry (R212). -/
def entryAddr (x : Queue) (idx : Idx) : Nat := slotOf x.base x.log2 64 idx

/-- An error record (R225). -/
def errBytes (q : Nat) (seq : Idx) (e : ErrRec) : List Byte :=
  leBytes 64 (place [(0, seq.toNat), (32, q), (50, b2n e.isLocal), (64, e.idx.toNat), (96, e.status), (104, e.opcode),
    (112, e.entries), (128, e.cookie), (192, e.time), (256, e.detail0 % 2 ^ 64), (320, e.detail1 % 2 ^ 64)])

/-- Re-read the error ring's consumer word, when the cached copy shows the ring full (R224). -/
def rereadErr (s : State) (q : Nat) : State :=
  let x := queueOf s q
  if ringFull x.errLog2 x.errSeq x.errCached then
    match hostRead s x.fn x.errCons 4 with
    | (s, some l) => setQueue s q { x with errCached := BitVec.ofNat 32 (leNat l) }
    | (s, none) => s
  else s

/-- Write one error record, then its ERROR event (R223, R224). -/
def writeErr (s : State) (q : Nat) (e : ErrRec) : State :=
  let x := queueOf s q
  let s := hostWrite s x.fn (slotOf x.errBase x.errLog2 64 x.errSeq) (errBytes q x.errSeq e)
  let s := modQueue s q (fun x => { x with errSeq := x.errSeq + 1 })
  postEvent s x.fn x.evr 0x02 q e.idx.toNat

/-- The waiting records in index order, counted from the head index (R224). The first eight are those that the device holds; failures of jobs that
were in flight when it held eight wait in their jobs behind them, of which the spec says nothing (DESIGN CHOICE, log entry 153). -/
def insertWaiting (head : Idx) (e : ErrRec) : List ErrRec → List ErrRec
  | [] => [e]
  | w :: l => if (e.idx - head).toNat < (w.idx - head).toNat then e :: w :: l else w :: insertWaiting head e l

/-- The STATUS byte of a failed job whose memory was out of reach is written as soon as it is in reach again (R185, R223). -/
def putStatus (q : Nat) (s : State) (e : ErrRec) : State :=
  let x := queueOf s q
  if e.statusDue && canAccess s x.fn then hostWrite s x.fn (entryAddr x e.idx + 1) [BitVec.ofNat 8 e.status] else s
def statusPut (s : State) (q : Nat) (e : ErrRec) : ErrRec :=
  { e with statusDue := e.statusDue && !canAccess s (queueOf s q).fn }

/-- A strict queue whose malformed job has its record stops and posts STOPPED once (R228). -/
def stopIfDue (s : State) (q : Nat) (j : Job) : State :=
  let x := queueOf s q
  if j.malformed && x.strict && x.st != .stopped && x.st != .draining && x.st != .disabled then
    postEvent (mirror (setQueue s q { x with st := .stopped }) (.stopped q 3)) x.fn x.evr 0x04 q j.idx.toNat
  else s

/-- Where each opcode keeps a record field: low bit of its local key and of its remote key, which their offsets follow
(R339 to R341, R326, R377, R380). -/
def localAt (opcode : Nat) : Option Nat :=
  match opcode with
  | 0x01 => some 128 | 0x03 => some 128 | 0x04 => some 128 | 0x21 => some 224 | 0x30 => some 128 | 0x31 => some 128
  | _ => none
def remoteAt (opcode : Nat) : Option Nat :=
  match opcode with
  | 0x01 => some 224 | 0x02 => some 128 | 0x03 => some 224 | 0x04 => some 224 | 0x21 => some 128 | 0x22 => some 128
  | _ => none

/-- The bytes of a job that has a LENGTH (R339, R340, R377, R380). -/
def jobLength (opcode e : Nat) : Nat :=
  match opcode with
  | 0x01 => field e 320 32 | 0x02 => field e 208 8 | 0x03 => field e 320 32 | 0x30 => field e 224 32 | 0x31 => field e 224 32
  | _ => 0

/-- The destination of a job: its connection's peer, or the device that a SEND names (R570). -/
def jobDest (s : State) (j : Job) (e : Nat) : Nat × Nat :=
  if (remoteAt j.opcode).isSome then
    match fmFind s.ctx.ctxs j.context with
    | some x => (x.pCoord, x.pPlane)
    | none => (0, 0)
  else if j.opcode = 0x30 then (field e 256 24, field e 280 1)
  else (0, 0)

/-- The Provenance record of a sampled job that is done (R570, R571). -/
def provRecord (s : State) (q : Nat) (j : Job) : State :=
  if !j.sampled then s
  else
    let e := (j.entries.headD 0).toNat
    let m := s.mon
    if m.prov.stopFull && m.provSince ≥ 8192 then
      bump { s with mon := { m with provFull := true } } 402
    else
      let at_ := fun (o : Option Nat) (d w : Nat) => match o with | some b => field e (b + d) w | none => 0
      let r : ProvRec := {
        seq := m.provNext, queue := q, isLocal := localTime s, opcode := j.opcode, index := j.idx.toNat,
        status := j.status, entries := j.entries.length, context := j.context,
        lkey := at_ (localAt j.opcode) 0 32, loffset := at_ (localAt j.opcode) 32 48,
        rkey := (if j.opcode == 0x30 then field e 281 12 else if j.opcode == 0x40 then j.context % 512
                 else at_ (remoteAt j.opcode) 0 32),
        roffset := at_ (remoteAt j.opcode) 32 48,
        dest := (jobDest s j e).1, destPlane := (jobDest s j e).2,
        length := jobLength j.opcode e,
        tPost := j.tPost,
        latency := min ((stamp s - j.tPost) / 4) (2 ^ 32 - 1),
        toFirst := (match j.tFirst with | some t => min ((t - j.tPost) / 4) (2 ^ 32 - 1) | none => 0) }
      bump { s with mon := { m with
        provNext := (m.provNext + 1) % 2 ^ 32, provSince := m.provSince + 1,
        provLog := fmSet m.provLog (m.provNext % 8192) r } } 401

/-- A job has become done: its samples and its Provenance record (R222, R566, R570). -/
def jobDone (s : State) (q : Nat) (idx : Idx) : State :=
  match jobOf s q idx with
  | none => s
  | some j =>
    let s := modJob s q idx (fun j => { j with st := .done, pend := 0 })
    let lat := (stamp s - j.tPost) / 4
    let s := sampleDials s 3 (fun arg => (bitAt arg 26 || field arg 0 18 == q) && (bitAt arg 27 || field arg 18 8 == j.opcode)) lat
    let s := if j.opcode == 0x40
      then sampleDials s 9 (fun arg => field arg 0 9 == j.context % 512) ((stamp s - j.tStart) / 4) else s
    provRecord s q j

/-- The failure of a job is recorded, and with that the job is done (R222 to R224). -/
def recordFailure (s : State) (q : Nat) (e : ErrRec) : State :=
  let s := writeErr s q e
  match jobOf s q e.idx with
  | some j => stopIfDue (jobDone s q e.idx) q j
  | none => s

/-- Write the error record of a failing job, or let it wait and block the queue (R223, R224). -/
def recordNow (s : State) (q : Nat) (e : ErrRec) : State :=
  let s := rereadErr (putStatus q s e) q
  let x := queueOf s q
  if x.waiting = [] && !ringFull x.errLog2 x.errSeq x.errCached && canAccess s x.fn then recordFailure s q e
  else
    let s := setQueue s q { x with
      waiting := insertWaiting x.head (statusPut s q e) x.waiting,
      st := if x.st = .active then .blocked else x.st }
    let s := if x.st = .active then mirror s (.stopped q 2) else s
    if x.waiting = [] then postEvent s x.fn x.evr 0x03 q e.idx.toNat else s

/-- Record a failure; while PAIRED the record first waits for its mirror record (R224, R523). -/
def recordErr (s : State) (q : Nat) (e : ErrRec) : State :=
  let k := (s.twn.gate.filter (fun g => match g.2 with | .errRec q' _ => q' == q | _ => false)).length
  if isPaired s then gateOn s (.errSeq q ((queueOf s q).errSeq + BitVec.ofNat 32 k)) (.errRec q e) else recordNow s q e

/-- A job fails: its STATUS byte, then its error record and ERROR event, with which it is done (R222, R223). -/
def failJob (s : State) (q : Nat) (idx : Idx) (status d0 d1 : Nat) : State :=
  match jobOf s q idx with
  | none => s
  | some j =>
    if j.over then s
    else
      let x := queueOf s q
      let s := modJob s q idx (fun j => { j with st := .failed, pend := 0, status := status, detail0 := d0, detail1 := d1 })
      let s := hostWrite s x.fn (entryAddr x idx + 1) [BitVec.ofNat 8 status]
      recordErr s q {
        idx := idx, status := status, opcode := j.opcode, entries := j.entries.length, cookie := j.cookie,
        time := stamp s, isLocal := localTime s, detail0 := d0, detail1 := d1,
        statusDue := !canAccess s x.fn }

/-- The jobs that the head index may pass: done ones in index order (R222, R223). -/
def passable (x : Queue) : List Job := x.jobs.takeWhile (fun j => j.st == .done)

/-- COMPLETION events of the jobs that the head index passes (R235). -/
def completionEvents (s : State) (q : Nat) (x : Queue) : List Job → State
  | [] => s
  | j :: l =>
    completionEvents (if j.event then postEvent s x.fn x.evr 0x01 q j.idx.toNat else s) q x l

/-- HEAD_INDEX_PUBLISH: write the head index that covers every done job it may pass (R221, R222). -/
def publishHead (s : State) (q : Nat) : State :=
  let x := queueOf s q
  match (passable x).getLast? with
  | none => s
  | some j =>
    let p := passable x
    if !canAccess s x.fn then s
    else
      let head := j.idx + BitVec.ofNat 32 j.entries.length
      let s := setQueue s q { x with head := head, jobs := x.jobs.drop p.length }
      let s := hostWrite s x.fn x.headAddr (leBytes 4 head.toNat)
      completionEvents s q x p

/-- Waiting records are written while there is room; a blocked queue becomes ACTIVE when none waits (R224). -/
def writeWaiting (s : State) (q : Nat) : List ErrRec → State
  | [] =>
    if (queueOf s q).st = .blocked then mirror (modQueue s q (fun x => { x with st := .active })) (.stopped q 1) else s
  | e :: l =>
    let x := queueOf s q
    if ringFull x.errLog2 x.errSeq x.errCached || !canAccess s x.fn then s
    else
      writeWaiting (recordFailure (setQueue (putStatus q s e) q { x with waiting := l }) q e) q l

/-- ERROR_RING_REREAD: a queue whose error records wait re-reads its consumer word, one that has stopped meanwhile too (R224). -/
def errorReread (s : State) (q : Nat) : State :=
  let x := queueOf s q
  if x.st = .blocked || x.waiting != [] then
    let s := setQueue (x.waiting.foldl (putStatus q) s) q { x with waiting := x.waiting.map (statusPut s q) }
    writeWaiting (rereadErr s q) q (queueOf s q).waiting
  else s

/-- EVENT_RING_REREAD: while a mark is pending, the consumer word is re-read and marks written (R237). -/
def eventReread (s : State) (fn ring : Nat) : State :=
  let key := evKey fn ring
  match fmFind s.rings.rings key with
  | none => s
  | some r =>
    if fmGet s.rings.marks key [] = [] || !canAccess s fn then s
    else
      let (s, _) := rereadEv s key r
      flushMarks s key (fmGet s.rings.marks key [])

/-- MSIX_MESSAGE: the message of a ring whose record awaits it, MOD_NS after the last at the soonest; a masked
vector, or any while MSI-X is not enabled (log entry 152), sets its pending bit instead (R204, R238). -/
def msixMessage (s : State) (fn ring : Nat) : State :=
  let key := evKey fn ring
  match fmFind s.rings.rings key with
  | none => s
  | some r =>
    let soonEnough := match r.lastMsg with | some t => decide (now s < t + r.modNs) | none => false
    if !r.msgDue || soonEnough || !canAccess s fn then s
    else
      let f := fnOf s fn
      let v := fmGet f.vectors r.vector {}
      if !f.msixEn || f.fnMask || v.masked then
        setFn (setRing s key { r with msgDue := false, msgPend := true }) fn (fun f => { f with pend := withMember f.pend r.vector })
      else
        let s := setRing (pushWrites s fn) key { r with msgDue := false, lastMsg := some (now s) }
        bump { s with hif := { s.hif with msgs := s.hif.msgs ++ [(fn, r.vector, v.addr, v.data)] } } (hifCounter s fn 5)

end Sys2Proof.Machine
end

