-- ==== Sys2Proof/Machine/Flags.lean ====
section
/-! DEFINITION. What the spec tabulates for each fault source and counter: default severity, FLOOR and UNIT of every
source (R542, R547), and which counters are occupancy counters (R558). -/

namespace Sys2Proof.Machine

/-- Offset of a lane source within its port's eight, and the port: fabric 184 to 279, bridge 280 to 287 (R547). -/
def laneSource (src : Nat) : Option (Nat × Nat) :=
  if 184 ≤ src && src < 280 then some ((src - 184) / 8, (src - 184) % 8)
  else if 280 ≤ src && src < 288 then some (14, src - 280)
  else none

/-- Source number of lane source `k` of a port (R547). -/
def laneSrc (port k : Nat) : Nat := if port = 14 then 280 + k else 184 + 8 * port + k

/-- Default severity and FLOOR of the named sources, lane sources apart (R547); none for an integrity source. -/
def namedSource (src : Nat) : Option (Nat × Nat) :=
  if src = 0 then some (0, 0)            -- MVT_DISCARD
  else if src = 1 then some (1, 0)       -- MVT_PACE_SLOW
  else if src = 2 then some (1, 0)       -- MVT_STRIKE_CONFLICT
  else if src = 3 then some (3, 1)       -- CORE_UNDERVOLT
  else if src = 16 then some (0, 0)      -- CUR_BASIC_WRITE
  else if src = 17 then some (1, 0)      -- CUR_FW_FALLBACK
  else if src = 18 then some (1, 0)      -- CUR_CORE_STOP
  else if src = 32 then some (0, 0)      -- HIF_DB_STRAY
  else if src = 33 then some (1, 0)      -- HIF_DB_RANGE
  else if src = 34 then some (1, 0)      -- HIF_CPL_ERROR
  else if src = 35 then some (2, 2)      -- HIF_EJECT_STALL
  else if src = 36 then some (0, 0)      -- HIF_REG_STRAY
  else if src = 56 then some (0, 0)      -- XLT_WALK_REFUSED
  else if src = 88 then some (1, 0)      -- CAR_MEMBER_LOST
  else if src = 104 then some (1, 0)     -- STK_CONFORMANCE
  else if src = 112 then some (2, 2)     -- RGL_SYNC_LOST
  else if src = 113 then some (1, 0)     -- LNE_REF_LOSS
  else if src = 136 then some (0, 0)     -- PAL_ID_MISMATCH
  else if src = 137 then some (0, 0)     -- PAL_DENIED
  else if src = 138 then some (0, 0)     -- PAL_BAD_RELEASE
  else if src = 139 then some (1, 0)     -- PAL_ABANDONED
  else if src = 144 then some (1, 0)     -- TWN_PAIR_CONFLICT
  else if src = 145 then some (1, 0)     -- TWN_PARTNER_DEAD
  else if src = 146 then some (1, 0)     -- TWN_STOP_UNCONFIRMED
  else if src = 147 then some (3, 3)     -- TWIN_STOP_IN
  else if src = 176 then some (0, 0)     -- SCH_POLICE_EXCEED
  else if src = 293 then some (0, 0)     -- SRAM_DBE_5, translation caches
  else if 288 ≤ src && src ≤ 302 then some (3, 3)  -- SRAM_DBE_n
  else if src = 303 then some (0, 0)     -- SRAM_SBE
  else if src = 304 then some (1, 0)     -- LNE_TABLE_BAD
  else if src = 305 then some (3, 1)     -- SRAM_UNDERVOLT
  else if src = 306 then some (1, 0)     -- TJ_HIGH
  else if src = 307 then some (3, 3)     -- TJ_CRITICAL
  else none

/-- Default and FLOOR of every source: lane sources by their offset, integrity sources fatal (R547). -/
def srcLevels (src : Nat) : Nat × Nat :=
  match laneSource src with
  | some (_, k) => if k ≤ 4 then (1, 0) else if k ≤ 6 then (0, 0) else (3, 3)
  | none => (namedSource src).getD (3, 3)

def srcDefault (src : Nat) : Nat := (srcLevels src).1
def srcFloor (src : Nat) : Nat := (srcLevels src).2

/-- UNIT of a source: 0 NONE, 1 PORT, 2 FUNCTION, 3 FABRIC, 4 CORE (R546, R547). -/
def srcUnit (src : Nat) : Nat :=
  match laneSource src with
  | some (p, k) => if p < 12 && k < 7 then 1 else 0
  | none =>
    if src = 18 then 4
    else if src = 32 || src = 33 || src = 34 || src = 35 || src = 56 || src = 176 then 2
    else if src = 112 then 3
    else 0

/-- The register value of SEV (R556). -/
def srcSev (s : State) (src : Nat) : Nat := ((fmGet s.cus.srcs src {}).sev).getD (srcDefault src)

/-- The severity at which an occurrence of this tick is handled (R545). -/
def sevNow (s : State) (src : Nat) : Nat := ((fmGet s.cus.srcs src {}).sevOld).getD (srcSev s src)

/-- An occurrence of the source enters the safe state: fatal, or degrade with no smaller UNIT (R543, R546). -/
def actsFatal (s : State) (src : Nat) : Bool := sevNow s src ≥ 3 || (sevNow s src = 2 && srcUnit src = 0)

/-- Occupancy counters, kind O (R558). -/
def isOccupancy (n : Nat) : Bool :=
  (40 ≤ n && n < 170) || (170 ≤ n && n < 182)
  || (182 ≤ n && n < 273 && (n - 182) % 7 = 5)
  || n = 280 || n = 288 || n = 333 || n = 334 || n = 393 || n = 397 || n = 399
  || (403 ≤ n && n < 1427 && (n - 403) % 4 = 3)

/-- Receive-port index of the lane and buffer counters: fabric ports 0 to 11, the bridge 12 (R558). -/
def portIx (port : Nat) : Nat := if port = 14 then 12 else port

end Sys2Proof.Machine
end

