-- ==== Sys2Proof/Machine/Fabric.lean ====
section
/-! DEFINITION. Shared operations of the Movement and the lanes: coordinates (R22, R24), fences (R72, R90), credits
(R55, R155), discards (R31), the parent of the synchronisation tree (R129), and a port that goes down (R157, R169). -/

namespace Sys2Proof.Machine

/-! ### Coordinates -/

/-- Position of a coordinate in dimension `d`, A = 0 to F = 5 (R22). -/
def posOf (coord d : Nat) : Nat := field coord (4 * (5 - d)) 4

/-- The coordinate with its position in dimension `d` replaced. -/
def withPos (coord d p : Nat) : Nat := coord - posOf coord d * 2 ^ (4 * (5 - d)) + p * 2 ^ (4 * (5 - d))

/-- Size of dimension `d`; 1 while the shape is not known. -/
def dimSize (s : State) (d : Nat) : Nat := s.mvt.shape.getD d 0 + 1

/-- The coordinate names a node of the configured shape (R22). -/
def validCoord (s : State) (coord : Nat) : Bool :=
  decide (coord < 2 ^ 24) && (List.range 6).all (fun d => decide (posOf coord d < dimSize s d))

/-- Linear number of a coordinate, A most significant (R24). -/
def linearOf (s : State) (coord : Nat) : Nat :=
  (List.range 6).foldl (fun n d => n * dimSize s d + posOf coord d) 0

/-- The coordinate of a linear number (R24). -/
def coordOf (s : State) (n : Nat) : Nat :=
  ((List.range 6).foldr (fun d (acc : Nat × Nat) =>
    (acc.1 / dimSize s d, acc.2 + acc.1 % dimSize s d * 2 ^ (4 * (5 - d)))) (n, 0)).2

/-- The neighbour of a coordinate through fabric port `p` (R26). -/
def neighbour (s : State) (coord p : Nat) : Nat :=
  let d := p / 2
  let n := dimSize s d
  withPos coord d ((posOf coord d + (if p % 2 = 0 then 1 else n - 1)) % n)

/-! ### Directions and dimension order -/

/-- The direction in dimension `d` from `src` to `dst`: 0 is +, 1 is − (R53). -/
def dirIn (s : State) (src dst d : Nat) : Nat :=
  let n := dimSize s d
  let x := (posOf dst d + n - posOf src d) % n
  if x = 0 then 0
  else if x < n - x then 0
  else if x > n - x then 1
  else if posOf src d % 2 = 0 then 0 else 1

/-- DIR of a packet: A in bit 5 through F in bit 0 (R50, R53). -/
def dirBits (s : State) (src dst : Nat) : Nat :=
  (List.range 6).foldl (fun n d => n * 2 + dirIn s src dst d) 0

def dirOf (dir d : Nat) : Nat := field dir (5 - d) 1

/-- The dimensions in which two coordinates differ, A first. -/
def openDims (here dst : Nat) : List Nat := (List.range 6).filter (fun d => posOf here d != posOf dst d)

/-- The next port in dimension order, by DIR (R62). -/
def orderPort (dir here dst : Nat) : Option Nat :=
  (openDims here dst).head?.map (fun d => 2 * d + dirOf dir d)

/-! ### Route banks (R79) -/

def bankOf (s : State) (bit : Nat) : RouteBank := if bit = 0 then s.mvt.bank0 else s.mvt.bank1

/-- The EPOCH bit of the current bank; while none has become current, that of the bank which is not staged (R79, R89). -/
def currentBit (s : State) : Nat :=
  if s.mvt.bank1.st = .current then 1 else if s.mvt.bank0.st = .current then 0 else b2n (s.mvt.bank0.st == .staged)

def currentBank (s : State) : RouteBank := bankOf s (currentBit s)

/-- The bank's fault map has the device fenced (R77). -/
def deviceFenced (b : RouteBank) (n : Nat) : Bool := b.map.devices.contains n

/-! ### Lane ports -/

def laneOf (s : State) (p : Nat) : LanePort := fmGet s.lne.ports p {}

def setLane (s : State) (p : Nat) (x : LanePort) : State :=
  { s with lne := { s.lne with ports := fmSet s.lne.ports p x } }

def modLane (s : State) (p : Nat) (f : LanePort → LanePort) : State := setLane s p (f (laneOf s p))

/-- A port with lanes: a fabric port or the twin bridge. -/
def hasLanes (p : Nat) : Bool := decide (p < 12) || p == 14

/-- The port's link carries groups in both directions, or would but for sleep. -/
def linkActive (s : State) (p : Nat) : Bool :=
  let l := laneOf s p
  (l.tx == .active || l.tx == .sleep) && (l.rx == .active || l.rx == .sleep)

/-- Both directions of the port are ACTIVE (R173). -/
def bothActive (s : State) (p : Nat) : Bool := (laneOf s p).tx == .active && (laneOf s p).rx == .active

/-- The bridge is READY: its port carries groups (R170, R517). -/
def bridgeReady (s : State) : Bool := linkActive s 14

/-! ### Fences -/

/-- MVT_PORT_CFG.FENCED: the port is fenced, for any reason (R90). -/
def fenced (s : State) (p : Nat) : Bool :=
  s.mvt.adminFence.contains p || s.mvt.linkFence.contains p || s.mvt.peerFence.contains p
  || s.cus.safe && hasLanes p

/-! ### Messages between Curators (R66) -/

def bufKey (p vc : Nat) : Nat := p * 16 + vc

def bufOf (s : State) (key : Nat) : List Held := fmGet s.mvt.bufs key []

def setBuf (s : State) (key : Nat) (l : List Held) : State :=
  { s with mvt := { s.mvt with bufs := if l = [] then fmErase s.mvt.bufs key else fmSet s.mvt.bufs key l } }

/-- The port by which a management message for a coordinate leaves: the next in dimension order, or where that is not ACTIVE the lowest
ACTIVE fabric port, whose Curator relays it; none for this device itself (R66; log entry 119). -/
def relayPort (s : State) (c : Nat) : List Nat :=
  match orderPort (dirBits s s.mvt.coord c) s.mvt.coord c with
  | none => []
  | some p => if linkActive s p then [p] else ((List.range 12).filter (linkActive s)).take 1

/-- The ports by which a message leaves: to the twin over the bridge; to all by every fabric port; to one device toward it (R64, R66, R77,
R507, R509, R610). -/
def messagePorts (s : State) (dest : Option Nat) (m : CurMsg) : List Nat :=
  let fabric := (List.range 12).filter (linkActive s)
  let bridge := [14].filter (linkActive s)
  match m, dest with
  | .faultMap _, _ => bridge
  | .lockAsk true .., _ => bridge
  | .lockAnswer .., none => bridge
  | .flr _, none => fabric ++ bridge
  | .coordinate _, some c => if c = s.mvt.coord then bridge else relayPort s c
  | _, none => fabric
  | _, some c => relayPort s c

/-- The management packet of a message on its one link: VC 9, to the device at the other end. The spec does not lay out its content (R66;
log entry 119). -/
def messagePacket (s : State) (p : Nat) : Packet :=
  let there := if p < 12 then neighbour s s.mvt.coord p else s.mvt.coord
  { rt := { dest := there, src := s.mvt.coord, plane := s.brd.straps.plane, cls := 4, vc := 9, epoch := currentBit s,
            age := field s.rgl.time 12 16, dir := dirBits s s.mvt.coord there },
    tt := .mgmt 0 }

/-- This device's Curator sends a message to another's, or to every one of the plane: a management packet waits for VC 9 of each port by
which it leaves (R58, R66). -/
def sendCur (s : State) (dest : Option Nat) (m : CurMsg) : State :=
  let s := (messagePorts s dest m).foldl (fun s p =>
    setBuf s (bufKey 15 9) (bufOf s (bufKey 15 9) ++ [{ pkt := messagePacket s p, got := 1, arr := now s, out := some p }])) s
  { s with epo := { s.epo with sent := s.epo.sent ++ [(dest, m)] } }

/-! ### Reports of ports (R641) -/

/-- A fence or a restored link of a fabric port is reported to the epoch master until it acknowledges. A fence takes back an earlier
report that the link is restored; that of an earlier fence goes on (R641). -/
def report (s : State) (p : Nat) (restored : Bool) : State :=
  if p < 12 then
    let s := { s with epo := { s.epo with
        reports := s.epo.reports.filter (fun r => r.port != p || (restored && !r.restored)) ++ [{ port := p, restored, sentAt := now s }] } }
    if s.cur.ready && s.rgl.rootValid then
      sendCur s (some s.rgl.rootCoord) (.report (linearOf s s.mvt.coord) (if restored then .restored p else .fence p))
    else s
  else s

/-- Fence a port as a link fault, and report the fence if the port was not fenced (R72, R546). -/
def fenceLink (s : State) (p : Nat) : State :=
  let was := fenced s p
  let s := { s with mvt := { s.mvt with linkFence := withMember s.mvt.linkFence p } }
  if was then s else report s p false

/-- The coordinate of this device as the one at the other end of a port gives it: stepped back across the port (R609). -/
def steppedBack (s : State) (c p : Nat) : Nat := if p < 12 then neighbour s c (Nat.xor p 1) else c

/-- What the other end of a port says agrees with the coordinate of this device, once that is fixed (R610). -/
def peerAgrees (s : State) (p : Nat) : Bool :=
  let l := laneOf s p
  !s.mvt.selfValid ||
    ((!l.peerValid || steppedBack s l.peerCoord p == s.mvt.coord)
    && (match fmFind s.epo.told p with | some c => steppedBack s c p == s.mvt.coord | none => true))

/-- The Curator may report a fabric port restored: it is up, fenced as after a link fault only, and the device is synchronised
and placed (R172, R610, R611). -/
def restorable (s : State) (p : Nat) : Bool :=
  decide (p < 12) && s.mvt.linkFence.contains p && !s.mvt.adminFence.contains p && !s.mvt.peerFence.contains p
  && linkActive s p && s.rgl.synced && s.mvt.selfValid && peerAgrees s p

/-- Report every fabric port that is restored and that no report names yet (R172, R611). -/
def reportRestored (s : State) : State :=
  (List.range 12).foldl (fun s p =>
    if restorable s p && !s.epo.reports.any (fun r => r.port == p && r.restored) then report s p true else s) s

/-- The port has lanes that train: not a fabric port of a dimension of size 1, nor one of a device without a valid machine record
or without firmware (R170, R604, R607). -/
def mayTrain (s : State) (p : Nat) : Bool :=
  p == 14 || (decide (p < 12) && s.mvt.shape != [] && !s.brd.halted && dimSize s (p / 2) != 1)

/-! ### Credits -/

/-- The credits held for an output channel: 504 minus flits sent, plus credits returned since link-up (R55, R155). -/
def credits (s : State) (p vc : Nat) : Nat :=
  let l := laneOf s p
  504 + fmGet l.credIn vc 0 - fmGet l.sentOn vc 0

/-- Flits held in a buffer now (MVT_VC_OCC, R558). -/
def flitsHeld (l : List Held) : Nat := l.foldl (fun n h => n + (h.got - h.sent)) 0

/-- `n` credits return to the sender of input port `p`, channel `vc`: those flits left our buffer (R55, R155). -/
def returnCredits (s : State) (p vc n : Nat) : State :=
  if hasLanes p && decide (0 < n) then
    modLane s p (fun l => { l with credOut := fmModify l.credOut vc 0 (· + n), credDue := withMember l.credDue vc })
  else s

/-! ### Transmit side -/

/-- The bridge sends 20 flit slots in a group, a fabric port 10 (R151, R152). -/
def slotsPerGroup (p : Nat) : Nat := if p = 14 then 20 else 10

/-- Credit slots of a group: two for each quad (R153, R155). -/
def creditSlots (p : Nat) : Nat := if p = 14 then 4 else 2

/-- The next group leaves: its trailer acknowledges what has been received in order, repeats a NAK in force, and names the channels whose
totals changed first (R153, R155, R161). -/
def emit (p seq : Nat) (flits : List TxFlit) (l : LanePort) : LanePort :=
  let g : OutGroup := {
    seq, ack := (l.rxSeq + 4095) % 4096, nak := l.nak, flits,
    credits := (l.credDue.take (creditSlots p)).map (fun vc => (vc, fmGet l.credOut vc 0 % 1024)) }
  { l with sent := l.sent ++ [g], credDue := l.credDue.drop (creditSlots p), owed := false }

/-- Form groups from the waiting flits while the replay buffer of 128 groups has room (R153, R160). -/
def formGroups (p : Nat) : Nat → LanePort → LanePort × Nat
  | 0, l => (l, 0)
  | n + 1, l =>
    if l.sendq = [] || l.replay.length ≥ 128 then (l, 0)
    else
      let flits := l.sendq.take (slotsPerGroup p)
      let r := formGroups p n (emit p l.nextSeq flits { l with
        sendq := l.sendq.drop (slotsPerGroup p), replay := l.replay ++ [{ seq := l.nextSeq, flits := flits }],
        nextSeq := (l.nextSeq + 1) % 4096 })
      (r.1, r.2 + 1)

/-- What the port has to tell without a flit goes in empty groups, whose SEQ is that of the next group with flits (R155, R156). -/
def tellRest (p : Nat) : Nat → LanePort → LanePort
  | 0, l => l
  | n + 1, l => if l.owed || l.credDue != [] then tellRest p n (emit p l.nextSeq [] l) else l

/-- The transmit direction has something to send, or something stored for replay (R174). -/
def txBusy (l : LanePort) : Bool := l.owed || l.credDue != [] || l.sendq != [] || l.replay != []

/-- What a transmit direction sends: with `again` every stored group in order, then new groups, then what is left to tell. The second
number counts the new groups (R55, R160, R162). -/
def sendAll (p : Nat) (again : Bool) (l : LanePort) : LanePort × Nat :=
  let l := { l with sent := [] }
  let l := if again then l.replay.foldl (fun l g => emit p g.seq g.flits l) l else l
  let (l, n) := formGroups p (l.sendq.length + 1) l
  (tellRest p 6 l, n)

/-- A flit or a credit that falls due in the tick in which a direction decides to sleep wins: the direction stays ACTIVE (R174). -/
def stayAwake (t : Nat) (l : LanePort) : LanePort :=
  if l.tx == .sleep && l.sleptAt == some t && txBusy l then { l with tx := .active, sleptAt := none, idleFrom := t } else l

/-- Send what waits, if the transmit direction is ACTIVE; the direction is idle from the last tick in which it was not (R55, R160, R162,
R174). -/
def transmit (s : State) (p : Nat) (again : Bool) : State :=
  let l := stayAwake (now s) (laneOf s p)
  if l.tx != .active then s
  else
    let (l', n) := sendAll p again l
    let s := setLane s p { l' with idleFrom := if txBusy l then now s else l.idleFrom }
    if n = 0 then s else bumpBy s (182 + 7 * portIx p + 4) n

/-- Send what waits. -/
def kick (s : State) (p : Nat) : State := transmit s p false

/-- Every port whose transmit direction has something to send or to tell sends it. -/
def kickAll (s : State) : State :=
  (s.lne.ports.filter (fun kv => kv.2.owed || kv.2.credDue != [] || kv.2.sendq != [])).foldl (fun s kv => kick s kv.1) s

/-- A twin frame takes a flit slot of the bridge ahead of the flits (R520, R521). -/
def sendTwin (s : State) (f : TwinFrame) : State :=
  if bridgeReady s then kick (modLane s 14 (fun x => { x with
      sendq := x.sendq.filter (·.twin.isSome) ++ { twin := some f } :: x.sendq.filter (·.twin.isNone) })) 14 else s

/-- An ordered set leaves the port (R158). -/
def sendOs (s : State) (p : Nat) (o : OrderedSet) : State :=
  { s with lne := { s.lne with osOut := fmSet s.lne.osOut p o } }

/-! ### Discards -/

/-- The four reasons of R31, in its order; the counters DISCARD_* are numbered alike (R558; log entry 9). -/
inductive Discard where
  | age
  | addr
  | fence
  | safeState
  deriving DecidableEq, Repr

def Discard.code : Discard → Nat
  | .age => 0
  | .addr => 1
  | .fence => 2
  | .safeState => 3

/-- Count a discarded packet and report it to the Custodian (R31). -/
def countDiscard (s : State) (why : Discard) (src : Nat) : State :=
  fault (bump s why.code) 0 (why.code + src * 2 ^ 16)

/-- The first packet of a buffer leaves it undelivered: its claim is released, its flits' credits return, and flits of it that are still to
come will be dropped (R31, R55). -/
def removeFront (s : State) (key : Nat) : State :=
  match bufOf s key with
  | [] => s
  | h :: l =>
    let s := setBuf s key l
    let s := if h.got < h.pkt.rt.len then
        { s with mvt := { s.mvt with swallow := fmSet s.mvt.swallow key (h.pkt.rt.len - h.got) } } else s
    let s := returnCredits s (key / 16) (key % 16) h.due
    match h.claim with
    | some (p, vc) => { s with mvt := { s.mvt with claims := fmErase s.mvt.claims (bufKey p vc) } }
    | none => s

/-- The first packet of a buffer is discarded (R31). -/
def discardFront (s : State) (key : Nat) (why : Discard) : State :=
  match bufOf s key with
  | [] => s
  | h :: _ => countDiscard (removeFront s key) why h.pkt.rt.src

/-! ### The synchronisation parent -/

/-- The port whose neighbour is nearest the root: least depth, then lowest port. Both its directions are ACTIVE: over one that sleeps no
exchange runs (R129, R173). -/
def bestParent (s : State) : Option (Nat × Nat) :=
  (List.range 12).foldl (fun best p =>
    let n := fmGet s.rgl.nbrs p {}
    if bothActive s p && (!s.rgl.synced || !fenced s p) && n.depth < 0x3F then
      match best with
      | none => some (p, n.depth)
      | some (_, d) => if n.depth < d then some (p, n.depth) else best
    else best) none

/-- The device keeps its time by its parent, and so holds over when it loses it: a synchronised member, or a backup
root without its reference (R128, R136). -/
def holds (s : State) : Bool := s.rgl.synced && (s.rgl.role = 0 || (s.rgl.role = 2 && !s.rgl.refOk))

/-- PARENT_SELECTION: recompute the parent; a synchronised device that loses its parent holds over (R129, R136). So does one that exchanges its
parent for a better one, until the first exchange with it: R136 does not say (DESIGN CHOICE, log entry 141). A root without its reference that is
not synchronised takes a parent like a member (R140). -/
def selectParent (s : State) : State :=
  if s.rgl.role = 1 && (s.rgl.synced || s.rgl.refOk) then
    { s with rgl := { s.rgl with parent := 0xF, depth := if s.rgl.synced then 0 else 0x3F } }
  else
    match bestParent s with
    | some (p, d) =>
      let s' := { s with rgl := { s.rgl with parent := p, depth := min (d + 1) 0x3F } }
      if s.rgl.parent = p then s' else
        let s' := bump s' 396
        if holds s && !s.rgl.holdover && s.rgl.parent != 0xF then
          noteLevel { s' with rgl := { s'.rgl with holdover := true, holdFrom := some (now s) } } 397 1
        else s'
    | none =>
      let s' := { s with rgl := { s.rgl with parent := 0xF, depth := 0x3F } }
      if holds s && !s.rgl.holdover then
        noteLevel { s' with rgl := { s'.rgl with holdover := true, holdFrom := some (now s) } } 397 1
      else s'

/-! ### A port that goes down -/

/-- Packets that the port passed to the Movement only in part are completed with poisoned zero flits (R157). No credit returns on the next
link for what is held from before (R155; log entry 139). -/
def poisonPartial (h : Held) : Held :=
  let h := { h with due := 0 }
  if h.got < h.pkt.rt.len then
    { h with got := h.pkt.rt.len, pkt := { h.pkt with
        poisoned := true, payload := padTo ((h.pkt.rt.len - 1) * 64) h.pkt.payload } }
  else h

/-- The head of the packet that a channel carries is stored for replay or waits to be sent: it is lost with the link, and counted so. -/
def headLost (l : LanePort) (vc : Nat) : Bool :=
  ((l.replay.flatMap (·.flits)) ++ l.sendq).any (fun f => f.head.isSome && f.vc == vc)

/-- Packets that hold a claim on the port are lost with the link `l` (R72); one whose head the link still held has been counted. -/
def dropClaims (s : State) (p : Nat) (l : LanePort) : List (Nat × Nat) → State
  | [] => s
  | (out, key) :: r =>
    if out / 16 = p then
      match (bufOf s key).head? with
      | some h =>
        if h.claim != some (p, out % 16) then dropClaims { s with mvt := { s.mvt with claims := fmErase s.mvt.claims out } } p l r
        else if h.sent > 0 && headLost l (out % 16) then dropClaims (removeFront s key) p l r
        else dropClaims (discardFront s key .fence) p l r
      | none => dropClaims { s with mvt := { s.mvt with claims := fmErase s.mvt.claims out } } p l r
    else dropClaims s p l r

/-- Flits stored for replay or waiting to be sent belong to packets that are lost with the link (R72). -/
def lostWithLink (l : LanePort) : List Nat :=
  ((l.replay.flatMap (·.flits)) ++ l.sendq).filterMap (fun f => f.head.map (fun p => p.rt.src))

/-- The transmit and receive sides of a port start again from DETECT: what the link held is lost (R72, R170). -/
def restartLane (l : LanePort) (t : Nat) : LanePort :=
  { l with
    tx := .training, rx := .training, phase := 0, trainFrom := some t, retryAt := none,
    nextSeq := 0, lastAck := 0, replay := [], sendq := [], sent := [], rxSeq := 0, nak := false, nakRow := 0, nakBad := false,
    sentOn := [], credIn := [], credOut := [], owed := false, credDue := [], sleptAt := none, signal := [], adapted := false,
    lock := [], heads := [], run := [], laneMap := [], skew := [], lossAt := [], lowFrom := [], lowTold := [] }

/-- A port that is administratively fenced sends FENCE, and trains only once the fence is cleared (R159, R172, R173). -/
def fencedLane (l : LanePort) : LanePort := { l with tx := .safe, rx := .down, trainFrom := none }

/-- The lanes of a port start training; those of a port that never trains stay down, as do those of one whose partner still sends FENCE
(R159, R170). -/
def startLane (s : State) (p : Nat) (l : LanePort) : LanePort :=
  let l := restartLane l (now s)
  if s.mvt.adminFence.contains p then fencedLane l
  else if mayTrain s p && !l.peerFence then l else { l with tx := .down, rx := .down, trainFrom := none }

/-- The port's link is down: partial packets are poisoned, what the link held is lost, training starts again, and what the neighbour
announced over it counts no more. -/
def portDown (s : State) (p : Nat) : State :=
  let l := laneOf s p
  let s := (lostWithLink l).foldl (fun s src => countDiscard s .fence src) s
  let s := setLane s p (startLane s p l)
  let s := { s with rgl := { s.rgl with
      nbrs := fmErase s.rgl.nbrs p, rxAt := fmErase s.rgl.rxAt p, txAt := fmErase s.rgl.txAt p, txTick := fmErase s.rgl.txTick p } }
  let s := { s with mvt := { s.mvt with
      bufs := s.mvt.bufs.map (fun kv => if kv.1 / 16 = p then (kv.1, kv.2.map poisonPartial) else kv),
      swallow := s.mvt.swallow.filter (fun kv => kv.1 / 16 != p) } }
  dropClaims s p l s.mvt.claims

/-- A fabric port goes down as a link fault: fenced, reported and retrained (R72, R169, R170, R172). -/
def linkFault (s : State) (p : Nat) : State := selectParent (portDown (fenceLink s p) p)

end Sys2Proof.Machine
end

