-- ==== Sys2Proof/Machine/TwinOps.lean ====
section
/-! DEFINITION. Twin frames that leave through the bridge (R520, R521). -/

namespace Sys2Proof.Machine

/-- Waiting twin frames take flit slots of the bridge; without a READY bridge they are gone (R520, R521). -/
def flushFrames (s : State) : State :=
  let fs := s.twn.outbox
  fs.foldl sendTwin { s with twn := { s.twn with outbox := [] } }

end Sys2Proof.Machine
end

