-- ==== Sys2Proof/Machine/SchedOps.lean ====
section
/-! DEFINITION. What waits for injection: contexts and their windows (R347, R358), whether a built packet is ready
(R481), shapers that admit (R485), and the active lists (R482). -/

namespace Sys2Proof.Machine

/-! ### Contexts -/

def ctxOf (s : State) (c : Nat) : Ctx := fmGet s.ctx.ctxs c {}

def setCtx (s : State) (c : Nat) (x : Ctx) : State :=
  { s with ctx := { s.ctx with ctxs := fmSet s.ctx.ctxs c x } }

def modCtx (s : State) (c : Nat) (f : Ctx → Ctx) : State := setCtx s c (f (ctxOf s c))

/-- The device of a plane and coordinate is fenced, as far as this device knows: in its plane's current fault map, or
in the other plane's map as the twin last reported it, and every device there without the bridge (R77, R358). -/
def destFenced (s : State) (plane coord : Nat) : Bool :=
  if plane = s.brd.straps.plane then deviceFenced (currentBank s) (linearOf s coord)
  else fenced s 14 || !bridgeReady s ||
    (match s.mvt.twinMap with | some m => m.devices.contains (linearOf s coord) | none => false)

/-- The peer of a context is fenced (R358). -/
def peerFenced (s : State) (x : Ctx) : Bool := destFenced s x.pPlane x.pCoord

/-- An atomic, or one of the reservation pair (R347). -/
def isAtomicType (t : Nat) : Bool := t == 0x04 || t == 0x05 || t == 0x06

def ttypeOf : Transport → Nat
  | .conn h => h.ttype
  | .msg h => h.ttype
  | .car h => h.ttype
  | .mgmt k => k
  | .other t _ => t

/-- The device injects requests and Strike packets: it has synchronised, and has switched its route epoch, since reset (R85, R611). -/
def injects (s : State) : Bool := s.rgl.hadSync && s.epo.joined

/-- Flits of the largest reply that a request can draw: read data, or an answer without payload (R68). -/
def replyRoom : Transport → Nat
  | .conn h => if h.ttype = 0x03 then 1 + (h.length + 63) / 64 else 1
  | .msg h => if h.ttype = 0x32 then 1 + (h.length + 63) / 64 else 1
  | _ => 1

/-- Ejection staging that is reserved for replies: that of every request without its answer (R68). -/
def reserved (s : State) : Nat :=
  s.ctx.ctxs.foldl (fun n kv =>
    kv.2.unans.foldl (fun n u => n + replyRoom u.pkt.tt) n + (if kv.2.opens > 0 && (kv.2.st == .opening || kv.2.st == .closing) then 1 else 0)) 0

/-- Room for a reply of `n` flits can be reserved (R68). -/
def ejectRoom (s : State) (n : Nat) : Bool := reserved s == 0 || decide (reserved s + n ≤ Config.ejectSpace)

/-- The context may transmit one more request of a type, and there is room for its reply (R68, R347, R358, R611). -/
def windowOpen (s : State) (c ttype : Nat) : Bool :=
  let x := ctxOf s c
  injects s && x.st == .connected && decide (x.unans.length < 256) && !peerFenced s x
  && (!isAtomicType ttype || decide ((x.unans.filter (fun u => isAtomicType (ttypeOf u.pkt.tt) && !u.skip)).length < 8))
  && ejectRoom s (if ttype = 0x03 || ttype = 0x32 then 65 else 1)

/-- The peer slot for a device, while OPENING, CONNECTED or CLOSING (R360). -/
def slotFor (s : State) (plane coord : Nat) : Option Nat :=
  (s.ctx.ctxs.find? (fun kv => kv.2.peer && kv.2.pPlane == plane && kv.2.pCoord == coord
    && (kv.2.st == .opening || kv.2.st == .connected || kv.2.st == .closing))).map (·.1)

/-! ### Work that is ready (R480, R481) -/

/-- An unresolved local fault holds `w` (R296). -/
def isStalled (s : State) (w : Stalled) : Bool := s.xlt.stalls.any (fun x => x.who == w)

/-- Operand fields of an entry. -/
def opnd (j : Job) (lo w : Nat) : Nat := field (j.entries.headD 0).toNat lo w

/-- The destination of a SEND (R380). -/
def sendDest (j : Job) : Nat × Nat := (opnd j 280 1, opnd j 256 24)

/-- An earlier SEND of the queue to the same device has yet to transmit its match packet (R382). -/
def sendBehind (x : Queue) (j : Job) : Bool :=
  (x.jobs.takeWhile (fun k => k.idx != j.idx)).any (fun k =>
    k.opcode == 0x30 && !k.over && !(k.st == .armed) && !k.malformed && k.msn.isNone && sendDest k == sendDest j)

/-- The transport type of the next packet of a job (R346, R384). -/
def jobType (j : Job) : Nat :=
  match j.opcode with
  | 0x01 => 0x01 | 0x02 => 0x01 | 0x03 => 0x03 | 0x04 => 0x04 | 0x21 => 0x05 | 0x22 => 0x06
  | _ => 0x30

def deliveryOf (s : State) (id : Nat) : Option Delivery := s.cat.deliveries.find? (fun d => d.id == id)

/-- The slot of a message's sender is still the one it came by. -/
def slotLive (s : State) (m : Msg) : Bool :=
  let x := ctxOf s m.ctx
  x.peer && x.inc == m.inc && x.st == .connected

/-- A built packet is ready: nothing holds it (R481). -/
def itemReady (s : State) (q : Nat) : Item → Bool
  | .job idx =>
    match jobOf s q idx with
    | none => false
    | some j =>
      j.st == .running && !j.built && !isStalled s (.job q idx) &&
      (if j.opcode = 0x30 then
        match slotFor s (sendDest j).1 (sendDest j).2 with
        | some c => windowOpen s c 0x30 && !(j.msn.isNone && sendBehind (queueOf s q) j)
        | none => false
      else windowOpen s j.context (jobType j))
  | .again c psn =>
    let x := ctxOf s c
    (x.st == .connected || x.st == .closing) && !peerFenced s x && x.unans.any (fun u => u.psn == psn && u.queued)
  | .flush _ c => windowOpen s c 0x07
  | .rdvGet id =>
    match deliveryOf s id with
    | some d => slotLive s d.msg && windowOpen s d.msg.ctx 0x32 && decide (d.outstanding < 16) && !isStalled s (.copy id)
    | none => false
  | .fin id =>
    match deliveryOf s id with
    | some d => slotLive s d.msg && windowOpen s d.msg.ctx 0x33
    | none => false

def readyOf (s : State) (q : Nat) : List Item := fmGet s.sch.ready q []

/-- The device works for the function: it may access its memory, and the function is not fenced (R185, R546). -/
def serves (s : State) (fn : Nat) : Bool := canAccess s fn && !(fnOf s fn).fenced

/-- A queue has a ready packet, and its function is served (R481). -/
def queueReady (s : State) (q : Nat) : Bool :=
  serves s (queueOf s q).fn && (readyOf s q).any (itemReady s q)

def groupReady (s : State) (g : Nat) : Bool := (List.range 4).any (fun i => queueReady s (4 * g + i))

/-- Something is built for a queue: it joins the end of the queue's list (R481). -/
def pushItem (s : State) (q : Nat) (i : Item) : State :=
  { s with sch := { s.sch with ready := fmModify s.sch.ready q [] (· ++ [i]) } }

def setItems (s : State) (q : Nat) (l : List Item) : State :=
  { s with sch := { s.sch with ready := if l = [] then fmErase s.sch.ready q else fmSet s.sch.ready q l } }

def dropItem (s : State) (q : Nat) (i : Item) : State := setItems s q ((readyOf s q).filter (fun x => x != i))

/-! ### Groups and ports (R28, R214, R484) -/

/-- The owner of a group: a virtual function it is granted to, or the physical function (R214). -/
def groupOwner (s : State) (g : Nat) : Nat := match fmFind s.hif.grants g with | some (t, _) => t | none => 0

/-- The injection port of a group (R28). -/
def groupPort (s : State) (g : Nat) : Nat :=
  if s.hif.mode = 1 then 12 + halfOf s (groupOwner s g) else 12 + g % 2

/-- A group's scheduler entry; QUANTUM is 4 until it is set (R496). -/
def groupSched (s : State) (g : Nat) : GroupSched := fmGet s.sch.groups g {}

def setGroup (s : State) (g : Nat) (x : GroupSched) : State :=
  { s with sch := { s.sch with groups := fmSet s.sch.groups g x } }

/-- QUANTUM becomes DEFAULT_QUANTUM when a group is granted or reclaimed (R484, R494). -/
def defaultGroup (s : State) (g : Nat) : State :=
  setGroup s g { groupSched s g with quantum := max 1 s.sch.defaultQuantum }

/-! ### Shapers (R485, R486) -/

def fnSched (s : State) (fn : Nat) : FnSched := fmGet s.sch.fns fn {}

def setFnSched (s : State) (fn : Nat) (x : FnSched) : State :=
  { s with sch := { s.sch with fns := fmSet s.sch.fns fn x } }

/-- The shaper is enabled in this tick: a change takes effect at the tick's end (R488). -/
def shaperOn (x : Shaper) : Bool := x.oldEn.getD x.en

/-- Every enabled shaper of the function holds a whole packet (R485). -/
def shapersAdmit (s : State) (fn : Nat) : Bool :=
  let f := fnSched s fn
  (!shaperOn f.sh0 || decide (f.sh0.tokens ≥ 1000000000)) && (!shaperOn f.sh1 || decide (f.sh1.tokens ≥ 1000000000))

/-- One packet is taken from a shaper, if it is enabled (R485). -/
def takeToken (x : Shaper) : Shaper := if shaperOn x then { x with tokens := x.tokens - 1000000000 } else x

/-- A change of a shaper's settings: its bucket is reset in the next tick; a change of nothing is none (R488). -/
def changeShaper (x : Shaper) (en : Bool) (rate burst : Nat) (resetFull : Bool) : Shaper :=
  if x.en = en && x.rate = rate && x.burst = burst && x.resetFull = resetFull then x
  else { x with en := en, rate := rate, burst := burst, resetFull := resetFull, due := true, oldEn := some (shaperOn x) }

/-! ### Active lists (R482) -/

def activeList (s : State) (port : Nat) : List Nat := if port = 12 then s.sch.list12 else s.sch.list13

def setList (s : State) (port : Nat) (l : List Nat) : State :=
  { s with sch := if port = 12 then { s.sch with list12 := l } else { s.sch with list13 := l } }

/-- Groups of queues that hold built packets, in ascending order. -/
def builtGroups (s : State) : List Nat := (s.sch.ready.map (fun kv => kv.1 / 4)).eraseDups

/-- A group that has gained a ready packet, or whose shapers admit again, joins the tail of its port's list with a
deficit of 0 (R482, R488). -/
def relist (s : State) : State :=
  (builtGroups s).foldl (fun s g =>
    let p := groupPort s g
    let x := groupSched s g
    if (activeList s p).contains g || !groupReady s g then s
    else if x.blocked && !shapersAdmit s (groupOwner s g) then s
    else setList (setGroup s g { x with deficit := 0, blocked := false }) p (activeList s p ++ [g])) s

/-! ### Sending again (R298, R351, R358) -/

def modUnans (s : State) (c : Nat) (psn : Psn) (f : Unans → Unans) : State :=
  modCtx s c (fun x => { x with unans := x.unans.map (fun u => if u.psn == psn then f u else u) })

/-- The port by which a function's own requests and replies enter (R28). -/
def pushMaint (s : State) (port : Nat) (m : Maint) : State :=
  { s with sch := { s.sch with maint := fmModify s.sch.maint port [] (· ++ [m]) } }

/-- A sent packet waits to be sent again: a SKIP as maintenance, any other in its queue's list (R356, R479, R480). -/
def sendAgain (s : State) (c : Nat) (u : Unans) : State :=
  if u.queued then s
  else
    let s := modUnans s c u.psn (fun u => { u with queued := true, counts := true, timer := false, resendAt := none })
    if u.skip then pushMaint s (fnPort s (ctxOf s c).fn) (.skip c u.psn)
    else pushItem s (u.q) (.again c u.psn)

/-! ### Fenced peers (R358) -/

/-- The unanswered PEER_OPEN or PEER_CLOSE of a slot is sent again. -/
def resendSlot (s : State) (c : Nat) (x : Ctx) : State :=
  if x.opens = 0 || x.openResend.isSome then s
  else
    let m : Maint := if x.st == .opening then .open_ c else .close c
    if s.sch.maint.any (fun kv => kv.2.contains m) then s else pushMaint s (fnPort s 0) m

/-- Contexts whose peer is fenced note since when; one whose peer is no longer fenced, or that leads to another device now, sends
every unanswered packet again, as sends under R351 (R358). -/
def holdContexts (s : State) : State :=
  let step := fun (s : State) (kv : Nat × Ctx) =>
    let (c, x) := kv
    if x.st == .connected || x.st == .opening || x.st == .closing then
      if peerFenced s x then (if x.heldFrom.isSome then s else setCtx s c { x with heldFrom := some (now s) })
      else if x.heldFrom.isSome then
        let s := setCtx s c { x with heldFrom := none }
        x.unans.foldl (fun s u => sendAgain s c u) (if x.peer && x.st != .connected then resendSlot s c x else s)
      else s
    else s
  s.ctx.ctxs.foldl step s

end Sys2Proof.Machine
end

