-- ==== Sys2Proof/Machine/CarOps.lean ====
section
/-! DEFINITION. The Carillon's tables, and how other blocks lose its members (R431). What a loss or a fenced edge then does
to the operations in progress is the engine's work at the end of the step (Carillon.lean). -/

namespace Sys2Proof.Machine

def carGroup (s : State) (h : Nat) : CarGroup := fmGet s.car.groups h {}

def setCar (s : State) (h : Nat) (g : CarGroup) : State := { s with car := { s.car with groups := fmSet s.car.groups h g } }

def modCar (s : State) (h : Nat) (f : CarGroup → CarGroup) : State := setCar s h (f (carGroup s h))

/-- The member that this device has in a group is lost, for the life of the group (R431). -/
def loseMember (s : State) (h : Nat) : State :=
  let g := carGroup s h
  if !g.member || g.selfLost || g.st == .quarantine then s
  else
    let s := setCar s h { g with selfLost := true, lost := withMember g.lost g.rank }
    if s.car.lostNotify then fault s 88 g.id else s

/-- Every Carillon member of a function is lost (R431). -/
def carMembersLost (s : State) (fn : Nat) : State :=
  (s.car.groups.filter (fun kv => kv.2.tenant == fn)).foldl (fun s kv => loseMember s kv.1) s

/-- The members that are bound to a queue are lost: it is destroyed, reset, or stopped as strict (R431). -/
def carQueueLost (s : State) (q : Nat) : State :=
  (s.car.groups.filter (fun kv => kv.2.queue == q)).foldl (fun s kv => loseMember s kv.1) s

end Sys2Proof.Machine
end

