-- ==== Sys2Proof/Machine/Faults.lean ====
section
/-! DEFINITION. The Custodian: how the occurrences of one step are counted, logged and handled at their severities
(R543 to R552), the unit fences (R546), the safe state (R551), and the wrapper every meaning runs in. -/

namespace Sys2Proof.Machine

/-- The record that slot `slot` of the fault log holds (R549). -/
def logSlot (s : State) (slot : Nat) : LogRec := fmGet s.cus.log slot { seq := (2 ^ 32 + slot - 1024) % 2 ^ 32 }

/-- SEQ of the record into which an occurrence of a source merges: its source's latest, if it was written within the last 1,000 ticks and
is still in the log (R548). -/
def mergeInto (s : State) (src : Nat) : Option Nat :=
  match (fmGet s.cus.srcs src {}).lastRec with
  | some (seq, t) => if now s < t + 1000 && (logSlot s (seq % 1024)).seq = seq then some seq else none
  | none => none

/-- Record one occurrence in the fault log: merged into the source's record of the last 1,000 ticks, or a new
record (R548). The flag says whether a new record was written. -/
def logOcc (s : State) (o : Occ) : State × Bool :=
  let c := s.cus
  let e := fmGet c.srcs o.src {}
  match mergeInto s o.src with
  | some seq =>
    let r := logSlot s (seq % 1024)
    let r := { r with count := min (r.count + 1) 65535, detail := o.detail % 2 ^ 64 }
    ({ s with cus := { c with log := fmSet c.log (seq % 1024) r } }, false)
  | none =>
    let r : LogRec := {
      seq := c.nextSeq, source := o.src, sev := min (sevNow s o.src) 3, isLocal := localTime s,
      count := 1, time := stamp s, detail := o.detail % 2 ^ 64 }
    ({ s with cus := { c with
        nextSeq := (c.nextSeq + 1) % 2 ^ 32, log := fmSet c.log (c.nextSeq % 1024) r,
        srcs := fmSet c.srcs o.src { e with lastRec := some (c.nextSeq, now s) } } }, true)

/-- Count one occurrence in CUS_SRC and CUS_OCCURRENCES (R548, R556). -/
def countOcc (s : State) (o : Occ) : State :=
  let e := fmGet s.cus.srcs o.src {}
  let s := markSet (bump s 400) 0 o.src
  let e := { e with seen := true, count := (e.count + 1) % 2 ^ 32, lastDetail := o.detail % 2 ^ 64 }
  { s with cus := { s.cus with srcs := fmSet s.cus.srcs o.src e } }

/-- Fence a function: HIF_FN_STATE.FENCED is 1 and its Carillon members are lost (R546). -/
def fenceFn (s : State) (fn : Nat) : State :=
  carMembersLost (setFn s fn (fun f => { f with fenced := true })) fn

/-- Every fabric port is fenced as a link fault and retrained (R139, R546). -/
def fenceFabric (s : State) : State := (List.range 12).foldl linkFault s

/-- Make the unit fence that severity degrade asks of a source (R546). -/
def fenceUnit (s : State) (o : Occ) : State :=
  let unit := srcUnit o.src
  let n := if unit = 1 then field o.detail 0 4 else if unit = 2 then field o.detail 0 8
           else if unit = 4 then field o.detail 0 2 else 0
  let s := { s with cus := { s.cus with unitFences := withMember s.cus.unitFences (unit, n) } }
  if unit = 1 then linkFault s n
  else if unit = 2 then fenceFn s n
  else if unit = 3 then fenceFabric s
  else if unit = 4 then { s with cur := { s.cur with cores := s.cur.cores.set n false } }
  else s

/-- Handle one occurrence; `fatalTick` says that an occurrence of the same tick enters the safe state (R543, R545). -/
def handleOcc (fatalTick : Bool) (s : State) (o : Occ) : State :=
  if s.cus.safe then countOcc s o
  else
    let sev := sevNow s o.src
    let (s, fresh) := logOcc (countOcc s o) o
    if fatalTick then s
    else
      let s := if sev ≥ 1 && fresh then postEvent s 0 0 0x07 o.src o.detail else s
      if sev ≥ 2 then fenceUnit s o else s

/-- The Movement discards every packet that it holds (R31, R551). -/
def discardAll (s : State) : State :=
  let srcs := s.mvt.bufs.flatMap (fun kv => kv.2.map (fun h => h.pkt.rt.src)) ++ s.mvt.eject.map (fun p => p.rt.src)
  let s := { s with mvt := { s.mvt with bufs := [], claims := [], swallow := [], eject := [], heldFor := [] } }
  srcs.foldl (fun s src => countDiscard s .safeState src) s

/-- FATAL_COUNT: the sources other than `src` among the fatal occurrences of its tick, saturating (R555). There are 312 sources (R547). -/
def otherSources (src : Nat) (l : List Occ) : Nat :=
  min ((List.range 312).filter (fun n => n != src && l.any (fun o => o.src == n))).length 65535

/-- SAFE_STATE_ENTRY: the first fatal source is recorded; held packets are discarded; every fabric port and the
bridge sends FENCE; nothing else runs from then on (R551, R552). -/
def enterSafe (s : State) (fatal : List Occ) : State :=
  match fatal with
  | [] => s
  | o :: l =>
    let r : FatalRec := {
      source := o.src, isLocal := localTime s, others := otherSources o.src l, ts := stamp s,
      detail := o.detail % 2 ^ 64 }
    let ports := ((List.range 12) ++ [14]).foldl
      (fun m p => fmModify m p {} (fun (x : LanePort) => { x with tx := .safe, replay := [], sendq := [] })) s.lne.ports
    discardAll { loseWrites s (fun _ => true) with
      cus := { s.cus with safe := true, fatal := some r },
      lne := { s.lne with
        ports := ports,
        osOut := ((List.range 12) ++ [14]).foldl (fun m p => fmSet m p (.fence s.mvt.coord s.mvt.plane 0)) s.lne.osOut },
      rgl := { s.rgl with ppsUntil := 0 } }

/-- Occurrences in ascending source number, those of one source in the order raised (R545). -/
def insertOcc (o : Occ) : List Occ → List Occ
  | [] => [o]
  | x :: l => if o.src < x.src then o :: x :: l else x :: insertOcc o l

def sortOccs : List Occ → List Occ
  | [] => []
  | o :: l => insertOcc o (sortOccs l)

/-- Handle the occurrences of one tick (R545, R552). -/
def handleOccs (s : State) (os : List Occ) : State :=
  let os := sortOccs os
  let fatal := os.filter (fun o => actsFatal s o.src)
  let fatalTick := fatal != [] && !s.cus.safe
  let s' := os.foldl (handleOcc fatalTick) s
  if fatalTick then enterSafe s' fatal else s'

end Sys2Proof.Machine
end

