-- ==== Sys2Proof/Machine/Admin.lean ====
section
/-! DEFINITION. The Curator's command interface: the admin queue, the command slot, the checks of a command, its
completion and the status mailbox (R243 to R258, R277). -/

namespace Sys2Proof.Machine

/-! ### Status codes (R239) -/

abbrev stOk : Nat := 0x00
abbrev stPending : Nat := 0x01
abbrev stAborted : Nat := 0x10
abbrev stMalformed : Nat := 0x11
abbrev stProtection : Nat := 0x12
abbrev stTranslation : Nat := 0x13
abbrev stRemoteAccess : Nat := 0x14
abbrev stRevoked : Nat := 0x15
abbrev stDestFenced : Nat := 0x16
abbrev stRetryExceeded : Nat := 0x17
abbrev stTruncated : Nat := 0x18
abbrev stReservationLost : Nat := 0x19
abbrev stMemberLost : Nat := 0x1A
abbrev stChecksum : Nat := 0x1B
abbrev stBusError : Nat := 0x1C
abbrev stTimeout : Nat := 0x1D
abbrev stNoResource : Nat := 0x1E
abbrev stStrikeLate : Nat := 0x1F
abbrev stPagePending : Nat := 0x20
abbrev stLockAbandoned : Nat := 0x21

/-! ### The admin queue of a function -/

def admOf (s : State) (fn : Nat) : AdmQ := fmGet s.cur.adm fn {}

def setAdm (s : State) (fn : Nat) (a : AdmQ) : State :=
  { s with cur := { s.cur with adm := fmSet s.cur.adm fn a } }

/-- A block is in expert mode (R261, R276). -/
def isExpert (s : State) (code : Nat) : Bool := s.cur.expert.contains code

/-- The codes of R261. -/
def expertCodes : List Nat :=
  [0x02, 0x08, 0x0A, 0x0C, 0x0E, 0x10, 0x12, 0x14, 0x16, 0x18, 0x1A, 0x1C, 0x1E, 0x20, 0x24]

/-! ### Parameter and response lengths (R248) -/

/-- The defined PARAM_LEN of each opcode; where the opcode carries data, from the length that its parameters give.
None: the opcode is reserved (R251, R259). -/
def paramLen (op : Nat) (p : List Byte) : Option Nat :=
  match op with
  | 0x0100 => some 0 | 0x0101 => some 0 | 0x0102 => some 16 | 0x0103 => some 8 | 0x0104 => some 8
  | 0x0105 => some 0 | 0x0106 => some (16 + numAt p 4 2) | 0x0107 => some 8 | 0x0108 => some 0
  | 0x0180 => some 8 | 0x0181 => some 8 | 0x0182 => some 64 | 0x0183 => some 8 | 0x0184 => some 8
  | 0x0185 => some 8 | 0x0186 => some 32 | 0x0187 => some 8 | 0x0188 => some 8
  | 0x0200 => some 8 | 0x0201 => some 16 | 0x0202 => some 8 | 0x0203 => some 8 | 0x0204 => some 8
  | 0x0210 => some 8 | 0x0211 => some 8 | 0x0212 => some 8 | 0x0220 => some 8
  | 0x0300 => some (64 + 32 * (byteAt p 0 % 16)) | 0x0301 => some 8 | 0x0302 => some 8 | 0x0303 => some 8
  | 0x0304 => some 24 | 0x0305 => some 24 | 0x0306 => some 8 | 0x0307 => some 8 | 0x0308 => some 8
  | 0x0400 => some 40 | 0x0401 => some 8 | 0x0402 => some 8 | 0x0403 => some 8
  | 0x0500 => some 40 | 0x0501 => some 8 | 0x0502 => some 8 | 0x0503 => some 8 | 0x0504 => some 8
  | 0x0600 => some 0 | 0x0601 => some 8 | 0x0602 => some 8 | 0x0603 => some 8 | 0x0604 => some 8
  | 0x0700 => some 8 | 0x0701 => some (16 + numAt p 4 2) | 0x0702 => some 8 | 0x0703 => some 8
  | 0x0704 => some 8 | 0x0705 => some 8 | 0x0706 => some 8
  | 0x0800 => some 8 | 0x0801 => some 8 | 0x0802 => some 8 | 0x0803 => some 8 | 0x0804 => some 8
  | 0x0900 => some 8 | 0x0901 => some 8 | 0x0902 => some 8 | 0x0903 => some 8 | 0x0904 => some 16
  | 0x0905 => some 16 | 0x0906 => some 16
  | 0x0A00 => some 8 | 0x0A01 => some 16 | 0x0A02 => some 8 | 0x0A03 => some 8
  | 0x0B00 => some 8 | 0x0B01 => some 16 | 0x0B02 => some (8 + 2 * numAt p 2 2) | 0x0B03 => some 16
  | 0x0B04 => some 8 | 0x0B05 => some 8 | 0x0B06 => some 8 | 0x0B10 => some 8 | 0x0B11 => some 8
  | 0x0B12 => some 8
  | 0x0C00 => some 8 | 0x0C01 => some 8
  | 0x0D00 => some 16 | 0x0D01 => some 8 | 0x0D02 => some 8 | 0x0D03 => some 8 | 0x0D04 => some 8
  | 0x0E00 => some 8 | 0x0E01 => some 8 | 0x0E02 => some 16 | 0x0E03 => some 16 | 0x0E04 => some 8
  | 0x0E05 => some 8 | 0x0E06 => some 8
  | _ => none

/-- The full length of the response that the parameters ask for (R248). -/
def respLen (op : Nat) (p : List Byte) : Nat :=
  match op with
  | 0x0101 => 64 | 0x0102 => 8 | 0x0105 => 64
  | 0x0183 => 16 | 0x0184 => 16 | 0x0185 => 32 | 0x0188 => 8
  | 0x0200 => 8 | 0x0203 => 8 | 0x0204 => 32 | 0x0210 => 8 | 0x0212 => 8
  | 0x0300 => 8 | 0x0301 => 8 | 0x0303 => 320
  | 0x0401 => 16 | 0x0402 => 32
  | 0x0500 => 8 | 0x0502 => 64
  | 0x0600 => 64 | 0x0604 => 8
  | 0x0700 => 32
  | 0x0800 => 40 | 0x0803 => numAt p 2 2
  | 0x0900 => 8 | 0x0901 => 8 | 0x0902 => 8 | 0x0904 => 8 | 0x0905 => 8 | 0x0906 => 8
  | 0x0A00 => 40
  | 0x0B00 => 16 * numAt p 2 2 | 0x0B04 => 320 | 0x0B05 => 8 | 0x0B06 => 64 * numAt p 4 2
  | 0x0B10 => 8 | 0x0B11 => 16 | 0x0B12 => 32 * numAt p 4 2
  | 0x0C00 => 112 | 0x0C01 => 64 * numAt p 4 2
  | 0x0D00 => 8 | 0x0D02 => 24
  | 0x0E00 => 8 | 0x0E02 => 8 | 0x0E03 => 8 | 0x0E04 => 56 | 0x0E05 => 24
  | _ => 0

/-- The opcodes a virtual function may use (R91, R121, R180, R241, R265, R307, R373, R403, R444, R477, R498, R515,
R540, R579, R597). -/
def vfMay (op : Nat) : Bool :=
  op == 0x0100 || op == 0x0101 || (0x0182 ≤ op && op ≤ 0x0188)
  || (0x0200 ≤ op && op < 0x0300 && op != 0x0220)
  || (0x0300 ≤ op && op < 0x0400 && op != 0x0308)
  || (0x0400 ≤ op && op < 0x0500 && op != 0x0403)
  || (0x0500 ≤ op && op < 0x0600 && op != 0x0504)
  || op == 0x0600 || op == 0x0700 || op == 0x0800
  || op == 0x0900 || op == 0x0901 || op == 0x0902 || op == 0x0904
  || op == 0x0A00 || op == 0x0B00 || op == 0x0C00 || op == 0x0C01
  || (0x0D00 ≤ op && op < 0x0E00 && op != 0x0D04)
  || op == 0x0E00 || op == 0x0E04 || op == 0x0E05

/-! ### Completion (R252, R253, R256, R257) -/

/-- A status reply as 32 bytes (R256). -/
def replyBytes (r : Reply) : List Byte :=
  leBytes 32 (place [(0, r.tag), (16, r.status), (24, b2n r.isLocal), (32, r.opcode), (64, r.respBytes),
    (128, r.detail % 2 ^ 64), (192, r.time)])

/-- The idle value of the mailbox (R257). -/
def idleReply : Reply := {}

/-- Steps 1 to 3 of a completion: the response, the reply in the slot and the head-index word (R252). -/
def writeCompletion (s : State) (fn : Nat) (c : Cmd) (resp : List Byte) (r : Reply) : State :=
  let a := admOf s fn
  let s := if resp = [] then s else hostWrite s fn c.respAddr resp
  let s := hostWrite s fn (c.slotAddr + 32) (replyBytes r)
  hostWrite s fn a.head (leBytes 4 (c.index + 1).toNat)

/-- A command ends with a status: response, slot reply, head index, visibility, mailbox and event, in this order
(R252); a write or the read of step 4 that fails gives BUS_ERROR (R253). A queue whose ENABLE was cleared becomes
DISABLED (R245). -/
def finish (s : State) (fn : Nat) (c : Cmd) (status : Nat) (resp : List Byte) (detail : Nat) : State :=
  let a := admOf s fn
  let r : Reply := {
    tag := c.tag, status := if canAccess s fn then status else stBusError, isLocal := localTime s, opcode := c.opcode,
    respBytes := resp.length, detail := detail, time := stamp s }
  let s := writeCompletion s fn c resp r
  let (s, ok) := hostRead s fn a.head 4
  let bad := ok.isNone && canAccess s fn
  let r := if bad then { r with status := stBusError } else r
  let s := if bad then writeCompletion s fn c [] r else s
  let s := setAdm s fn { a with
    mailbox := r, cmd := none, st := if a.enable then .idle else .disabled }
  let s := sampleDials s 8 (fun arg => bitAt arg 8 || field arg 0 8 == fn) (now s - c.tDoorbell)
  if c.event then postEvent s fn 0 0x08 0 c.tag else s

/-- How a command's own work ends: with a status, a response and DETAIL; waiting on something; or not yet, because
commands taken earlier must end first (R255, R268). -/
inductive CmdOut where
  | done (status : Nat) (resp : List Byte) (detail : Nat)
  | wait (w : Wait)
  | again
  deriving DecidableEq, Repr

/-- A command that ends with a status alone. -/
def only (status : Nat) : CmdOut := .done status [] 0

/-- The queue group that a group field names: for a virtual function it is a page index (R241). -/
def groupField (s : State) (fn g : Nat) : Nat :=
  if fn = 0 then g else match s.hif.grants.find? (fun kv => kv.2 == (fn, g)) with
    | some kv => kv.1
    | none => 65536 + g

/-- What a command changes that a command of another admin queue may change as well, as kind and number: a queue group with its queues, a context,
the trigger counters, a region, an endpoint, a collective group by GROUP_ID or handle, a lock or a Mover channel; the numbers past the last stand for
the free ones (R255). All else belongs to one function, or only the physical function changes it. -/
def changes (s : State) (fn : Nat) (c : Cmd) : Option (Nat × Nat) :=
  let p := c.params
  match c.opcode with
  | 0x0180 | 0x0181 => some (1, numAt p 0 4)
  | 0x0182 | 0x0183 | 0x0184 => some (1, groupField s fn (numAt p 0 4))
  | 0x0200 => some (2, 65536)
  | 0x0201 | 0x0202 | 0x0203 => some (2, numAt p 0 2)
  | 0x0210 | 0x0211 => some (3, 0)
  | 0x0300 => some (4, 2 ^ 24)
  | 0x0301 | 0x0302 | 0x0304 => some (4, numAt p 0 4 / 256)
  | 0x0400 | 0x0401 => some (5, numAt p 0 2)
  | 0x0500 => some (6, numAt p 0 4)
  | 0x0501 | 0x0503 => some (7, numAt p 0 2)
  | 0x0900 | 0x0901 => some (8, numAt p 0 2)
  | 0x0D00 => some (9, 32)
  | 0x0D01 | 0x0D03 => some (9, byteAt p 0)
  | _ => none

/-- No command of another queue that was taken earlier and has yet to do its work changes what this one changes (R255). -/
def inTurn (s : State) (fn : Nat) (c : Cmd) : Bool :=
  match changes s fn c with
  | none => true
  | some x => !s.cur.adm.any (fun kv => kv.1 != fn && match kv.2.cmd with
      | some d => d.wait == .none && decide (d.order < c.order) && changes s kv.1 d == some x
      | none => false)

/-- Run the opcode's own checks and effect for the command that the function's queue has taken: nothing happens
unless a command of this opcode runs there, does not wait, and has its turn. -/
def runCmd (opcode : Nat) (body : Nat → Cmd → State → State × CmdOut) (fn : Nat) (s : State) : State :=
  match (admOf s fn).cmd with
  | none => s
  | some c =>
    if c.opcode = opcode && c.wait = .none && s.cur.ready && inTurn s fn c then
      match body fn c s with
      | (s, .done st resp d) => finish s fn c st resp d
      | (s, .wait w) => setAdm s fn { admOf s fn with cmd := some { c with wait := w } }
      | (s, .again) => s
    else s

/-- Every waiting command whose wait `p` accepts is ready to end. -/
def wakeCmds (s : State) (p : Nat → Wait → Bool) (status : Nat) (resp : List Byte) : State :=
  { s with cur := { s.cur with
      adm := s.cur.adm.map (fun kv =>
        match kv.2.cmd with
        | some c => if p kv.1 c.wait then (kv.1, { kv.2 with cmd := some { c with wait := .ready status resp 0 } }) else kv
        | none => kv) } }

/-! ### Taking a command (R250, R251, R254) -/

/-- Cores that run a command now: a waiting command occupies none (R254). -/
def busyCores (s : State) : Nat :=
  (s.cur.adm.filter (fun kv => match kv.2.cmd with | some c => c.wait == .none | none => false)).length

def runningCores (s : State) : Nat := (s.cur.cores.filter id).length

/-- The queue of `fn` holds a command that may be taken (R250, R277). -/
def takeable (s : State) (fn : Nat) : Bool :=
  let a := admOf s fn
  a.enable && a.st == .idle && a.last != a.cons && canAccess s fn

/-- The next tenant in round-robin order whose queue holds a command (R254). -/
def nextTenant (s : State) : Option Nat :=
  let order := (List.range 256).map (fun i => (s.cur.rr + 1 + i) % 256)
  order.find? (fun t => s.cur.adm.any (fun kv => kv.1 == t) && takeable s t)

/-- The first check of R251 that a slot fails, before the opcode's own checks. -/
def framingStatus (fn : Nat) (index : Idx) (h : List Byte) (params : List Byte) : Nat :=
  let op := numAt h 0 2
  match paramLen op params with
  | none => stMalformed
  | some n =>
    if fn != 0 && !vfMay op then stProtection
    else
      let plen := numAt h 4 2 % 2 ^ 13
      let need := respLen op params
      if plen != n || plen > 4096
         || numAt h 2 2 != index.toNat % 2 ^ 16
         || field (numAt h 4 4) 14 18 != 0
         || numAt h 20 4 != 0
         || (need > 0 && (numAt h 16 4 < need || numAt h 16 4 > 65536
                          || (numAt h 16 4 != 0 && numAt h 8 8 % 8 != 0)))
      then stMalformed
      else stOk

/-- An EXPERT_LEAVE takes its block out of expert mode from the moment it is taken (R264). -/
def leaveAtTaking (s : State) (c : Cmd) : State :=
  let code := byteAt c.params 0
  if c.opcode = 0x0104 && expertCodes.contains code && zeroAt c.params 1 7
  then { s with cur := { s.cur with expert := without s.cur.expert code } } else s

/-- The slot of an admin queue that its next command lies in (R246, R250). -/
def commandSlot (a : AdmQ) : Nat := a.base + 4160 * (a.cons.toNat % 2 ^ a.log2)

/-- How many parameter bytes a command's header asks for, at most a slot's (R248). -/
def paramBytes (h : List Byte) : Nat := min (numAt h 4 2 % 2 ^ 13) 4096

/-- The command in an admin queue's next slot, of this header and these parameters (R247). -/
def cmdIn (s : State) (a : AdmQ) (h params : List Byte) : Cmd :=
  { index := a.cons, opcode := numAt h 0 2, tag := numAt h 2 2, event := bitAt (numAt h 4 4) 13, params := params,
    respAddr := numAt h 8 8, respLen := numAt h 16 4, tDoorbell := a.tDb, tTaken := now s, order := s.cur.taken, slotAddr := commandSlot a }

/-- The command that stands for a slot that could not be read whole (R253). -/
def unreadCmd (s : State) (a : AdmQ) : Cmd :=
  { index := a.cons, opcode := 0xFFFF, tag := a.cons.toNat % 2 ^ 16, event := false, params := [], respAddr := 0, respLen := 0,
    tDoorbell := a.tDb, tTaken := now s, slotAddr := commandSlot a }

/-- A core begins the command: the index advances, the mailbox shows PENDING, the round robin goes on from here, and the command is
counted (R250). -/
def beginCmd (s : State) (fn : Nat) (a : AdmQ) (c : Cmd) : State :=
  let s := setAdm s fn { a with
    cons := a.cons + 1, st := .busy, cmd := some c,
    mailbox := { tag := c.tag, status := stPending, opcode := c.opcode } }
  let s := bump { s with cur := { s.cur with rr := fn, taken := s.cur.taken + 1 } } 398
  noteLevel s 399 (busyCores s)

/-- COMMAND_TAKEN: the Curator takes the next command of the function's queue (R250, R251, R253, R257). -/
def takeCommand (s : State) (fn : Nat) : State :=
  if !s.cur.ready || busyCores s ≥ runningCores s || nextTenant s != some fn then s
  else
    let a := admOf s fn
    match hostRead s fn (commandSlot a) 64 with
    | (s, none) => let c := unreadCmd s a; finish (beginCmd s fn a c) fn c stBusError [] 0
    | (s, some h) =>
      match (if paramBytes h = 0 then (s, some []) else hostRead s fn (commandSlot a + 64) (paramBytes h)) with
      | (s, none) => let c := unreadCmd s a; finish (beginCmd s fn a c) fn c stBusError [] 0
      | (s, some params) =>
        let c := cmdIn s a h params
        let s := beginCmd s fn a c
        let st := framingStatus fn a.cons h params
        if st = stOk then leaveAtTaking s c else finish s fn c st [] 0

/-- COMMAND_COMPLETE: a command whose wait is over ends (R252, R254). `status` and `word` are the peer's answer to
a LOCK_PEER (R509). -/
def completeCommand (s : State) (fn status word : Nat) : State :=
  match (admOf s fn).cmd with
  | none => s
  | some c =>
    match c.wait with
    | .ready st resp d => finish s fn c st resp d
    | .lockPeer =>
      if [stOk, stLockAbandoned, stTimeout, stNoResource, stProtection, stDestFenced].contains status then
        finish s fn c status (if status = stOk || status = stLockAbandoned || status = stTimeout then leBytes 8 (word % 2 ^ 17) else []) 0
      else s
    | .routeEpoch => if now s ≥ c.tTaken + 5000000 then finish s fn c stTimeout [] 0 else s
    | .strikeSwitch => s
    | .laneTrain _ => s
    | .groupEpoch _ => if c.opcode = 0x0503 && now s ≥ c.tTaken + 5000000 then finish s fn c stTimeout [] 0 else s
    | .lockWait _ _ _ => s
    | .drain => s
    | .trainBridge => s
    | .adopt => s
    | .accesses _ _ _ => s
    | .none => s

/-- What a waiting command has changed is undone: a STRIKE_ACTIVATE takes no part in the switch any more, and its bank stays staged (R116, R254).
The changes of other waiting commands end as their own rules say (R95, R229, R434, R506, R526). -/
def undoWait (s : State) (w : Wait) : State :=
  if w == .strikeSwitch then { s with stk := { s.stk with activating := false, dueT := none } } else s

/-- COMMAND_TIMEOUT: a command that has run for 250 ms ends with TIMEOUT and has made no change (R254). -/
def timeoutCommand (s : State) (fn : Nat) : State :=
  match (admOf s fn).cmd with
  | none => s
  | some c => if now s ≥ c.tTaken + 250000000 then finish (undoWait s c.wait) fn c stTimeout [] 0 else s

/-! ### The admin page (R243 to R245) -/

/-- ADMIN_QUEUE_ENABLE: a write of ENABLE = 1 to ADM_CFG (R244, R245). -/
def enableAdm (s : State) (fn v : Nat) : State :=
  let a := admOf s fn
  let log2 := field v 0 5
  if !bitAt v 8 || a.st != .disabled then s
  else if log2 < 6 || log2 > 16 then s
  else
    let s := setAdm s fn { a with
      log2 := log2, enable := true, st := .idle, cons := 0, last := 0, mailbox := idleReply }
    hostWrite s fn a.head (leBytes 4 0)

/-- ADMIN_QUEUE_DISABLE: a write of ENABLE = 0 stops the taking of commands; the queue is DISABLED once the running
command has ended (R245). LOG2_SIZE is written only while STATE is DISABLED (R244). -/
def disableAdm (s : State) (fn v : Nat) : State :=
  let a := admOf s fn
  let log2 := field v 0 5
  if bitAt v 8 then s
  else if a.st = .disabled then
    setAdm s fn { a with log2 := if 6 ≤ log2 && log2 ≤ 16 then log2 else a.log2 }
  else setAdm s fn { a with enable := false, st := if a.cmd.isSome then .busy else .disabled }

/-- ADM_DB: a write to the admin doorbell, by R194 with the admin ring's size and CONSUMER (R246). -/
def admDoorbell (s : State) (fn : Nat) (v : Idx) : State :=
  let a := admOf s fn
  if (v - a.cons).toNat > 2 ^ a.log2 then fault s 33 (fn + v.toNat * 2 ^ 32)
  else if (v - a.cons).toNat ≤ (a.last - a.cons).toNat then bump s (hifCounter s fn 1)
  else bump (setAdm s fn { a with last := v, tDb := now s }) (hifCounter s fn 0)

end Sys2Proof.Machine
end

