-- ==== Sys2Proof/Machine/Digests.lean ====
section
/-! DEFINITION. The digests and signatures that the spec names by their standards: SHA-384 and ECDSA over P-384 of a firmware image (R269, R270) and
AES-CMAC of a Registrar record (R591). The standards themselves are taken from general knowledge (PRESUMED, log entries 3 and 4). -/

namespace Sys2Proof.Machine

/-- The number that bytes spell with the most significant first. -/
def beNat (l : List Byte) : Nat := l.foldl (fun n b => n * 256 + b.toNat) 0

/-- The last `n` bytes of a number, the most significant first. -/
def beBytes (n v : Nat) : List Byte := (leBytes n v).reverse

/-- A list in pieces of `n`, with fuel. -/
def pieces {α : Type} (n : Nat) : Nat → List α → List (List α)
  | 0, _ => []
  | fuel + 1, l => if l.isEmpty then [] else l.take n :: pieces n fuel (l.drop n)

/-! ### SHA-384 (R269) -/

/-- The primes below a bound. -/
def primesBelow (n : Nat) : List Nat :=
  (List.range n).filter (fun p => decide (2 ≤ p) && (List.range 21).all (fun d => d < 2 || d ≥ p || p % d != 0))

/-- The largest number of at most `bits` bits whose power `e` does not exceed `n`. -/
def rootFloor (e n : Nat) : Nat → Nat → Nat
  | 0, r => r
  | k + 1, r => rootFloor e n k (if (r + 2 ^ k) ^ e ≤ n then r + 2 ^ k else r)

/-- The first 64 bits of the fractional part of a root of a number. -/
def rootFraction (e p : Nat) : Nat := rootFloor e (p * 2 ^ (64 * e)) 70 0 % 2 ^ 64

/-- The eighty words of the rounds, and the eight words that SHA-384 starts from. -/
def shaRounds : List Nat := (primesBelow 410).map (rootFraction 3)
def shaStart : List Nat := (((primesBelow 54).drop 8).take 8).map (rootFraction 2)

def rotr (x n : Nat) : Nat := x / 2 ^ n + x % 2 ^ n * 2 ^ (64 - n)
def xor3 (a b c : Nat) : Nat := Nat.xor (Nat.xor a b) c

/-- The message words of a block, the latest first, extended by `n` more. -/
def shaWords : Nat → List Nat → List Nat
  | 0, w => w
  | n + 1, w =>
    let at_ := fun i => w.getD i 0
    let lo := xor3 (rotr (at_ 14) 1) (rotr (at_ 14) 8) (at_ 14 / 2 ^ 7)
    let hi := xor3 (rotr (at_ 1) 19) (rotr (at_ 1) 61) (at_ 1 / 2 ^ 6)
    shaWords n ((hi + at_ 6 + lo + at_ 15) % 2 ^ 64 :: w)

/-- One round with its word of the message and of the rounds. -/
def shaRound (h : List Nat) (kw : Nat × Nat) : List Nat :=
  match h with
  | [a, b, c, d, e, f, g, i] =>
    let choice := Nat.xor (Nat.land e f) (Nat.land (2 ^ 64 - 1 - e) g)
    let most := xor3 (Nat.land a b) (Nat.land a c) (Nat.land b c)
    let t := i + xor3 (rotr e 14) (rotr e 18) (rotr e 41) + choice + kw.1 + kw.2
    [(t + xor3 (rotr a 28) (rotr a 34) (rotr a 39) + most) % 2 ^ 64, a, b, c, (d + t) % 2 ^ 64, e, f, g]
  | _ => h

/-- The state after one block of 128 bytes. -/
def shaBlock (h : List Nat) (block : List Byte) : List Nat :=
  let w := (shaWords 64 ((pieces 8 16 block).map beNat).reverse).reverse
  (h.zip ((shaRounds.zip w).foldl shaRound h)).map (fun x => (x.1 + x.2) % 2 ^ 64)

/-- The SHA-384 digest of a message, as 48 bytes. -/
def sha384 (m : List Byte) : List Byte :=
  let zeros := (128 - (m.length + 17) % 128) % 128
  let padded := m ++ 0x80#8 :: List.replicate zeros 0#8 ++ beBytes 16 (8 * m.length)
  (((pieces 128 (padded.length / 128) padded).foldl shaBlock shaStart).flatMap (beBytes 8)).take 48

/-! ### ECDSA over P-384 (R269, R270) -/

def p384 : Nat := 2 ^ 384 - 2 ^ 128 - 2 ^ 96 + 2 ^ 32 - 1
def p384Order : Nat := 0xffffffffffffffffffffffffffffffffffffffffffffffffc7634d81f4372ddf581a0db248b0a77aecec196accc52973
def p384B : Nat := 0xb3312fa7e23ee7e4988e056be3f82d19181d9c6efe8141120314088f5013875ac656398d8a2ed19d2a85c8edd3ec2aef
def p384Base : Nat × Nat :=
  (0xaa87ca22be8b05378eb1c71ef320ad746e1d3b628ba79b9859f741e082542a385502f25dbf55296c3a545e3872760ab7,
   0x3617de4a96262c6f5d9e98bf9292dc29f8f41dbd289a147ce9da3113b5f0b8c00a60b1ce1d7e819d7a431d7c90ea0e5f)

/-- A power modulo `m`, over `n` bits of the exponent from the highest on. -/
def powMod (m x e : Nat) : Nat → Nat → Nat
  | 0, r => r
  | n + 1, r => powMod m x e n (if bitAt e n then r * r % m * x % m else r * r % m)

/-- The inverse modulo a prime of at most 384 bits. -/
def inverse (m x : Nat) : Nat := powMod m (x % m) (m - 2) 384 1

def subMod (m a b : Nat) : Nat := (a + m - b % m) % m

/-- The sum of two points of the curve; none is the point at infinity. -/
def addPoints (p q : Option (Nat × Nat)) : Option (Nat × Nat) :=
  match p, q with
  | none, _ => q
  | _, none => p
  | some (x, y), some (u, v) =>
    if x = u && (y + v) % p384 = 0 then none
    else
      let slope := if x = u then subMod p384 (3 * x * x) 3 * inverse p384 (2 * y) % p384
        else subMod p384 v y * inverse p384 (subMod p384 u x) % p384
      let z := subMod p384 (slope * slope) (x + u)
      some (z, subMod p384 (slope * subMod p384 x z) y)

/-- A multiple of a point, over `n` bits of the factor from the highest on. -/
def timesPoint (k : Nat) (p : Option (Nat × Nat)) : Nat → Option (Nat × Nat) → Option (Nat × Nat)
  | 0, r => r
  | n + 1, r => timesPoint k p n (if bitAt k n then addPoints (addPoints r r) p else addPoints r r)

/-- A public key of 97 bytes: an uncompressed point of the curve. -/
def publicPoint (key : List Byte) : Option (Nat × Nat) :=
  let x := beNat ((key.drop 1).take 48)
  let y := beNat (key.drop 49)
  if byteAt key 0 = 4 && x < p384 && y < p384 && y * y % p384 = subMod p384 (x * x * x + p384B) (3 * x) then some (x, y) else none

/-- A signature, r then s, of a digest under a public key verifies. -/
def verifies (key digest sig : List Byte) : Bool :=
  let r := beNat (sig.take 48)
  let s := beNat (sig.drop 48)
  match publicPoint key with
  | none => false
  | some q =>
    let w := inverse p384Order s
    let u := timesPoint (beNat digest * w % p384Order) (some p384Base) 384 none
    let v := timesPoint (r * w % p384Order) (some q) 384 none
    decide (1 ≤ r) && decide (r < p384Order) && decide (1 ≤ s) && decide (s < p384Order)
    && (match addPoints u v with
      | some (x, _) => x % p384Order == r
      | none => false)

/-! ### AES-CMAC (R591) -/

/-- The product of two bytes in AES's field, over `n` bits of the second. -/
def byteTimes (a b : Nat) : Nat → Nat
  | 0 => 0
  | n + 1 =>
    let d := 2 * byteTimes a (b / 2) n
    let d := if d ≥ 256 then Nat.xor d 0x11B else d
    if b % 2 = 1 then Nat.xor d a else d

/-- The byte's power 254 in that field, which is its inverse. -/
def byteInverse (x : Nat) : Nat :=
  ((List.range 7).foldl (fun (y : Nat × Nat) _ => let q := byteTimes y.1 y.1 8; (q, byteTimes y.2 q 8)) (x, 1)).2

/-- AES's substitution of a byte. -/
def substitute (x : Nat) : Nat :=
  let i := byteInverse x
  let turn := fun k => i * 2 ^ k % 256 + i * 2 ^ k / 256
  Nat.xor (xor3 (xor3 i (turn 1) (turn 2)) (turn 3) (turn 4)) 0x63

def xorLists (a b : List Nat) : List Nat := List.zipWith Nat.xor a b

/-- The keys of the ten rounds that follow the first. -/
def roundKeys : Nat → Nat → List Nat → List (List Nat)
  | 0, _, _ => []
  | n + 1, rcon, k =>
    let t := xorLists ((k.drop 13 ++ (k.drop 12).take 1).map substitute) [rcon, 0, 0, 0]
    let a := xorLists (k.take 4) t
    let b := xorLists ((k.drop 4).take 4) a
    let c := xorLists ((k.drop 8).take 4) b
    let next := a ++ b ++ c ++ xorLists (k.drop 12) c
    next :: roundKeys n (byteTimes rcon 2 8) next

/-- The bytes of a block substituted and with row `r` turned by `r` columns. -/
def subShift (b : List Nat) : List Nat := (List.range 16).map (fun i => substitute (b.getD ((i + 4 * (i % 4)) % 16) 0))

/-- The columns of a block mixed. -/
def mixColumns (b : List Nat) : List Nat :=
  (List.range 16).map (fun i =>
    let at_ := fun r => b.getD (i / 4 * 4 + (i + r) % 4) 0
    Nat.xor (xor3 (byteTimes (at_ 0) 2 8) (byteTimes (at_ 1) 3 8) (at_ 2)) (at_ 3))

/-- AES-128 of one block. -/
def aes (key block : List Nat) : List Nat :=
  let ks := roundKeys 10 1 key
  let b := (ks.take 9).foldl (fun b k => xorLists (mixColumns (subShift b)) k) (xorLists block key)
  xorLists (subShift b) (ks.getLastD [])

/-- AES-CMAC of a message of whole blocks. -/
def cmac (key : List Nat) (blocks : List (List Nat)) : List Nat :=
  let z := aes key (List.replicate 16 0)
  let n := z.foldl (fun n b => n * 256 + b) 0
  let twice := if n ≥ 2 ^ 127 then Nat.xor (2 * n % 2 ^ 128) 0x87 else 2 * n
  let last := (beBytes 16 twice).map (·.toNat)
  let x := blocks.dropLast.foldl (fun x b => aes key (xorLists x b)) (List.replicate 16 0)
  aes key (xorLists (xorLists x (blocks.getLastD [])) last)

/-- The tag of a record's 48 bytes under K_REG, whose first byte lies in bits 7 to 0, as a number with the tag's first byte lowest (R591). -/
def recordTag (key : Nat) (head : List Byte) : Nat :=
  leNat ((cmac ((leBytes 16 key).map (·.toNat)) (pieces 16 3 (head.map (·.toNat)))).map (BitVec.ofNat 8))

end Sys2Proof.Machine
end

