-- ==== Sys2Proof/Machine/DeviceCmds.lean ====
section
/-! DEFINITION. Device commands, group 0x01xx: identity, configuration, expert mode and firmware (R261 to R276). -/

namespace Sys2Proof.Machine

/-! ### Register words (R144, R209, R275, R276, R44) -/

def hifFnCfg (s : State) : Nat := place [(0, s.hif.vfVectors), (4, b2n s.hif.wcEn)]
def rglCfg (s : State) : Nat := place [(0, s.rgl.cfgRole), (2, b2n s.rgl.toutEn), (8, s.rgl.skewLimit)]
def mvtPaceLimit (s : State) : Nat := place [(0, s.mvt.limit), (16, b2n s.mvt.limitEn)]
def glbId (_ : State) : Nat := place [(0, 0x1200), (16, 4), (20, 1), (24, 1), (28, b2n Config.gradeX)]
def glbSerial (_ : State) : Nat := Config.serial % 2 ^ 64
def glbStraps (s : State) : Nat :=
  place [(0, s.brd.straps.pcieMode), (1, s.brd.straps.timeRole), (3, s.brd.straps.plane), (4, s.brd.straps.board)]
def glbFw (s : State) : Nat :=
  place [(0, s.brd.fwVersion % 2 ^ 24), (24, b2n s.brd.runB), (25, b2n s.brd.fallback), (32, s.brd.fwSvn), (48, s.brd.svnFused)]
def glbDigest0 (s : State) : Nat := s.brd.fwDigest % 2 ^ 64
def glbDigest1 (s : State) : Nat := s.brd.fwDigest / 2 ^ 64 % 2 ^ 64
def curStatus (s : State) : Nat :=
  place [(0, b2n s.cur.ready), (1, (List.range 4).foldl (fun n i => n + b2n (s.cur.cores.getD i false) * 2 ^ i) 0),
    (5, b2n s.cur.staged), (6, b2n s.cur.committed)]
def curExpert (s : State) : Nat := s.cur.expert.foldl (fun n c => n + 2 ^ c) 0

/-! ### Fields of the three registers that DEVICE_CONFIG sets (R267) -/

/-- A VF Enable bit of either SR-IOV capability is set (R209). -/
def vfEnabled (s : State) : Bool := (fnOf s 0).vfEnable || (s.hif.mode = 1 && (fnOf s 256).vfEnable)

/-- Write HIF_FN_CFG fields; a reserved VF_VECTORS, or one written while a VF Enable bit is set, stays (R19, R209). -/
def writeFnCfg (s : State) (v mask : Nat) : State :=
  let vv := field v 0 4
  let s := if field mask 0 4 = 15 && 1 ≤ vv && vv ≤ 8 && !vfEnabled s
    then { s with hif := { s.hif with vfVectors := vv } } else s
  if bitAt mask 4 then { s with hif := { s.hif with wcEn := bitAt v 4 } } else s

/-- Write RGL_CFG fields; ROLE 3 is reserved and stays (R19, R144). -/
def writeRglCfg (s : State) (v mask : Nat) : State :=
  let s := if field mask 0 2 = 3 && field v 0 2 != 3
    then { s with rgl := { s.rgl with cfgRole := field v 0 2 } } else s
  let s := if bitAt mask 2 then { s with rgl := { s.rgl with toutEn := bitAt v 2 } } else s
  if field mask 8 8 = 255 then { s with rgl := { s.rgl with skewLimit := field v 8 8 } } else s

/-- Write MVT_PACE_LIMIT fields; a window that ends in this tick is checked against the old value (R44, R45). -/
def writePaceLimit (s : State) (v mask : Nat) : State :=
  let m := s.mvt
  let m := { m with limitOld := some (m.limitOld.getD (m.limit, m.limitEn)) }
  let m := if field mask 0 16 = 65535 then { m with limit := field v 0 16 } else m
  let m := if bitAt mask 16 then { m with limitEn := bitAt v 16 } else m
  { s with mvt := m }

/-- A mask selects whole fields of a register only; `fields` are (low bit, width) (R267). -/
def wholeFields (mask : Nat) (fields : List (Nat × Nat)) : Bool :=
  fields.all (fun f => field mask f.1 f.2 == 0 || field mask f.1 f.2 == 2 ^ f.2 - 1)
  && mask == place (fields.map (fun f => (f.1, field mask f.1 f.2)))

/-- DEVICE_CONFIG (R267). -/
def deviceConfig (_ : Nat) (c : Cmd) (s : State) : State × CmdOut :=
  let p := c.params
  let target := byteAt p 0
  let v := numAt p 4 4
  let mask := numAt p 8 4
  let fields := if target = 0 then [(0, 4), (4, 1)] else if target = 1 then [(0, 2), (2, 1), (8, 8)] else [(0, 16), (16, 1)]
  let reserved := (target = 0 && field mask 0 4 != 0 && (field v 0 4 = 0 || field v 0 4 > 8))
    || (target = 1 && field mask 0 2 != 0 && field v 0 2 = 3)
  let word := fun (s : State) => leBytes 8 (if target = 0 then hifFnCfg s else if target = 1 then rglCfg s else mvtPaceLimit s)
  if target > 2 || !zeroAt p 1 3 || !zeroAt p 12 4 || !wholeFields mask fields || reserved then (s, only stMalformed)
  else if mask = 0 then (s, .done stOk (word s) 0)
  else if isExpert s (if target = 0 then 0x02 else if target = 1 then 0x16 else 0x12) then (s, only stProtection)
  else if target = 0 && field mask 0 4 != 0 && field v 0 4 != s.hif.vfVectors && vfEnabled s then (s, only stNoResource)
  else
    let s := if target = 0 then writeFnCfg s v mask else if target = 1 then writeRglCfg s v mask else writePaceLimit s v mask
    (s, .done stOk (word s) 0)

/-- DEVICE_IDENTIFY (R266). -/
def deviceIdentify (fn : Nat) (_ : Cmd) (s : State) : State × CmdOut :=
  (s, .done stOk (leBytes 8 (glbId s) ++ leBytes 8 (glbSerial s) ++ leBytes 4 (glbStraps s) ++ leBytes 4 0
    ++ leBytes 8 (glbFw s) ++ leBytes 8 (glbDigest0 s) ++ leBytes 8 (glbDigest1 s) ++ leBytes 1 fn ++ leBytes 7 0
    ++ leBytes 8 (stamp s)) 0)

/-! ### Expert mode (R261, R264, R268) -/

/-- The block whose RW fields a command writes (R263, R268). -/
def writesBlock (c : Cmd) : Option Nat :=
  match c.opcode with
  | 0x0102 => some (match byteAt c.params 0 with | 0 => 0x02 | 1 => 0x16 | _ => 0x12)
  | 0x0601 => some 0x12 | 0x0602 => some 0x12 | 0x0706 => some 0x14
  | 0x0801 => some 0x18 | 0x0802 => some 0x18 | 0x0804 => some 0x18
  | 0x0308 => some 0x0A | 0x0220 => some 0x0C | 0x0403 => some 0x0E | 0x0504 => some 0x10
  | 0x0903 => some 0x1A | 0x0A01 => some 0x1C | 0x0B10 => some 0x1E
  | 0x0B01 => some 0x20 | 0x0B02 => some 0x20 | 0x0B03 => some 0x20 | 0x0B05 => some 0x20
  | 0x0D04 => some 0x08 | 0x0E01 => some 0x24 | 0x0E02 => some 0x24 | 0x0E03 => some 0x24 | 0x0E06 => some 0x24
  | _ => none

/-- A command of another queue, taken earlier, writes the block and has not completed (R268). -/
def writerBefore (s : State) (fn : Nat) (c : Cmd) (code : Nat) : Bool :=
  s.cur.adm.any (fun kv => kv.1 != fn && match kv.2.cmd with
    | some d => decide (d.order < c.order) && writesBlock d == some code
    | none => false)

/-- EXPERT_ENTER (R268). -/
def expertEnter (fn : Nat) (c : Cmd) (s : State) : State × CmdOut :=
  let code := byteAt c.params 0
  if !expertCodes.contains code || !zeroAt c.params 1 7 then (s, only stMalformed)
  else if isExpert s code then (s, only stOk)
  else if writerBefore s fn c code then (s, .again)
  else ({ s with cur := { s.cur with expert := s.cur.expert ++ [code] } }, only stOk)

/-- EXPERT_LEAVE: the register values stay (R264, R268). -/
def expertLeave (_ : Nat) (c : Cmd) (s : State) : State × CmdOut :=
  let code := byteAt c.params 0
  if !expertCodes.contains code || !zeroAt c.params 1 7 then (s, only stMalformed)
  else ({ s with cur := { s.cur with expert := without s.cur.expert code } }, only stOk)

/-! ### Firmware (R269 to R274) -/

/-- The slot that does not run: false A, true B. -/
def otherSlot (s : State) : FwSlot := if s.brd.runB then s.brd.slotA else s.brd.slotB

def setOtherSlot (s : State) (x : FwSlot) : State :=
  { s with brd := if s.brd.runB then { s.brd with slotA := x } else { s.brd with slotB := x } }

/-- The header meets R269. -/
def imageFormat (h : List Byte) : Bool :=
  numAt h 0 4 == 0x4D495543 && byteAt h 7 == 0 && numAt h 10 2 == 0
  && decide (1 ≤ numAt h 12 4) && decide (numAt h 12 4 ≤ 4193792)
  && zeroAt h 16 48 && zeroAt h 257 255

/-- The whole image that a slot holds (R269). -/
def imageBytes (x : FwSlot) : List Byte := memRead x.data 0 (512 + numAt (memRead x.data 12 4) 0 4)

/-- The image digest, as 48 bytes (R269). -/
def imageDigest (x : FwSlot) : List Byte := sha384 (memRead x.data 0 64 ++ (imageBytes x).drop 512)

/-- The image's key is the accepted one, and its signature verifies (R269, R270). -/
def imageSigned (x : FwSlot) : Bool :=
  let key := memRead x.data 160 97
  sha384 key == Config.keyDigest && verifies key (imageDigest x) (memRead x.data 64 96)

/-- Why the image of a slot is not valid, if it is not (R270, R271). -/
def imageStatus (s : State) (x : FwSlot) : Nat :=
  let h := memRead x.data 0 512
  if !imageFormat h then stMalformed
  else if !imageSigned x || numAt h 8 2 < s.brd.svnFused then stProtection
  else stOk

/-- The slot marked with the identity of its image. -/
def identified (x : FwSlot) (st : SlotSt) : FwSlot :=
  { x with
    st := st, version := numAt (memRead x.data 4 4) 0 4, svn := numAt (memRead x.data 8 2) 0 2,
    digest := leNat (imageDigest x) }

/-- The slot with image data written into it; the first FW_STAGE since a discard or reset erases it before (R271). -/
def stagedSlot (s : State) (off : Nat) (data : List Byte) : FwSlot :=
  let x := if s.cur.fwErased then otherSlot s else {}
  { x with st := if s.cur.fwErased then .invalid else .erased, data := memWrite x.data off data }

/-- The state in which the other slot holds `x` and STAGED is as said (R271). -/
def withStaged (s : State) (x : FwSlot) (staged : Bool) : State :=
  setOtherSlot { s with cur := { s.cur with fwErased := true, staged := staged } } x

/-- FW_STAGE (R271). -/
def fwStage (_ : Nat) (c : Cmd) (s : State) : State × CmdOut :=
  let p := c.params
  let off := numAt p 0 4
  let len := numAt p 4 2
  if off % 16 != 0 || len % 16 != 0 || len < 16 || len > 4080 || byteAt p 6 > 1 || !zeroAt p 7 9 then (s, only stMalformed)
  else if s.cur.committed || off + len > 4194304 then (s, only stNoResource)
  else
    let x := stagedSlot s off (p.drop 16)
    if byteAt p 6 = 0 then (withStaged s x false, only stOk)
    else
      let st := imageStatus s x
      if st = stOk then (withStaged s (identified x .valid) true, only stOk)
      else (withStaged s { x with st := .invalid } false, only st)

/-- FW_COMMIT (R272). -/
def fwCommit (_ : Nat) (c : Cmd) (s : State) : State × CmdOut :=
  if byteAt c.params 0 > 1 || !zeroAt c.params 1 7 then (s, only stMalformed)
  else if !s.cur.staged then (s, only stNoResource)
  else
    ({ s with
        cur := { s.cur with staged := false, committed := true, fwRaise := byteAt c.params 0 = 1 },
        brd := { s.brd with bootB := !s.brd.runB } }, only stOk)

/-- FW_DISCARD (R273). -/
def fwDiscard (_ : Nat) (_ : Cmd) (s : State) : State × CmdOut :=
  if !s.cur.staged && !s.cur.committed then (s, only stNoResource)
  else
    let s := setOtherSlot s { otherSlot s with st := .invalid }
    ({ s with
        cur := { s.cur with staged := false, committed := false, fwErased := false, fwRaise := false },
        brd := { s.brd with bootB := s.brd.runB } }, only stOk)

def slotStCode : SlotSt → Nat
  | .erased => 0
  | .invalid => 1
  | .valid => 2
  | .running => 3

/-- Sixteen bytes of FW_QUERY for one slot; an image whose SVN is below SVN_FUSED is invalid (R270, R272, R274). -/
def slotBytes (s : State) (x : FwSlot) : List Byte :=
  leBytes 4 x.version ++ leBytes 2 x.svn ++ leBytes 1 (if x.st = .valid && x.svn < s.brd.svnFused then 1 else slotStCode x.st) ++ leBytes 1 0 ++ leBytes 8 (x.digest % 2 ^ 64)

/-- FW_QUERY (R274). -/
def fwQuery (_ : Nat) (_ : Cmd) (s : State) : State × CmdOut :=
  (s, .done stOk (slotBytes s s.brd.slotA ++ slotBytes s s.brd.slotB ++ leBytes 1 (b2n s.brd.bootB)
    ++ leBytes 1 (b2n s.brd.fallback) ++ leBytes 2 s.brd.svnFused ++ leBytes 28 0) 0)

/-! ### The commands -/

/-- DEVICE_NOP (R265). -/
def deviceNop (_ : Nat) (_ : Cmd) (s : State) : State × CmdOut := (s, only stOk)

end Sys2Proof.Machine
end

