-- ==== Sys2Proof/Machine/QueueCmds.lean ====
section
/-! DEFINITION. Queue and event-ring commands 0x0180 to 0x0188 that end no work: grants, creation and queries
(R214, R226, R233, R234, R236, R240 to R242). -/

namespace Sys2Proof.Machine

/-! ### Groups -/

/-- The group that a command's group field names: its number for the physical function, a page index for a virtual
function; the error status otherwise (R241). -/
def groupOf (s : State) (fn g : Nat) : Nat ⊕ Nat :=
  if fn = 0 then
    if g > 65535 then .inr stMalformed
    else if (fmFind s.hif.grants g).isSome then .inr stProtection
    else .inl g
  else if g > 255 then .inr stMalformed
  else match s.hif.grants.find? (fun kv => kv.2 == (fn, g)) with
    | some (k, _) => .inl k
    | none => .inr stProtection

/-- Every queue of a group is DISABLED (R242). -/
def groupIdle (s : State) (g : Nat) : Bool :=
  (List.range 4).all (fun i => (queueOf s (4 * g + i)).st == .disabled)

/-- Numbers that are live on the partner count as in use here (R518). -/
def onPartner (s : State) : Bool := s.twn.state == .syncing || isPaired s

/-- A queue of the group is live on the partner. -/
def partnerGroup (s : State) (g : Nat) : Bool := s.twn.mirror.queues.any (fun kv => kv.1 / 4 == g)

/-! ### Register words -/

def qstateCode : QState → Nat
  | .disabled => 0
  | .active => 1
  | .blocked => 2
  | .stopped => 3
  | .draining => 4

/-- HIF_QUEUE_STATE (R240). -/
def queueState (s : State) (q : Nat) : Nat :=
  let x := queueOf s q
  if x.st = .disabled then 0
  else place [(0, qstateCode x.st), (3, b2n x.strict), (4, b2n x.supervisor), (5, x.log2), (10, min x.waiting.length 8),
    (16, x.fn), (24, x.evr), (32, x.head.toNat)]

/-! ### Commands -/

/-- QUEUE_GROUP_GRANT (R241, R242). It writes SCH_GROUP.QUANTUM, which it may not while SCH is in expert mode (R263, R484); NO_RESOURCE is found
before that PROTECTION, for which the spec gives no order (DESIGN CHOICE, log entry 85). -/
def groupGrant (_ : Nat) (c : Cmd) (s : State) : State × CmdOut :=
  let p := c.params
  let g := numAt p 0 4
  let t := byteAt p 4
  let i := byteAt p 5
  if g > 65535 || t = 0 || !zeroAt p 6 2 then (s, only stMalformed)
  else if (fmFind s.hif.grants g).isSome || s.hif.grants.any (fun kv => kv.2 == (t, i)) || !groupIdle s g
     || (onPartner s && (partnerGroup s g || s.twn.mirror.grants.any (fun kv => kv.1 == g || kv.2 == (t, i))))
  then (s, only stNoResource)
  else if isExpert s 0x24 then (s, only stProtection)
  else
    let s := defaultGroup { s with hif := { s.hif with grants := fmSet s.hif.grants g (t, i) } } g
    (mirror s (.grant g t i), only stOk)

/-- QUEUE_GROUP_RECLAIM (R241, R242), as for QUEUE_GROUP_GRANT. -/
def groupReclaim (_ : Nat) (c : Cmd) (s : State) : State × CmdOut :=
  let p := c.params
  let g := numAt p 0 4
  if g > 65535 || !zeroAt p 4 4 then (s, only stMalformed)
  else if (fmFind s.hif.grants g).isNone || !groupIdle s g then (s, only stNoResource)
  else if isExpert s 0x24 then (s, only stProtection)
  else
    let s := defaultGroup { s with hif := { s.hif with grants := fmErase s.hif.grants g } } g
    (mirror s (.grantGone g), only stOk)

/-- The field ranges, alignments and reserved bytes of QUEUE_CREATE (R241). -/
def queueCreateOk (p : List Byte) : Bool :=
  decide (byteAt p 4 ≤ 3) && decide (6 ≤ byteAt p 5) && decide (byteAt p 5 ≤ 16) && decide (byteAt p 6 ≤ 3)
  && decide (byteAt p 7 ≤ 63) && zeroAt p 12 4
  && numAt p 16 8 % 4096 == 0 && numAt p 24 8 % 4 == 0 && numAt p 32 8 % 4 == 0 && numAt p 40 8 % 4096 == 0
  && decide (6 ≤ byteAt p 48) && decide (byteAt p 48 ≤ 16) && zeroAt p 49 7 && numAt p 56 8 % 4 == 0

/-- The queue that QUEUE_CREATE makes (R214, R241). -/
def newQueue (fn : Nat) (p : List Byte) : Queue :=
  { st := .active, strict := bitAt (byteAt p 6) 0, supervisor := bitAt (byteAt p 6) 1, fn := fn, evr := byteAt p 7,
    base := numAt p 16 8, log2 := byteAt p 5, shadow := numAt p 24 8, headAddr := numAt p 32 8,
    errBase := numAt p 40 8, errLog2 := byteAt p 48, errCons := numAt p 56 8,
    last := BitVec.ofNat 32 (numAt p 8 4), cons := BitVec.ofNat 32 (numAt p 8 4), head := BitVec.ofNat 32 (numAt p 8 4) }

/-- A queue's attributes, as the mirror carries them (R522). -/
def cfgOf (x : Queue) : QueueCfg :=
  { fn := x.fn, strict := x.strict, supervisor := x.supervisor, evr := x.evr, base := x.base, log2 := x.log2,
    shadow := x.shadow, headAddr := x.headAddr, errBase := x.errBase, errLog2 := x.errLog2, errCons := x.errCons }

/-- The error ring is initialised and the head-index word holds START; the flag says that R201 declared the writes
visible (R226, R241, R242). -/
def initQueueMemory (s : State) (fn : Nat) (x : Queue) : State × Bool :=
  let s := hostWrite s fn x.errBase (freshRing x.errLog2 64 (2 ^ x.errLog2))
  let s := hostWrite s fn x.errCons (leBytes 4 0)
  let s := hostWrite s fn x.headAddr (leBytes 4 x.head.toNat)
  let (s, r) := hostRead s fn x.headAddr 4
  (s, r.isSome)

/-- QUEUE_CREATE (R241, R242). -/
def queueCreate (fn : Nat) (c : Cmd) (s : State) : State × CmdOut :=
  let p := c.params
  if !queueCreateOk p then (s, only stMalformed)
  else match groupOf s fn (numAt p 0 4) with
    | .inr st => (s, only st)
    | .inl g =>
      let q := 4 * g + byteAt p 4
      if (fmFind s.rings.rings (evKey fn (byteAt p 7))).isNone then (s, only stMalformed)
      else if (queueOf s q).st != .disabled || (onPartner s && partnerGroup s g) then (s, only stNoResource)
      else
        let x := newQueue fn p
        let (s, ok) := initQueueMemory s fn x
        if ok then (mirror (setQueue s q x) (.queue q (cfgOf x) x.cons), only stOk) else (s, only stBusError)

/-- The queue that a command names by group and slot, bytes 5 to 7 being 0 (R241). -/
def namedQueue (s : State) (fn : Nat) (p : List Byte) : Nat ⊕ Nat :=
  if byteAt p 4 > 3 || !zeroAt p 5 3 then .inr stMalformed
  else match groupOf s fn (numAt p 0 4) with
    | .inl g => .inl (4 * g + byteAt p 4)
    | .inr st => .inr st

/-- QUEUE_QUERY (R241). -/
def queueQuery (fn : Nat) (c : Cmd) (s : State) : State × CmdOut :=
  match namedQueue s fn c.params with
  | .inr st => (s, only st)
  | .inl q =>
    let x := queueOf s q
    if x.st = .disabled then (s, .done stOk (leBytes 32 0) 0)
    else (s, .done stOk (leBytes 8 (queueState s q) ++ leBytes 4 x.last.toNat ++ leBytes 4 x.cons.toNat
      ++ leBytes 4 x.errSeq.toNat ++ leBytes 4 x.errCached.toNat ++ leBytes 8 0) 0)

/-! ### Event rings -/

/-- MSI-X vectors of a function (R203, R211). -/
def vectorsOf (s : State) (fn : Nat) : Nat := if fn = 0 then 256 else if fn < 256 then s.hif.vfVectors else 0

/-- The ring that EVENT_RING_CREATE makes (R233, R241). -/
def newRing (p : List Byte) : EvRing :=
  { base := numAt p 8 8, log2 := byteAt p 1, vector := numAt p 2 2, modNs := numAt p 4 2,
    consAddr := numAt p 16 8, statusAddr := numAt p 24 8 }

/-- A ring's attributes, as the mirror carries them (R522). -/
def ringCfg (r : EvRing) : EvCfg :=
  { base := r.base, log2 := r.log2, vector := r.vector, modNs := r.modNs, consAddr := r.consAddr, statusAddr := r.statusAddr }

/-- The ring's records, its consumer word and its status word are initialised; the flag says that R201 declared the writes
visible (R234, R236, R242). -/
def initRingMemory (s : State) (fn : Nat) (r : EvRing) : State × Bool :=
  let s := hostWrite s fn r.base (freshRing r.log2 32 (2 ^ r.log2))
  let s := hostWrite s fn r.consAddr (leBytes 4 0)
  let s := hostWrite s fn r.statusAddr (leBytes 8 0)
  let (s, ok) := hostRead s fn r.statusAddr 8
  (s, ok.isSome)

/-- EVENT_RING_CREATE: marks kept for the ring are then written (R233, R234, R241, R242). -/
def eventRingCreate (fn : Nat) (c : Cmd) (s : State) : State × CmdOut :=
  let p := c.params
  let key := evKey fn (byteAt p 0)
  if byteAt p 0 > 63 || byteAt p 1 < 6 || byteAt p 1 > 16 || numAt p 2 2 ≥ vectorsOf s fn || !zeroAt p 6 2
     || numAt p 8 8 % 4096 != 0 || numAt p 16 8 % 4 != 0 || numAt p 24 8 % 8 != 0 then (s, only stMalformed)
  else if (fmFind s.rings.rings key).isSome || s.rings.rings.length ≥ 4096
     || (onPartner s && (fmFind s.twn.mirror.rings key).isSome) then (s, only stNoResource)
  else
    let r := newRing p
    let (s, ok) := initRingMemory s fn r
    if !ok then (s, only stBusError)
    else (flushMarks (mirror (setRing s key r) (.evRing fn (byteAt p 0) (ringCfg r))) key (fmGet s.rings.marks key []), only stOk)

/-- EVENT_RING_DESTROY (R241, R242). -/
def eventRingDestroy (fn : Nat) (c : Cmd) (s : State) : State × CmdOut :=
  let p := c.params
  let key := evKey fn (byteAt p 0)
  if byteAt p 0 > 63 || !zeroAt p 1 7 || (fmFind s.rings.rings key).isNone then (s, only stMalformed)
  else if s.rings.queues.any (fun kv => kv.2.st != .disabled && kv.2.fn == fn && kv.2.evr == byteAt p 0)
  then (s, only stNoResource)
  else (mirror { s with rings := { s.rings with rings := fmErase s.rings.rings key } } (.evRingGone fn (byteAt p 0)), only stOk)

/-- A ring after EVENT_RING_CLEAR: OVERFLOW stays while a mark is pending (R236, R241). -/
def clearedRing (s : State) (key : Nat) (r : EvRing) : EvRing :=
  { r with overflow := r.overflow && fmGet s.rings.marks key [] != [] }

/-- EVENT_RING_CLEAR: the response is the status word as it was (R241). -/
def eventRingClear (fn : Nat) (c : Cmd) (s : State) : State × CmdOut :=
  let p := c.params
  let key := evKey fn (byteAt p 0)
  if byteAt p 0 > 63 || !zeroAt p 1 7 then (s, only stMalformed)
  else match fmFind s.rings.rings key with
    | none => (s, only stMalformed)
    | some r =>
      let old := leBytes 8 (statusWord r)
      let r' := clearedRing s key r
      let s := hostWrite (setRing s key r') fn r.statusAddr (leBytes 8 (statusWord r'))
      (s, .done stOk old 0)

end Sys2Proof.Machine
end

