-- ==== Sys2Proof/Machine/Translation.lean ====
section
/-! DEFINITION. Keys, rights and checks of an access (R278 to R290), the page walk (R291 to R293), the translation caches
(R294), reads and writes through a translation, and page-fault rings (R296 to R300). -/

namespace Sys2Proof.Machine

/-! ### Regions -/

/-- The generation of a region index (R278). -/
def genOf (s : State) (i : Nat) : Nat := fmGet s.xlt.gens i 0

def keyOf (s : State) (i : Nat) : Nat := i * 256 + genOf s i

/-- The region's length: the largest OFFSET + LENGTH of its segments (R280). -/
def regionLen (r : Region) : Nat := r.segs.foldl (fun n g => max n (g.offset + g.length)) 0

/-! ### Addresses that are refused (R290) -/

/-- Base and size of every BAR of the device that is assigned; the companion function's BAR0 has 64 KiB (R183, R188). -/
def barRanges (s : State) : List (Nat × Nat) :=
  let size := fun n => if n = 0 then 2 ^ 26 else if n = 2 then 2 ^ 28 else if n = 4 then 2 ^ 27
    else if n = 10 then 2 ^ 16 else if n = 12 then 2 ^ 20 else 2 ^ 19
  s.hif.fns.flatMap (fun kv => kv.2.bars.map (fun b =>
    (b.2, if kv.1 = 256 && b.1 = 0 then 2 ^ 16 else if b.1 < 10 then size b.1 else size b.1 * (if kv.2.vfEnable then kv.2.numVfs else 0))))

def inBar (s : State) (a n : Nat) : Bool :=
  (barRanges s).any (fun b => decide (a < b.1 + b.2) && decide (b.1 < a + n))

/-- A table address lies in a DEVICE segment of a live region of the function (R290). -/
def inDevice (s : State) (fn a n : Nat) : Bool :=
  s.xlt.regions.any (fun kv => kv.2.fn == fn && kv.2.segs.any (fun g =>
    g.device && decide (a < g.base + g.length) && decide (g.base < a + n)))

/-! ### The page walk (R291, R292) -/

/-- How a page is reached: its bus address, size and W; refused; not present at a level; or a failed read. -/
inductive Walk where
  | page (log2 pa : Nat) (writable : Bool)
  | refused
  | absent (level : Nat)
  | busError
  deriving DecidableEq, Repr

/-- Walk from the table of `level` at `table`; `n` levels are left (R291 to R293). -/
def walkFrom (s : State) (fn va : Nat) (write : Bool) : Nat → Nat → State × Walk
  | 0, _ => (s, .refused)
  | n + 1, table =>
    let level := 4 - n
    let a := table + 8 * field va (12 + 9 * n) 9
    if inBar s a 8 || inDevice s fn a 8 then (s, .refused)
    else
      match hostRead (bump s 292) fn a 8 with
      | (s, none) => (s, .busError)
      | (s, some l) =>
        let e := leNat l
        let w := bitAt e 1
        if !bitAt e 0 || (write && !w) then (s, .absent level)
        else
          let leaf := n = 0 || ((level = 2 || level = 3) && bitAt e 7)
          let log2 := 12 + 9 * n
          if leaf then (s, .page log2 (field e log2 (52 - log2) * 2 ^ log2) w)
          else walkFrom s fn va write n (field e 12 40 * 4096)

/-- The page of a virtual address: a cached translation or a walk (R291, R294). While a cached translation stands, the
device may use it or walk anew: a free choice. Only present translations are cached (R292). -/
def walkPage (s : State) (fn index ptRoot va : Nat) (write : Bool) : State × Walk :=
  let gen := genOf s index
  let hit := s.xlt.cache.find? (fun e => e.region == index && e.gen == gen && e.va == va / 2 ^ e.log2 && (e.writable || !write))
  let walk := fun (s : State) =>
    let (n, s) := draw s
    match walkFrom (sampleDials (bump (bump s 290) 291) 6 (fun _ => true) n) fn va write 4 ptRoot with
    | (s, .page log2 pa w) =>
      let e : CacheEntry := { region := index, gen, log2, va := va / 2 ^ log2, pa, writable := w }
      let rest := s.xlt.cache.filter (fun x => !(x.region == index && x.gen == gen && x.log2 == log2 && x.va == e.va))
      ({ s with xlt := { s.xlt with cache := e :: rest } }, Walk.page log2 pa w)
    | r => r
  match hit with
  | none => walk s
  | some e =>
    let (n, s) := draw s
    if n % 2 = 0 then (bump s 289, .page e.log2 e.pa e.writable) else walk s

/-! ### The checks of an access (R288, R289) -/

/-- One contiguous run of bytes that an access reaches: bus address, or byte of the device-local area. -/
structure Piece where
  local_ : Bool := false
  addr : Nat
  len : Nat
  deriving DecidableEq, Repr

/-- An access to be checked: key, offset and length, rights asked for as read 1, write 2, execute 4. -/
structure Access where
  key : Nat
  off : Nat
  len : Nat
  need : Nat
  /-- Supervisor rights apply (R288). -/
  sup : Bool := false
  /-- The access is remote, at its target (R289). -/
  remote : Bool := false
  /-- A remote atomic, RESERVE_LOAD or COND_STORE, refused into DEVICE segments (R287). -/
  atomic : Bool := false
  /-- The queue's function, or the owner of the target context. -/
  fn : Nat
  deriving DecidableEq, Repr

/-- The outcome of the checks. `early` says that every touched segment allows early acknowledgement. -/
inductive Xlat where
  | ok (pieces : List Piece) (early : Bool)
  | fails (status : Nat)
  | absent (level va : Nat)
  deriving DecidableEq, Repr

/-- A segment grants the rights asked for (R287, R288, R530). -/
def segGrants (r : Region) (a : Access) (g : Segment) : Bool :=
  let have_ := field g.rights (if a.sup then 3 else 0) 3
  ([1, 2, 4].all (fun b => a.need / b % 2 = 0 || have_ / b % 2 = 1))
  && !(a.atomic && g.device) && !(r.adopted && g.type == 2)

/-- The part of segment `g` that the access touches, as region offset and length. -/
def overlap (a : Access) (g : Segment) : Option (Nat × Nat) :=
  let lo := max a.off g.offset
  let hi := min (a.off + a.len) (g.offset + g.length)
  if lo < hi then some (lo, hi - lo) else none

/-- No byte of the range lies in a hole or past the end (R280, R289 step 5). -/
def covered (r : Region) (a : Access) : Bool :=
  (r.segs.filterMap (overlap a)).foldl (fun n x => n + x.2) 0 == a.len

/-- What the checks have met so far: the pieces, then the worst of steps 7, 8 and 9. -/
structure Found where
  pieces : List Piece := []
  refused : Bool := false
  absent : Option (Nat × Nat) := none
  bus : Bool := false
  deriving DecidableEq, Repr

/-- Pages of an on-demand range (R285, R289 steps 7 to 9). -/
def walkRange (s : State) (fn index ptRoot : Nat) (write : Bool) : Nat → Nat → Nat → Found → State × Found
  | 0, _, _, f => (s, f)
  | fuel + 1, va, n, f =>
    if n = 0 then (s, f)
    else
      let (s, w) := walkPage s fn index ptRoot va write
      match w with
      | .page log2 pa _ =>
        let k := min n (2 ^ log2 - va % 2 ^ log2)
        let a := pa + va % 2 ^ log2
        let f := { f with pieces := f.pieces ++ [{ addr := a, len := k }], refused := f.refused || inBar s a k }
        walkRange s fn index ptRoot write fuel (va + k) (n - k) f
      | .refused =>
        let k := min n (4096 - va % 4096)
        walkRange s fn index ptRoot write fuel (va + k) (n - k) { f with refused := true }
      | .absent level =>
        let k := min n (4096 - va % 4096)
        walkRange s fn index ptRoot write fuel (va + k) (n - k) { f with absent := some (f.absent.getD (level, va)) }
      | .busError =>
        let k := min n (4096 - va % 4096)
        walkRange s fn index ptRoot write fuel (va + k) (n - k) { f with bus := true }

/-- Translate the part of each segment that the access touches (R285). -/
def segPieces (s : State) (index : Nat) (r : Region) (a : Access) : List Segment → Found → State × Found
  | [], f => (s, f)
  | g :: l, f =>
    match overlap a g with
    | none => segPieces s index r a l f
    | some (x, n) =>
      let b := g.base + (x - g.offset)
      if g.type = 1 then
        let (s, f) := walkRange s a.fn index r.ptRoot (a.need / 2 % 2 = 1) (n / 4096 + 2) b n f
        segPieces s index r a l f
      else
        let local_ := g.type == 2
        segPieces s index r a l
          { f with pieces := f.pieces ++ [{ local_, addr := b, len := n }], refused := f.refused || (!local_ && inBar s b n) }

/-- Steps 1 to 6 of R289: the status of the first that fails, 0 where none does. -/
def firstChecks (s : State) (a : Access) : Nat :=
  let i := a.key / 256
  let no := if a.remote then stRemoteAccess else stProtection
  if i = 0 || i ≥ 16384 then no
  else match fmFind s.xlt.regions i with
    | none => stRevoked
    | some r =>
      if a.key % 256 != genOf s i then stRevoked
      else if r.fn != a.fn then no
      else if a.remote && !r.remote then no
      else if !covered r a then no
      else if r.segs.any (fun g => (overlap a g).isSome && !segGrants r a g) then no
      else 0

/-- The checks of R289 in order, and the translation of R285. -/
def translate (s : State) (a : Access) : State × Xlat :=
  let st := firstChecks s a
  if st != 0 then (s, .fails st)
  else
    let i := a.key / 256
    match fmFind s.xlt.regions i with
    | none => (s, .fails stRevoked)
    | some r =>
      let (s, f) := segPieces s i r a r.segs {}
      if f.refused then (fault s 56 (a.fn + a.key * 2 ^ 32), .fails (if a.remote then stRemoteAccess else stProtection))
      else match f.absent with
        | some (level, va) => (s, .absent level va)
        | none =>
          if f.bus then (s, .fails stBusError)
          else (s, .ok f.pieces (r.segs.all (fun g => (overlap a g).isNone || (g.early && !g.device))))

/-! ### Reads and writes through a translation -/

/-- The byte of the device-local area at an offset: what has been written, or a free value (R286). -/
def localByte (s : State) (a : Nat) : Byte := fmGet s.xlt.local_ a (Config.deviceLocal a)

/-- Read the pieces; none where a host read fails (R202). -/
def readPieces (s : State) (fn : Nat) : List Piece → State × Option (List Byte)
  | [] => (s, some [])
  | p :: l =>
    let (s, x) := if p.local_ then (s, some ((List.range p.len).map (fun i => localByte s (p.addr + i))))
                  else if p.len = 0 then (s, some []) else hostRead s fn p.addr p.len
    match x with
    | none => (s, none)
    | some b =>
      match readPieces s fn l with
      | (s, none) => (s, none)
      | (s, some c) => (s, some (b ++ c))

/-- The granule of a bus address, or of a byte of the device-local area, whose granules lie above every bus address. -/
def granuleOf (p : Piece) : Nat := if p.local_ then 2 ^ 64 + p.addr else p.addr

/-- The reservations on granules that a piece touches are cleared (R330). -/
def clearTouched (s : State) (p : Piece) : State :=
  let g := granuleOf p
  { s with pal := { s.pal with rsvs := s.pal.rsvs.filter (fun r => decide (r.addr + 8 ≤ g) || decide (g + p.len ≤ r.addr)) } }

/-- Write into the device-local area. -/
def storeLocal (s : State) (p : Piece) (l : List Byte) : State :=
  clearTouched { s with xlt := { s.xlt with local_ := (l.zipIdx).foldl (fun m x => fmSet m (p.addr + x.2) x.1) s.xlt.local_ } } p

/-- Write the pieces; every reservation on a granule that they touch is cleared (R330). -/
def writePieces (s : State) (fn : Nat) : List Piece → List Byte → State
  | [], _ => s
  | p :: l, b =>
    let now_ := b.take p.len
    let s := if p.local_ then storeLocal s p now_ else if now_ = [] then s else hostWrite s fn p.addr now_
    writePieces s fn l (b.drop p.len)

/-- The writes of a put that will be acknowledged early are posted: they become visible in their time, in units that are written whole (R311,
R313 to R315). -/
def issuePieces (s : State) (e : Issued) : List Piece → List Byte → State
  | [], _ => s
  | p :: l, b =>
    let now_ := b.take p.len
    let s :=
      if p.local_ then storeLocal s p now_
      else if now_ = [] then s
      else
        let s := bump (clearTouched s p) (hifCounter s e.fn 5)
        { s with issued := s.issued ++ (units now_.length p.addr now_).map (fun u => { e with addr := u.1, bytes := u.2 }) }
    issuePieces s e l (b.drop p.len)

/-- The last byte of host memory that the pieces name. -/
def lastAddr (ps : List Piece) : Option Nat :=
  ((ps.filter (fun p => !p.local_ && p.len != 0)).getLast?).map (fun p => p.addr + p.len - 1)

/-- Declare the writes to the pieces visible: one read that follows them, of length zero, for it names no byte of a DEVICE segment (R201, R287; log
entry 154). The flag says that it succeeded. -/
def visible (s : State) (fn : Nat) (ps : List Piece) : State × Bool :=
  match lastAddr ps with
  | none => (s, true)
  | some a =>
    let (s, r) := hostRead s fn a 0
    (s, r.isSome)

/-- A queue's job has written the pieces through a key, and no read of R201 has followed (R301, R320). -/
def notePieces (s : State) (fn q key : Nat) (ps : List Piece) : State :=
  match lastAddr ps with
  | none => s
  | some a => noteIssued s { fn, queue := some q, region := key / 256, addr := a }

/-- Accesses to the pieces wait: they touch a granule that an ATOMIC or COND_STORE holds between its read and its write (R325). -/
def heldAt (s : State) (ps : List Piece) : Bool :=
  s.twn.gate.any (fun g => match g.2 with
    | .apply _ _ hs => hs.any (fun h => ps.any (fun p =>
        p.local_ == h.1 && decide (p.addr < h.2.1 + h.2.2) && decide (h.2.1 < p.addr + p.len)))
    | _ => false)

/-! ### Page-fault rings (R296 to R300) -/

def faultRingOf (s : State) (fn : Nat) : Option FaultRing := fmFind s.xlt.faultRings fn

def setFaultRing (s : State) (fn : Nat) (r : FaultRing) : State :=
  { s with xlt := { s.xlt with faultRings := fmSet s.xlt.faultRings fn r } }

/-- A page-fault record (R299). -/
def faultBytes (seq : Idx) (side access level key origin va time : Nat) (isLocal : Bool) : List Byte :=
  leBytes 32 (place [(0, seq.toNat), (32, side), (33, access), (35, b2n isLocal), (36, level), (64, key), (96, origin),
    (128, va), (192, time)])

/-- Re-read the consumer word when the cached copy shows the ring full. -/
def rereadFault (s : State) (fn : Nat) : State :=
  match faultRingOf s fn with
  | none => s
  | some r =>
    if ringFull r.log2 r.seq r.cached then
      match hostRead s fn r.cons 4 with
      | (s, some l) => setFaultRing s fn { r with cached := BitVec.ofNat 32 (leNat l) }
      | (s, none) => s
    else s

/-- Write a record into the ring; the answer is its SEQ. -/
def writeFault (s : State) (fn : Nat) (r : FaultRing) (record : Idx → List Byte) : State :=
  setFaultRing (hostWrite s fn (slotOf r.base r.log2 32 r.seq) (record r.seq)) fn { r with seq := r.seq + 1 }

/-- Write waiting local records, in the order of their faults, while the ring has room (R300). -/
def writeStalls (s : State) (fn : Nat) : List Stall → State
  | [] => s
  | x :: l =>
    if x.fn != fn || x.seq.isSome then writeStalls s fn l
    else match faultRingOf s fn with
      | none => s
      | some r =>
        if ringFull r.log2 r.seq r.cached || !canAccess s fn then s
        else
          let s := writeFault s fn r (fun seq => faultBytes seq 0 x.access x.level x.key x.q x.va x.time x.isLocal)
          let s := { s with xlt := { s.xlt with
            stalls := s.xlt.stalls.map (fun y => if y = x then { y with seq := some r.seq.toNat, since := now s } else y) } }
          let s := postEvent s fn (queueOf s x.q).evr 0x05 x.q x.key
          writeStalls s fn l

/-- A local operand meets a page that is not present: a record is posted or waits, and `who` stalls; with no ring it
fails at once, and the flag is false (R296, R300). -/
def localFault (s : State) (who : Stalled) (fn q key access level va : Nat) : State × Bool :=
  match faultRingOf s fn with
  | none => (bump s 293, false)
  | some _ =>
    let x : Stall := {
      who, fn, q, seq := none, since := now s, key, access, level, va, time := stamp s, isLocal := localTime s }
    let s := bump s 293
    let s := { s with xlt := { s.xlt with stalls := s.xlt.stalls.filter (fun y => y.who != who) ++ [x] } }
    let s := rereadFault s fn
    (writeStalls s fn s.xlt.stalls, true)

/-- A target packet meets a page that is not present (R297, R300). -/
def targetFault (s : State) (fn coord plane key access level va : Nat) : State :=
  let s := bump s 294
  let page := va / 4096
  let fresh := !s.xlt.recent.any (fun x => x.1 == fn && x.2.1 == page && decide (now s < x.2.2 + 1000000))
  if !s.xlt.tgtEn || !fresh || (faultRingOf s fn).isNone then s
  else
    let s := rereadFault s fn
    match faultRingOf s fn with
    | none => s
    | some r =>
      if ringFull r.log2 r.seq r.cached then bump s 295
      else
        let t := stamp s
        let loc := localTime s
        let s := writeFault s fn r (fun seq => faultBytes seq 1 access level key (coord + plane * 2 ^ 24) va t loc)
        let keep := s.xlt.recent.filter (fun x => decide (now s < x.2.2 + 1000000))
        let s := { s with xlt := { s.xlt with recent := keep ++ [(fn, page, now s)] } }
        postEvent s fn 0 0x05 0xFFFFFFFF key

/-- FAULT_RING_REREAD: while a local record waits (R300). -/
def faultReread (s : State) (fn : Nat) : State :=
  if s.xlt.stalls.any (fun x => x.fn == fn && x.seq.isNone) then
    let s := rereadFault s fn
    writeStalls s fn s.xlt.stalls
  else s

/-! ### Register words (R304 to R306) -/

def xltCfg (s : State) : Nat := place [(0, s.xlt.localTimeout), (8, b2n s.xlt.tgtEn)]

/-- Bytes of the segments of a region that R281 counts, and its device-local bytes. -/
def countedBytes (segs : List Segment) : Nat := segs.foldl (fun n g => if g.type = 2 then n else n + g.length) 0
def localBytes (segs : List Segment) : Nat := segs.foldl (fun n g => if g.type = 2 then n + g.length else n) 0

def usedBytes (s : State) : Nat := s.xlt.regions.foldl (fun n kv => n + countedBytes kv.2.segs) 0

def xltStatus (s : State) : Nat :=
  place [(0, s.xlt.regions.length), (16, min s.xlt.stalls.length 65535),
    (32, s.xlt.regions.foldl (fun n kv => n + localBytes kv.2.segs) 0)]
def xltUsage (s : State) : Nat := usedBytes s
def xltFnUsage (s : State) (fn : Nat) : Nat :=
  let mine := s.xlt.regions.filter (fun kv => kv.2.fn == fn)
  place [(0, mine.foldl (fun n kv => n + countedBytes kv.2.segs) 0), (45, mine.length)]

end Sys2Proof.Machine
end

