-- ==== Sys2Proof/Machine/RegionCmds.lean ====
section
/-! DEFINITION. Region commands, group 0x03xx, that end no job (R278 to R286, R295, R303, R307 to R309). -/

namespace Sys2Proof.Machine

/-- The tenant names an enabled function (R309, R374, R404, R478, R499). -/
def enabledFn (s : State) (t : Nat) : Bool := t == 0 || (fnOf s t).present

/-! ### Segments and headers (R283, R284, R308) -/

/-- A segment read from its 32 bytes (R283). -/
def segment (b : List Byte) : Segment :=
  let v := leNat b
  { offset := field v 0 48, length := field v 64 48, base := field v 128 64, type := field v 192 2, rights := field v 194 6,
    early := bitAt v 200, device := bitAt v 201 }

def segmentOk (b : List Byte) : Bool :=
  let v := leNat b
  let g := segment b
  field v 48 16 == 0 && field v 112 16 == 0 && v / 2 ^ 202 == 0 && decide (1 ≤ g.length) && decide (g.length ≤ 2 ^ 44)
  && decide (g.offset + g.length ≤ 2 ^ 48) && g.type != 3 && (!g.device || (g.type == 0 && !g.early))

def segBytes (g : Segment) : List Byte :=
  leBytes 32 (place [(0, g.offset), (64, g.length), (128, g.base), (192, g.type), (194, g.rights), (200, b2n g.early),
    (201, b2n g.device)])

/-- Segments rise by OFFSET and do not overlap (R284). -/
def segmentsRise : List Segment → Bool
  | [] => true
  | _ :: [] => true
  | a :: b :: l => decide (a.offset + a.length ≤ b.offset) && segmentsRise (b :: l)

/-- Device-local segments, as (base, length). -/
def localSegs (segs : List Segment) : List (Nat × Nat) := (segs.filter (fun g => g.type == 2)).map (fun g => (g.base, g.length))

/-- Ranges lie in the device-local area and none overlaps another (R286). -/
def localFits : List (Nat × Nat) → Bool
  | [] => true
  | (b, n) :: l =>
    decide (b + n ≤ 1048576) && l.all (fun x => decide (b + n ≤ x.1) || decide (x.1 + x.2 ≤ b)) && localFits l

/-- The region header of REGION_QUERY (R308). -/
def headerBytes (s : State) (i : Nat) (r : Region) : List Byte :=
  leBytes 64 (place [(0, r.segs.length), (4, b2n r.remote), (8, r.fn), (32, keyOf s i), (64, r.ptRoot),
    (128, regionLen r), (192, 1)])

/-! ### Indices (R282, R303) -/

/-- The index is free and has been for 4 ms (R282), and is not live on the partner (R518). -/
def indexFree (s : State) (i : Nat) : Bool :=
  (fmFind s.xlt.regions i).isNone
  && (match fmFind s.xlt.freed i with | some t => decide (now s ≥ t + 4000000) | none => true)
  && !(onPartner s && (fmFind s.twn.mirror.regions i).isSome)

/-- The free index that has been free the longest: one never used, else by its freeing; of several, the lowest (R282; log
entry 17). -/
def longestFree (s : State) : Option Nat :=
  match firstFrom (fun i => indexFree s i && (fmFind s.xlt.freed i).isNone) 16383 1 with
  | some i => some i
  | none => leastBy (fun i _ => indexFree s i) id s.xlt.freed

/-- The 32-byte segments of REGION_CREATE's parameters (R283, R309). -/
def rawSegments (p : List Byte) : List (List Byte) :=
  (List.range (field (leNat (p.take 64)) 0 4)).map (fun i => (p.drop (64 + 32 * i)).take 32)

/-- The region that REGION_CREATE's parameters describe (R283, R308, R309). -/
def newRegion (p : List Byte) : Region :=
  let v := leNat (p.take 64)
  { fn := field v 8 8, remote := bitAt v 4, ptRoot := field v 64 64, segs := (rawSegments p).map segment }

/-- The field ranges, reserved bits and segments of REGION_CREATE (R283, R284, R309). -/
def regionCreateOk (p : List Byte) : Bool :=
  let v := leNat (p.take 64)
  let nseg := field v 0 4
  let r := newRegion p
  nseg != 0 && decide (nseg ≤ 8) && field v 5 3 == 0 && field v 16 16 == 0 && field v 32 32 == 0 && decide (v / 2 ^ 128 = 0)
  && r.ptRoot % 4096 == 0 && (r.segs.any (fun g => g.type == 1) || r.ptRoot == 0) && (rawSegments p).all segmentOk && segmentsRise r.segs

/-- The region's bytes and its device-local segments fit beside those that exist (R281, R286). -/
def regionFits (s : State) (r : Region) : Bool :=
  decide (usedBytes s + countedBytes r.segs ≤ 2 ^ 44)
  && localFits (localSegs r.segs ++ s.xlt.regions.flatMap (fun kv => if kv.2.adopted then [] else localSegs kv.2.segs))

/-- A region as the mirror carries it (R522). -/
def regionCfg (gen : Nat) (r : Region) : RegionCfg :=
  { gen := gen, fn := r.fn, remote := r.remote, ptRoot := r.ptRoot, segs := r.segs }

/-- REGION_CREATE (R283, R284, R286, R309). -/
def regionCreate (fn : Nat) (c : Cmd) (s : State) : State × CmdOut :=
  let r := newRegion c.params
  if !regionCreateOk c.params then (s, only stMalformed)
  else if (fn != 0 && r.fn != fn) || (fn = 0 && !enabledFn s r.fn) then (s, only stProtection)
  else if !regionFits s r then (s, only stNoResource)
  else match longestFree s with
    | none => (s, only stNoResource)
    | some i =>
      (mirror { s with xlt := { s.xlt with regions := fmSet s.xlt.regions i r, freed := fmErase s.xlt.freed i } }
        (.region i (regionCfg (genOf s i) r)), .done stOk (leBytes 4 (keyOf s i) ++ leBytes 4 0) 0)

/-- The region that a command's key names, or the status of the failing check (R307, R309). -/
def namedRegion (s : State) (fn key : Nat) : (Nat × Region) ⊕ Nat :=
  let i := key / 256
  if i = 0 || i ≥ 16384 then .inr stProtection
  else match fmFind s.xlt.regions i with
    | none => .inr stRevoked
    | some r =>
      if key % 256 != genOf s i then .inr stRevoked
      else if fn != 0 && r.fn != fn then .inr stProtection
      else .inl (i, r)

/-- REGION_QUERY (R307, R308). -/
def regionQuery (fn : Nat) (c : Cmd) (s : State) : State × CmdOut :=
  if !zeroAt c.params 4 4 then (s, only stMalformed)
  else match namedRegion s fn (numAt c.params 0 4) with
    | .inr st => (s, only st)
    | .inl (i, r) => (s, .done stOk (headerBytes s i r ++ padTo 256 (r.segs.flatMap segBytes)) 0)

/-! ### Revocation and invalidation (R295, R301) -/

/-- Drop the cached translations of a region that `p` accepts. -/
def dropCache (s : State) (i : Nat) (p : CacheEntry → Bool) : State :=
  { s with xlt := { s.xlt with cache := s.xlt.cache.filter (fun e => !(e.region == i && p e)) } }

/-- The generation of a region is incremented: its cached translations are dropped, and the reservations that were set
through it are cleared (R301, R330). -/
def revokeIndex (s : State) (i : Nat) : State :=
  let s := dropCache { s with xlt := { s.xlt with gens := fmSet s.xlt.gens i ((genOf s i + 1) % 256) } } i (fun _ => true)
  { s with pal := { s.pal with rsvs := s.pal.rsvs.filter (fun r => r.region != i) } }

/-- A region's index is freed (R282). -/
def freeIndex (s : State) (i : Nat) : State :=
  mirror { s with xlt := { s.xlt with regions := fmErase s.xlt.regions i, freed := fmSet s.xlt.freed i (now s) } }
    (.regionGone i (genOf s i))

/-- A region is destroyed: revoked, and its index freed (R282, R301). -/
def destroyIndex (s : State) (i : Nat) : State := freeIndex (revokeIndex s i) i

/-- What a waiting ATOMIC or COND_STORE accesses is the region, or any region of the function (R301). -/
def accesses (s : State) (fn : Nat) (i : Option Nat) : Gated → Bool
  | .apply p _ _ => (match p.tt with
      | .conn h => (match i with | some i => h.key / 256 == i | none => (ctxOf s h.dstCtx).fn == fn)
      | _ => false)
  | _ => false

/-- Every access that passed its check is complete: one read declares its writes visible, the index of a destroyed region is freed; the status
(R201, R301, R309). -/
def endAccesses (s : State) (fn : Nat) (i : Option Nat) (destroy : Bool) : State × Nat :=
  let (s, ok) := declareIssued s (fun e => match i with | some i => e.region == i | none => e.fn == fn)
  let s := match i with | some i => if destroy then freeIndex s i else s | none => s
  (s, if ok then stOk else stBusError)

/-- A revocation, destruction or invalidation is in effect; it ends once every access that passed its check before has (R301, R309). -/
def afterAccesses (s : State) (fn : Nat) (i : Option Nat) (destroy : Bool) (resp : List Byte) : State × CmdOut :=
  if s.twn.gate.any (fun g => accesses s fn i g.2) then (s, .wait (.accesses i destroy resp))
  else
    let (s, st) := endAccesses s fn i destroy
    (s, .done st (if st = stOk then resp else []) 0)

/-- Waiting commands whose accesses are complete are ready to end. -/
def accessesDone (s : State) : State :=
  s.cur.adm.foldl (fun s kv =>
    match kv.2.cmd with
    | none => s
    | some c =>
      match c.wait with
      | .accesses i destroy resp =>
        (match afterAccesses s kv.1 i destroy resp with
        | (s, .done st resp _) => setAdm s kv.1 { kv.2 with cmd := some { c with wait := .ready st resp 0 } }
        | (s, _) => s)
      | _ => s) s

/-- A cached page covers a byte of the region's range (R295). -/
def cachedIn (r : Region) (off len : Nat) (e : CacheEntry) : Bool :=
  r.segs.any (fun g => g.type == 1 &&
    (match overlap { key := 0, off, len, need := 0, fn := 0 } g with
     | some (x, n) =>
       let va := g.base + (x - g.offset)
       decide (e.va * 2 ^ e.log2 < va + n) && decide (va < (e.va + 1) * 2 ^ e.log2)
     | none => false))

/-- REGION_INVALIDATE: it ends once every access that used a dropped translation has (R295, R309). -/
def regionInvalidate (fn : Nat) (c : Cmd) (s : State) : State × CmdOut :=
  let p := c.params
  let off := numAt p 8 8
  let len := numAt p 16 8
  if byteAt p 4 > 1 || !zeroAt p 5 3 then (s, only stMalformed)
  else if byteAt p 4 = 1 then
    let s := s.xlt.regions.foldl (fun s kv => if kv.2.fn = fn then dropCache s kv.1 (fun _ => true) else s) s
    afterAccesses (bump s 296) fn none false []
  else if off + len > 2 ^ 48 then (s, only stMalformed)
  else match namedRegion s fn (numAt p 0 4) with
    | .inr st => (s, only st)
    | .inl (i, r) => afterAccesses (bump (dropCache s i (fun e => len = 0 || cachedIn r off len e)) 296) fn (some i) false []

/-! ### Page-fault rings (R299, R309) -/

/-- The ring that FAULT_RING_CREATE makes (R299, R309). -/
def newFaultRing (p : List Byte) : FaultRing := { base := numAt p 8 8, log2 := byteAt p 0, cons := numAt p 16 8 }

/-- The ring's records and its consumer word are initialised; the flag says that R201 declared the writes visible (R299). -/
def initFaultRing (s : State) (fn : Nat) (r : FaultRing) : State × Bool :=
  let s := hostWrite s fn r.base (freshRing r.log2 32 (2 ^ r.log2))
  let s := hostWrite s fn r.cons (leBytes 4 0)
  let (s, ok) := hostRead s fn r.cons 4
  (s, ok.isSome)

/-- FAULT_RING_CREATE. -/
def faultRingCreate (fn : Nat) (c : Cmd) (s : State) : State × CmdOut :=
  let p := c.params
  let log2 := byteAt p 0
  if log2 < 6 || log2 > 16 || !zeroAt p 1 7 || numAt p 8 8 % 4096 != 0 || numAt p 16 8 % 4 != 0 then (s, only stMalformed)
  else if (faultRingOf s fn).isSome || (onPartner s && (fmFind s.twn.mirror.faultRings fn).isSome) then (s, only stNoResource)
  else
    let r := newFaultRing p
    let (s, ok) := initFaultRing s fn r
    if !ok then (s, only stBusError)
    else (mirror (setFaultRing s fn r) (.faultRing fn r.base r.log2 r.cons), only stOk)

/-- XLT_CONFIG (R304, R307). -/
def xltConfig (_ : Nat) (c : Cmd) (s : State) : State × CmdOut :=
  let p := c.params
  let vm := byteAt p 2
  if vm > 3 || !zeroAt p 3 5 || (bitAt vm 1 && byteAt p 1 > 1) then (s, only stMalformed)
  else if vm != 0 && isExpert s 0x0A then (s, only stProtection)
  else ({ s with xlt := { s.xlt with
      localTimeout := if bitAt vm 0 then byteAt p 0 else s.xlt.localTimeout,
      tgtEn := if bitAt vm 1 then byteAt p 1 == 1 else s.xlt.tgtEn } }, only stOk)

end Sys2Proof.Machine
end

