-- ==== Sys2Proof/Machine/Operands.lean ====
section
/-! DEFINITION. Operand forms: the head flit's route and transport headers read from their bits (R50, R345, R383,
R427, R520), and the channels of each class (R58). -/

namespace Sys2Proof.Machine

/-- The route header of a head flit (R50). -/
def routeHdr (v : Nat) : RouteHdr :=
  { dest := field v 0 24, src := field v 24 24, plane := field v 48 1, cls := field v 49 3, vc := field v 52 4,
    epoch := field v 56 1, esc := bitAt v 57, down := bitAt v 58, xb := bitAt v 59, age := field v 64 16,
    hops := field v 80 8, dir := field v 88 6, detours := field v 94 2, len := field v 96 7, flow := field v 112 16 }

/-- The transport header of a connection packet (R345). -/
def connHdr (v : Nat) : ConnHdr :=
  { ttype := field v 128 8, status := field v 136 8, srcCtx := field v 144 16, srcInc := field v 160 8,
    dstCtx := field v 168 16, dstInc := field v 184 8, psn := BitVec.ofNat 24 (field v 192 24), sends := field v 216 8,
    key := field v 224 32, offset := field v 256 48, rcntNum := field v 304 13, rcntEn := bitAt v 317,
    length := field v 320 13, aop := field v 336 8, srcFn := field v 344 8,
    operand0 := field v 384 64, operand1 := field v 448 64 }

/-- The transport header of a message packet (R383). -/
def msgHdr (v : Nat) : MsgHdr :=
  { ttype := field v 128 8, status := field v 136 8, srcCtx := field v 144 16, srcInc := field v 160 8,
    dstCtx := field v 168 16, dstInc := field v 184 8, psn := BitVec.ofNat 24 (field v 192 24), sends := field v 216 8,
    dstEp := field v 224 12, srcEp := field v 236 12, srcFn := field v 248 8, msn := BitVec.ofNat 24 (field v 256 24),
    seg := field v 280 1, twoSeg := bitAt v 281, comm := field v 288 16, msgLen := field v 304 32,
    rdvId := field v 336 16, length := field v 352 13, tag := field v 384 64, moff := field v 448 32,
    result := field v 480 8 }

/-- The transport header of a Carillon packet (R427). -/
def carHdr (v : Nat) : CarHdr :=
  { ttype := field v 128 8, status := field v 136 8, groupId := field v 144 32, tepoch := field v 176 1,
    lost := bitAt v 177, mismatch := bitAt v 178, exact := bitAt v 179, op := field v 180 3, type := field v 184 3,
    rop := field v 187 3, opnum := field v 192 32, contrib := field v 224 18, count := field v 256 32,
    peerRank := field v 288 17, pktIndex := field v 320 20,
    pktCount := if field v 340 20 = 0 then 1048576 else field v 340 20, length := field v 360 13 }

/-- The transport header, by its type (R346, R384, R428); management packets are known by their class (R66). -/
def transport (v : Nat) : Transport :=
  let t := field v 128 8
  if field v 49 3 = 4 then .mgmt t
  else if (1 ≤ t && t ≤ 0x0A) || (0x10 ≤ t && t ≤ 0x16) then .conn (connHdr v)
  else if 0x30 ≤ t && t ≤ 0x33 then .msg (msgHdr v)
  else if 0x40 ≤ t && t ≤ 0x44 then .car (carHdr v)
  else .other t (field v 136 376)

/-! ### Heads as they are sent (R11) -/

/-- The bits of a route header (R50). -/
def routeBits (r : RouteHdr) : Nat :=
  place [(0, r.dest), (24, r.src), (48, r.plane), (49, r.cls), (52, r.vc), (56, r.epoch), (57, b2n r.esc), (58, b2n r.down),
    (59, b2n r.xb), (64, r.age), (80, r.hops), (88, r.dir), (94, r.detours), (96, r.len), (112, r.flow)]

/-- The bits of a connection packet's transport header, in their places in the head flit (R345). -/
def connBits (h : ConnHdr) : Nat :=
  place [(128, h.ttype), (136, h.status), (144, h.srcCtx), (160, h.srcInc), (168, h.dstCtx), (184, h.dstInc), (192, h.psn.toNat),
    (216, h.sends), (224, h.key), (256, h.offset), (304, h.rcntNum), (317, b2n h.rcntEn), (320, h.length), (336, h.aop),
    (344, h.srcFn), (384, h.operand0), (448, h.operand1)]

/-- The bits of a message packet's transport header (R383). -/
def msgBits (h : MsgHdr) : Nat :=
  place [(128, h.ttype), (136, h.status), (144, h.srcCtx), (160, h.srcInc), (168, h.dstCtx), (184, h.dstInc), (192, h.psn.toNat),
    (216, h.sends), (224, h.dstEp), (236, h.srcEp), (248, h.srcFn), (256, h.msn.toNat), (280, h.seg), (281, b2n h.twoSeg),
    (288, h.comm), (304, h.msgLen), (336, h.rdvId), (352, h.length), (384, h.tag), (448, h.moff), (480, h.result)]

/-- The bits of a Carillon packet's transport header; a PKT_COUNT of 2^20 is sent as 0 (R427). -/
def carBits (h : CarHdr) : Nat :=
  place [(128, h.ttype), (136, h.status), (144, h.groupId), (176, h.tepoch), (177, b2n h.lost), (178, b2n h.mismatch),
    (179, b2n h.exact), (180, h.op), (184, h.type), (187, h.rop), (192, h.opnum), (224, h.contrib), (256, h.count),
    (288, h.peerRank), (320, h.pktIndex), (340, h.pktCount % 2 ^ 20), (360, h.length)]

/-- The bits of a transport header, in their places in the head flit. -/
def transportBits : Transport → Nat
  | .conn h => connBits h
  | .msg h => msgBits h
  | .car h => carBits h
  | .mgmt k => place [(128, k)]
  | .other t rest => place [(128, t), (136, rest)]

/-- The head flit of a packet, as a little-endian 64-byte structure (R11). -/
def headLine (p : Packet) : Nat := routeBits p.rt + transportBits p.tt

/-- The channels of a class (R58). -/
def classVcs : Nat → List Nat
  | 0 => [0, 1, 2]
  | 1 => [3, 4, 5]
  | 2 => [6, 7]
  | 3 => [8]
  | 4 => [9]
  | _ => []

/-- HEAD_FLIT_CHECK: the head flit passes R52. -/
def headOk (v : Nat) : Bool :=
  decide (field v 49 3 ≤ 4) && decide (field v 52 4 ≤ 9) && (classVcs (field v 49 3)).contains (field v 52 4)
  && decide (1 ≤ field v 96 7) && decide (field v 96 7 ≤ 65) && field v 94 2 != 3
  && field v 60 4 == 0 && field v 103 9 == 0

/-- A slot where a head flit may begin is a twin frame when bits [55:49] hold MARK (R52, R520). -/
def isTwinFrame (v : Nat) : Bool := field v 49 7 == 0x7F

/-- A twin frame; none where its KIND is reserved or a reserved field is not 0 (R520). -/
def twinFrame (v : Nat) : Option TwinFrame :=
  let k := field v 0 8
  if k = 0 || k > 4 || field v 8 41 != 0 || field v 56 8 != 0
     || (k = 1 && field v 286 226 != 0) || ((k = 2 || k = 4) && field v 222 290 != 0)
  then none
  else some {
    kind := k, seq := field v 64 32, ack := field v 96 32, time := field v 128 64, state := field v 192 3,
    curReady := bitAt v 195, coord := field v 196 24, plane := field v 220 1, adoptEn := bitAt v 221,
    body := field v 222 290 }

/-- The 64 bytes of a twin frame (R520): MARK stands where a route header has CLASS and VC. What a mirror record holds, the device lays
out for itself: its bits are not the spec's. -/
def frameLine (f : TwinFrame) : Nat :=
  place [(0, f.kind), (49, 0x7F), (64, f.seq), (96, f.ack), (128, f.time), (192, f.state), (195, b2n f.curReady), (196, f.coord),
    (220, f.plane), (221, b2n f.adoptEn), (222, f.body)]

end Sys2Proof.Machine
end

