-- ==== Sys2Proof/Machine/Coding.lean ====
section
/-! DEFINITION. The coding of the lanes: 66-bit blocks, scrambling and PAM4 symbols (R148 to R150), flit groups over lanes and quads and
their trailer (R151 to R153), the Reed-Solomon code and the CRC of a group (R154), and ordered sets (R158). -/

namespace Sys2Proof.Machine

/-! ### Symbols, scrambling and blocks (R148, R149) -/

/-- The PAM4 level of a pair of bits b1 b0, by Gray coding (R149). -/
def grayLevel (pair : Nat) : Nat := match pair with | 0 => 0 | 1 => 1 | 3 => 2 | _ => 3

/-- The pair of bits of a level. -/
def grayPair (level : Nat) : Nat := match level with | 0 => 0 | 1 => 1 | 2 => 3 | _ => 2

/-- The levels of `n` symbols, of bits taken from bit 0 on (R149). -/
def levelsOf : Nat → Nat → List Nat
  | 0, _ => []
  | n + 1, v => grayLevel (v % 4) :: levelsOf n (v / 4)

/-- The bits of symbols, the first symbol's lowest. -/
def bitsOf : List Nat → Nat
  | [] => 0
  | x :: l => grayPair x + 4 * bitsOf l

/-- A payload scrambled with x^58 + x^39 + 1 after 58 scrambled bits, the latest highest. A bit of it depends on scrambled bits of its own
from the 40th on, so it is worked in two parts (R149). -/
def scramble (prior payload : Nat) : Nat :=
  let low := Nat.xor (Nat.xor payload (prior / 2 ^ 19)) prior % 2 ^ 39
  let line := prior + low * 2 ^ 58
  low + Nat.xor (Nat.xor (payload / 2 ^ 39) (line / 2 ^ 58)) (line / 2 ^ 39) % 2 ^ 25 * 2 ^ 39

/-- A scrambled payload descrambled: each bit with those 39 and 58 places before it on the line (R149). -/
def descramble (prior word : Nat) : Nat :=
  let line := prior + word * 2 ^ 58
  Nat.xor (Nat.xor word (line / 2 ^ 19)) line % 2 ^ 64

/-- The 58 bits that come before the next payload. -/
def latest (prior word : Nat) : Nat := (prior + word * 2 ^ 58) / 2 ^ 64

/-- One lane's blocks: sync header and payload (R148). -/
abbrev Blocks := List (Nat × Nat)

/-- The levels that blocks are sent as: a header, then the scrambled payload, 33 symbols a block (R148, R149). -/
def sendBlocks : Nat → Blocks → List Nat
  | _, [] => []
  | prior, (sync, payload) :: l =>
    let w := scramble prior payload
    levelsOf 33 (sync + 4 * w) ++ sendBlocks (latest prior w) l

/-- The blocks that a lane's bits are, `n` of them. -/
def blocksOf66 : Nat → Nat → Nat → Blocks
  | 0, _, _ => []
  | n + 1, prior, v =>
    let w := v / 4 % 2 ^ 64
    (v % 4, descramble prior w) :: blocksOf66 n (latest prior w) (v / 2 ^ 66)

/-- The blocks that a lane receives (R148, R149). -/
def receiveBlocks (x : LaneBits) : Blocks := blocksOf66 (x.levels.length / 33) x.prior (bitsOf x.levels)

/-- A sync header is valid: a data block's or a control block's (R148). -/
def syncValid (h : Nat) : Bool := h == 1 || h == 2

/-- A lane's block lock after more sync headers: gained with 64 valid ones in a row, lost with 16 invalid among 64 (R150). -/
def trackHead (lane : Nat) (l : LanePort) (h : Nat) : LanePort :=
  let ok := syncValid h
  let seen := (ok :: fmGet l.heads lane []).take 64
  let run := if ok then fmGet l.run lane 0 + 1 else 0
  let lock := if run ≥ 64 then withMember l.lock lane
    else if (seen.filter (fun b => !b)).length ≥ 16 then without l.lock lane else l.lock
  { l with heads := fmSet l.heads lane seen, run := fmSet l.run lane run, lock := lock }

/-! ### The CRC and the Reed-Solomon code (R153, R154) -/

/-- One step of CRC-32C, reflected (R153, R158, R164). -/
def crc32cBit (c : Nat) : Nat := if c % 2 = 1 then Nat.xor (c / 2) 0x82F63B78 else c / 2

/-- CRC-32C of bytes. -/
def crc32c (l : List Byte) : Nat :=
  Nat.xor (l.foldl (fun c b => (List.range 8).foldl (fun c _ => crc32cBit c) (Nat.xor c b.toNat)) 0xFFFFFFFF) 0xFFFFFFFF

/-- The register of CRC-32C after the `n` low bits of a number, bit 0 first. -/
def crcBits : Nat → Nat → Nat → Nat
  | 0, c, _ => c
  | n + 1, c, v => forced (crc32cBit (Nat.xor c (v % 2))) (fun c => forced (v / 2) (crcBits n c))

/-- The same after `n` words of 64 bits. -/
def crcWords : Nat → Nat → Nat → Nat
  | 0, c, _ => c
  | n + 1, c, v => forced (crcBits 64 c (v % 2 ^ 64)) (fun c => forced (v / 2 ^ 64) (crcWords n c))

/-- CRC-32C of the `n` low bits of a number, bit 0 first. -/
def crcOf (n v : Nat) : Nat :=
  Nat.xor (crcBits (n % 64) (crcWords (n / 64) 0xFFFFFFFF v) (v / 2 ^ (n / 64 * 64))) 0xFFFFFFFF

/-- A symbol of GF(2^10) times x, modulo x^10 + x^3 + 1 (log entry 140). -/
def gfDouble (a : Nat) : Nat := if a < 512 then 2 * a else Nat.xor (2 * a) 0x409

/-- The product of two symbols of GF(2^10): `n` bits of the second, lowest first. -/
def gfMulN : Nat → Nat → Nat → Nat
  | 0, _, _ => 0
  | n + 1, a, b => Nat.xor (if b % 2 = 1 then a else 0) (gfMulN n (gfDouble a) (b / 2))

def gfMul (a b : Nat) : Nat := gfMulN 10 a b

/-- A power of a symbol, by `n` bits of the exponent, lowest first. -/
def gfPowN : Nat → Nat → Nat → Nat
  | 0, _, _ => 1
  | n + 1, a, k => gfMul (if k % 2 = 1 then a else 1) (gfPowN n (gfMul a a) (k / 2))

/-- The power `k` of a symbol; that of the primitive element x has period 1,023. -/
def gfPow (a k : Nat) : Nat := gfPowN 10 a (k % 1023)
def gfInv (a : Nat) : Nat := gfPow a 1022

/-- The generator polynomial, which has the roots x^0 to x^13, times 1, x, ... x^9: of each its 14 coefficients below the leading one, the
constant lowest, 10 bits each (`rsRows_eq` works them out). -/
def rsRows : List Nat :=
  [0xe2006af420a439de126661e50427b1489b0,
   0xc640c5cc404a733c04c5c38a984b6b91360,
   0x8ec18b988094a6f82d8a855520b6df206c9,
   0x1fc30715002b4d707f1408ea4169b74099b,
   0x3f860e2a00569ae0fa21119412d36e81336,
   0x7f0c0c7409ad35c1f04b232825a2d500665,
   0xfe1808cc12586b13e0964610db41a3008c3,
   0xfe7001bc24b096b7c12c8c21a6a74601186,
   0xfee0937848636d6f82581a43dd4a850230c,
   0xffc1b6f090c69a5f24b93487aab50304211]

/-- The generator times a symbol. -/
def rsTimes : List Nat → Nat → Nat
  | [], _ => 0
  | r :: rows, s => Nat.xor (if s % 2 = 1 then r else 0) (rsTimes rows (s / 2))

/-- The parity of `n` information symbols, the lowest symbol first and of highest degree: the remainder by the generator. -/
def rsDivide (rows : List Nat) : Nat → Nat → Nat → Nat
  | 0, rem, _ => rem
  | n + 1, rem, v =>
    forced (Nat.xor (rem % 2 ^ 130 * 1024) (rsTimes rows (Nat.xor (rem / 2 ^ 130) (v % 1024)))) (fun rem =>
      forced (v / 1024) (rsDivide rows n rem))

/-- The parity as the trailer holds it: its first symbol, of highest degree, lowest. -/
def rsParity (info : Nat) : Nat :=
  let rem := rsDivide rsRows 524 0 info
  (List.range 14).foldl (fun n k => n + field rem (10 * (13 - k)) 10 * 2 ^ (10 * k)) 0

/-- The value of a codeword's 538 symbols, the first of degree 537, at a point. -/
def rsValue (a : Nat) : Nat → Nat → Nat → Nat
  | 0, acc, _ => acc
  | n + 1, acc, v => forced (Nat.xor (gfMul acc a) (v % 1024)) (fun acc => forced (v / 1024) (rsValue a n acc))

/-- A polynomial's value; coefficients lowest first. -/
def polyAt (a : Nat) : List Nat → Nat
  | [] => 0
  | c :: l => Nat.xor c (gfMul a (polyAt a l))

/-- The state of the search for the error locator (Berlekamp and Massey). -/
structure Locator where
  c : List Nat := [1]
  b : List Nat := [1]
  len : Nat := 0
  gap : Nat := 1
  last : Nat := 1

def polyAdd (a b : List Nat) : List Nat := (List.range (max a.length b.length)).map (fun i => Nat.xor (a.getD i 0) (b.getD i 0))

/-- One syndrome more: the locator is corrected where it does not foretell it. -/
def locate1 (syn : List Nat) (x : Locator) (n : Nat) : Locator :=
  let d := (List.range x.len).foldl (fun d i => Nat.xor d (gfMul (x.c.getD (i + 1) 0) (syn.getD (n - 1 - i) 0))) (syn.getD n 0)
  if d = 0 then { x with gap := x.gap + 1 }
  else
    let k := gfMul d (gfInv x.last)
    let c := polyAdd x.c (List.replicate x.gap 0 ++ x.b.map (gfMul k))
    if 2 * x.len ≤ n then { c := c, b := x.c, len := n + 1 - x.len, gap := 1, last := d }
    else { x with c := c, gap := x.gap + 1 }

/-- The received word corrected, and how many symbols were wrong: none where more than 7 are (R154). A correction is taken only if it is a
codeword. -/
def rsCorrect (word : Nat) : Option (Nat × Nat) :=
  if rsParity (word % 2 ^ 5240) = word / 2 ^ 5240 then some (word, 0)
  else
    let syn := (List.range 14).map (fun j => rsValue (gfPow 2 j) 538 0 word)
    let x := (List.range 14).foldl (locate1 syn) {}
    let at_ := (List.range 538).filter (fun i => polyAt (gfPow 2 (1023 - (537 - i))) x.c == 0)
    if x.len > 7 || at_.length != x.len then none
    else
      let omega := (List.range 14).map (fun n => (List.range (n + 1)).foldl (fun d i => Nat.xor d (gfMul (x.c.getD i 0) (syn.getD (n - i) 0))) 0)
      let slope := (List.range x.c.length).map (fun i => if i % 2 = 0 then x.c.getD (i + 1) 0 else 0)
      let word' := at_.foldl (fun w i =>
        let p := gfPow 2 (537 - i)
        let e := gfMul p (gfMul (polyAt (gfInv p) omega) (gfInv (polyAt (gfInv p) slope)))
        Nat.xor w (e * 2 ^ (10 * i))) word
      if rsParity (word' % 2 ^ 5240) = word' / 2 ^ 5240 then some (word', x.len) else none

/-! ### Trailers and groups (R151 to R156) -/

/-- A group's trailer, but for CRC and PARITY (R153). Credit slots are channel and count. -/
structure Trailer where
  seq : Nat
  ack : Nat
  nak : Bool
  valid : Nat := 0
  poison : Nat := 0
  cr0 : Nat × Nat := (0xF, 0)
  cr1 : Nat × Nat := (0xF, 0)
  deriving DecidableEq, Repr

/-- Bits [83:0] of a trailer (R153). -/
def trailerBits (t : Trailer) : Nat :=
  place [(0, t.seq), (12, t.ack), (24, b2n t.nak), (25, t.valid), (35, t.poison), (45, t.cr0.1), (49, t.cr0.2), (59, t.cr1.1), (63, t.cr1.2)]

/-- A trailer read from its bits (R153). -/
def trailerOf (v : Nat) : Trailer :=
  { seq := field v 0 12, ack := field v 12 12, nak := bitAt v 24, valid := field v 25 10, poison := field v 35 10,
    cr0 := (field v 45 4, field v 49 10), cr1 := (field v 59 4, field v 63 10) }

/-- The information of a quad's group: 640 flit bytes, then trailer bits [115:0], with the CRC in [115:84] (R153, R154). -/
def groupInfo (data : Nat) (t : Trailer) : Nat :=
  let v := data + trailerBits t * 2 ^ 5120
  v + crcOf 5204 v * 2 ^ 5204

/-- Block `b` of 84 of a quad's group: 80 flit blocks, then the trailer's four (R151). -/
def groupBlock (data trailer b : Nat) : Nat := if b < 80 then field data (64 * b) 64 else field trailer (64 * (b - 80)) 64

/-- The blocks of a quad's group on its four lanes: block b on lane b mod 4 (R151). -/
def quadLanes (data : Nat) (t : Trailer) : List Blocks :=
  let info := groupInfo data t
  let trailer := info / 2 ^ 5120 + rsParity info * 2 ^ 116
  (List.range 4).map (fun k => (List.range 21).map (fun i => (1, groupBlock data trailer (4 * i + k))))

/-- The 64 bytes of a flit slot: a head flit, 64 bytes of payload, or a twin frame (R11, R51, R520). -/
def flitLine (f : TxFlit) : Nat :=
  match f.twin, f.head with
  | some x, _ => frameLine x
  | none, some p => headLine p
  | none, none => leNat (f.data.take 64)

/-- The slots of one quad: every slot of a fabric group; of the bridge's, the even ones or the odd ones (R152). -/
def quadSlots (p quad : Nat) (l : List TxFlit) : List (Option TxFlit) :=
  (List.range 10).map (fun j => if p = 14 then l[2 * j + quad]? else l[j]?)

/-- The flit bytes and the trailer of a quad of a sent group (R152, R153). -/
def quadOf (p quad : Nat) (g : OutGroup) : Nat × Trailer :=
  let slots := quadSlots p quad g.flits
  let bits := fun (f : TxFlit → Bool) => (List.range 10).foldl (fun n j =>
    n + (match slots.getD j none with | some x => b2n (f x) | none => 0) * 2 ^ j) 0
  ((List.range 10).foldl (fun n j => n + (match slots.getD j none with | some x => flitLine x | none => 0) % 2 ^ 512 * 2 ^ (512 * j)) 0,
   { seq := g.seq, ack := g.ack, nak := g.nak, valid := bits (fun _ => true), poison := bits (·.poison),
     cr0 := g.credits.getD (2 * quad) (0xF, 0), cr1 := g.credits.getD (2 * quad + 1) (0xF, 0) })

/-- The lanes of a sent group: four, or the bridge's two quads (R151, R152). -/
def groupLanes (p : Nat) (g : OutGroup) : List Blocks :=
  (if p = 14 then [0, 1] else [0]).flatMap (fun q => quadLanes (quadOf p q g).1 (quadOf p q g).2)

/-- What the lanes of a sent group carry, after the bits that each lane sent before (R148, R149). -/
def groupLevels (p : Nat) (g : OutGroup) (prior : Nat → Nat) : List LaneBits :=
  (List.range (groupLanes p g).length).map (fun k =>
    { prior := prior k, levels := sendBlocks (prior k) ((groupLanes p g).getD k []) })

/-- The bits that a quad's lanes carry: flit blocks and trailer blocks put together again (R151). -/
def joinLanes (lanes : List Blocks) : Nat :=
  (List.range 84).foldl (fun n b =>
    let w := ((lanes.getD (b % 4) []).getD (b / 4) (0, 0)).2
    n + w * 2 ^ (if b < 80 then 64 * b else 5120 + 64 * (b - 80))) 0

/-- The 538 symbols of a quad: 524 of information, with 4 bits of padding that do not travel, and 14 of parity (R154). -/
def codeWord (v : Nat) : Nat := v % 2 ^ 5236 + v / 2 ^ 5236 % 2 ^ 140 * 2 ^ 5240

/-- A quad decoded: its corrected information and the number of symbols corrected; none where a header is no data block's, the code fails, a
padding bit is wrong or the CRC does not match (R148, R154). -/
def decodeQuad (lanes : List Blocks) : Option (Nat × Nat) :=
  if lanes.any (fun l => l.length != 21 || l.any (fun b => b.1 != 1)) then none
  else match rsCorrect (codeWord (joinLanes lanes)) with
    | none => none
    | some (w, n) =>
      if field w 5236 4 != 0 || crcOf 5204 (w % 2 ^ 5204) != field w 5204 32 then none else some (w % 2 ^ 5236, n)

/-- The valid slots of a group in order, with their flits and POISON bits. -/
def validSlots (p : Nat) (quads : List Nat) : List (Line × Bool) :=
  (List.range (slotsPerGroup p)).filterMap (fun j =>
    let (q, k) := if p = 14 then (j % 2, j / 2) else (0, j)
    let w := quads.getD q 0
    let t := trailerOf (w / 2 ^ 5120)
    if bitAt t.valid k then some (BitVec.ofNat 512 (field w (512 * k) 512), bitAt t.poison k) else none)

/-- A slot as the receiver knows it (log entry 12). -/
def rxSlot (x : Line × Bool) : Option Nat → RxSlot
  | none => .head x.1 x.2
  | some vc => .body vc x.1 x.2

/-- A received group decoded: good only if every quad is, and the bridge's two agree (R152 to R156). -/
def decodeGroup (p : Nat) (g : RawGroup) : FlitGroup :=
  let lanes := g.lanes.map receiveBlocks
  let quads := (if p = 14 then [0, 1] else [0]).map (fun q => decodeQuad ((lanes.drop (4 * q)).take 4))
  let corrected := quads.foldl (fun n q => n + (match q with | some x => x.2 | none => 0)) 0
  let words := quads.filterMap (fun q => q.map (·.1))
  let ts := words.map (fun w => trailerOf (w / 2 ^ 5120))
  match ts.head? with
  | none => { good := false, corrected }
  | some t =>
    if words.length != quads.length || ts.any (fun u => u.seq != t.seq || u.ack != t.ack || u.nak != t.nak)
       || lanes.length != (if p = 14 then 8 else 4) then { good := false, corrected }
    else {
      good := true, corrected, seq := t.seq, ackSeq := t.ack, nak := t.nak,
      slots := (validSlots p words).zipIdx.map (fun x => rxSlot x.1 ((g.follow[x.2]?).getD none)),
      credits := (ts.flatMap (fun u => [u.cr0, u.cr1])).filter (fun c => c.1 != 0xF) }

/-! ### Ordered sets (R158) -/

/-- The payload of an ordered set's block on a lane (R158). -/
def osPayload (o : OrderedSet) (lane : Nat) : Nat :=
  match o with
  | .train m => place [(0, 0x1E), (8, lane), (14, m.port), (18, m.coord), (42, b2n m.coordValid), (43, m.plane), (44, m.phase)]
  | .timeX t =>
    let two := place [(8, t.exch), (16, t.depth), (22, t.root), (46, b2n t.rootValid), (47, b2n t.isParent)]
    (match lane with
    | 0 => place [(0, 0x2D), (8, t.prevSend)]
    | 1 => place [(0, 0x2D), (8, t.lastRecv)]
    | 2 => 0x2D + two
    | _ => place [(0, 0x2D), (8, crcOf 168 (t.prevSend + t.lastRecv * 2 ^ 56 + two / 2 ^ 8 * 2 ^ 112))])
  | .fence coord plane reason => place [(0, 0x33), (8, coord), (32, plane), (33, reason)]
  | .sleep => 0x4B

/-- The payloads of an ordered set on the lanes of a port: one control block on every lane (R158). -/
def osPayloads (p : Nat) (o : OrderedSet) : List Nat := (List.range (if p = 14 then 8 else 4)).map (osPayload o)

/-- An ordered set read from its lanes' payloads: none where its type is none of the four or the CRC of a TIME_X is bad (R158). A TIME_X's
instant of arrival is not in it. -/
def osRead (l : List Nat) : Option OrderedSet :=
  let a := l.getD 0 0
  let b := l.getD 1 0
  let c := l.getD 2 0
  match a % 256 with
  | 0x1E => some (.train { port := field a 14 4, coord := field a 18 24, coordValid := bitAt a 42, plane := field a 43 1, phase := field a 44 3 })
  | 0x2D =>
    if crcOf 168 (field a 8 56 + field b 8 56 * 2 ^ 56 + field c 8 56 * 2 ^ 112) != field (l.getD 3 0) 8 32 then none
    else some (.timeX {
      prevSend := field a 8 56, lastRecv := field b 8 56, exch := field c 8 8, depth := field c 16 6, root := field c 22 24,
      rootValid := bitAt c 46, isParent := bitAt c 47, recvAt := 0 })
  | 0x33 => some (.fence (field a 8 24) (field a 32 1) (field a 33 8))
  | 0x4B => some .sleep
  | _ => none

end Sys2Proof.Machine
end

