-- ==== Sys2Proof/Machine/MonitorCmds.lean ====
section
/-! DEFINITION. Counters, user counter pages, Dials, the Provenance buffer and the fault commands, group 0x0Bxx
(R542, R545, R549, R556 to R579). -/

namespace Sys2Proof.Machine

/-! ### Event counters (R560 to R562, R572) -/

def cntOf (s : State) (n : Nat) : Cnt := fmGet s.mon.cnt n {}

/-- MON_CNT_CFG (R572). -/
def cntCfg (s : State) (n : Nat) : Nat :=
  let c := cntOf s n
  place [(0, b2n c.saturate), (1, b2n c.wrapped), (2, b2n c.saturated), (3, b2n (isOccupancy n)), (8, c.thresh)]

/-- A sample of a counter in slot form: the two words of R564. -/
def cntSlot (s : State) (n : Nat) : Nat × Nat :=
  let c := cntOf s n
  (place [(0, c.value), (48, b2n c.wrapped), (49, b2n c.saturated), (63, 1)], stamp s)

/-- Set MODE or THRESH, or CLEAR a counter (R562): a change applies from the next tick, and events of this tick
are counted after a CLEAR. THRESH of an event counter is not written (R572). -/
def cntConfig (s : State) (n : Nat) (mode : Option Bool) (thresh : Option Nat) (clear : Bool) : State :=
  let c := cntOf s n
  let thresh := if isOccupancy n then thresh else none
  let c := if mode.isSome || thresh.isSome
    then { c with
      old := some (c.old.getD (c.saturate, c.thresh)), saturate := mode.getD c.saturate, thresh := thresh.getD c.thresh }
    else c
  let c := if clear then { c with value := fmGet s.mon.inTick n 0, wrapped := false, saturated := false } else c
  { s with mon := { s.mon with cnt := fmSet s.mon.cnt n c } }

/-- The same change of `n` counters from `first` on, in one tick (R579). -/
def cntConfigs (s : State) (first n : Nat) (mode : Option Bool) (thresh : Option Nat) (clear : Bool) : State :=
  (List.range n).foldl (fun s i => cntConfig s (first + i) mode thresh clear) s

/-! ### User counter pages (R564, R565, R573) -/

def pageOf (s : State) (fn : Nat) : UserPage := fmGet s.mon.pages fn {}

/-- The counter in slot `i` of a function's page, if the slot holds one (R564). -/
def pageCounter (s : State) (fn i : Nat) : Option Nat :=
  if i < 4 then some (403 + 4 * fn + i) else (pageOf s fn).slots[i - 4]?

/-- The page of a function holds the counter (R579). -/
def pageHolds (s : State) (fn n : Nat) : Bool :=
  (pageOf s fn).en && ((403 + 4 * fn ≤ n && n < 407 + 4 * fn) || (pageOf s fn).slots.contains n)

/-- MON_USER_STATE (R573). -/
def userState (s : State) (fn : Nat) : Nat := place [(0, b2n (pageOf s fn).en), (1, (pageOf s fn).slots.length)]

/-! ### Dials (R566 to R568, R574) -/

def dialOf (s : State) (d : Nat) : Dial := fmGet s.mon.dials d {}

def setDial (s : State) (d : Nat) (x : Dial) : State := { s with mon := { s.mon with dials := fmSet s.mon.dials d x } }

/-- The bin of a shifted sample (R567). -/
def dialBin (u : Nat) : Nat := if u = 0 then 0 else min 31 (Nat.log2 u + 1)

/-- COUNT, SUM and the bins saturate (R567). -/
def sat64 (n : Nat) : Nat := min n (2 ^ 64 - 1)

/-- Apply one sample (R567). -/
def dialApply (x : Dial) (v ts : Nat) : Dial :=
  let b := dialBin (v / 2 ^ x.shift)
  { x with
    count := sat64 (x.count + 1), sum := sat64 (x.sum + v), lastTs := ts,
    min := if v < x.min then v else x.min, minTs := if v < x.min then ts else x.minTs,
    max := if v > x.max then v else x.max, maxTs := if v > x.max then ts else x.maxTs,
    bins := fmModify x.bins b 0 (fun n => sat64 (n + 1)) }

/-- CLEAR: samples of the same tick are applied after it (R568). -/
def dialClear (x : Dial) : Dial :=
  x.recent.foldl (fun x p => dialApply x p.1 p.2)
    { x with min := 2 ^ 64 - 1, minTs := 0, max := 0, maxTs := 0, count := 0, sum := 0, lastTs := 0, bins := [] }

/-- DIAL_SAMPLE: the oldest sample on its way reaches the Dial; with EN = 0 the Dial keeps its values (R568). -/
def dialSample (s : State) (d : Nat) : State :=
  let x := dialOf s d
  match x.coming with
  | [] => s
  | (v, ts) :: l =>
    let x := { x with coming := l }
    if !x.en then setDial s d x
    else
      let x := dialApply x v ts
      setDial s d (if ts = stamp s then { x with recent := x.recent ++ [(v, ts)] } else x)

/-- MON_DIAL_CFG (R574). -/
def dialCfg (x : Dial) : Nat := place [(0, x.kind), (4, b2n x.en), (8, x.shift), (32, x.arg)]

/-- Width of the ARG bits that a KIND uses (R566). -/
def dialArgBits : Nat → Nat
  | 1 => 18 | 2 => 18 | 3 => 28 | 4 => 8 | 5 => 4 | 7 => 13 | 8 => 9 | 9 => 9 | 10 => 17
  | _ => 0

/-- A Dial takes a new KIND, ARG and SHIFT: a change clears it in the same tick (R568). -/
def dialSource (x : Dial) (kind shift arg : Nat) : Dial :=
  if x.kind = kind && x.shift = shift && x.arg = arg then x
  else { dialClear { x with recent := [], coming := [] } with kind := kind, shift := shift, arg := arg }

/-- The registers of a Dial in offset order, then the bins (R574, R578). -/
def dialBytes (x : Dial) : List Byte :=
  ([dialCfg x, x.min, x.minTs, x.max, x.maxTs, x.count, x.sum, x.lastTs].flatMap (leBytes 8))
  ++ (List.range 32).flatMap (fun b => leBytes 8 (fmGet x.bins b 0))

/-! ### The Provenance buffer (R569 to R571, R575 to R577) -/

/-- MON_PROV_CFG (R575). -/
def provCfg (s : State) : Nat :=
  let p := s.mon.prov
  place [(0, p.n), (24, b2n p.en), (25, b2n p.random), (26, b2n p.stopFull), (32, p.tenant), (40, b2n p.anyTenant),
    (41, p.opcode), (49, b2n p.anyOpcode)]

/-- Sampled jobs not yet done (R576). -/
def tracked (s : State) : Nat :=
  s.rings.queues.foldl (fun n kv => n + (kv.2.jobs.filter (fun j => j.sampled && j.st != .done)).length) 0

/-- MON_PROV_STATUS (R576). -/
def provStatus (s : State) : Nat := place [(0, s.mon.provNext), (32, tracked s), (41, b2n s.mon.provFull)]

/-- The countdown is reloaded: N, or a free draw from 1 to 2N − 1 (R569). -/
def reloadCountdown (s : State) : State :=
  let n := max s.mon.prov.n 1
  if s.mon.prov.random then
    let (v, s) := draw s
    { s with mon := { s.mon with countdown := 1 + v % (2 * n - 1) } }
  else { s with mon := { s.mon with countdown := n } }

/-- Write MON_PROV_CFG: a change of N, RANDOM or EN reloads the countdown; FULL and its count start anew (R569, R571). -/
def setProv (s : State) (v : Nat) : State :=
  let old := s.mon.prov
  let new : ProvCfg := {
    n := field v 0 24, en := bitAt v 24, random := bitAt v 25, stopFull := bitAt v 26, tenant := field v 32 8,
    anyTenant := bitAt v 40, opcode := field v 41 8, anyOpcode := bitAt v 49 }
  let s := { s with mon := { s.mon with prov := new, provSince := 0, provFull := false } }
  if old.n != new.n || old.random != new.random || old.en != new.en then reloadCountdown s else s

/-- A Provenance record as stored (R570). -/
def provBytes (r : ProvRec) : List Byte :=
  leBytes 64 (place [(0, r.seq), (32, r.queue), (50, b2n r.isLocal), (56, r.opcode), (64, r.index), (96, r.status),
    (104, r.entries), (112, r.context), (128, r.lkey), (160, r.loffset), (224, r.rkey), (256, r.roffset),
    (304, r.dest), (328, r.destPlane), (352, r.length), (384, r.tPost), (448, r.latency), (480, r.toFirst)])

/-- The record in a Provenance slot; an unwritten slot is initialised as R549 does (R571). -/
def provSlot (s : State) (slot : Nat) : ProvRec := fmGet s.mon.provLog slot { seq := (2 ^ 32 + slot - 8192) % 2 ^ 32 }

/-! ### Fault words (R549, R556) -/

/-- CUS_SRC word +0x0 (R556). -/
def srcWord (s : State) (src : Nat) : Nat :=
  let e := fmGet s.cus.srcs src {}
  place [(0, srcSev s src), (2, srcFloor src), (4, srcUnit src), (8, b2n e.seen), (32, e.count)]

/-- CUS_SRC word +0x8 (R556). -/
def srcDetail (s : State) (src : Nat) : Nat := (fmGet s.cus.srcs src {}).lastDetail

/-- A fault-log record as stored (R549). -/
def logBytes (r : LogRec) : List Byte :=
  leBytes 32 (place [(0, r.seq), (32, r.source), (41, r.sev), (43, b2n r.isLocal), (48, r.count), (64, r.time), (128, r.detail)])

/-- Set a source's SEV, or its FLOOR where the value is lower; the tick's occurrences keep the old one (R542, R545). -/
def setSev (s : State) (src v : Nat) : State :=
  let e := fmGet s.cus.srcs src {}
  let e := { e with sevOld := some (e.sevOld.getD (srcSev s src)), sev := some (max v (srcFloor src)) }
  { s with cus := { s.cus with srcs := fmSet s.cus.srcs src e } }

/-! ### Commands (R578, R579) -/

/-- COUNTER_READ. -/
def counterRead (fn : Nat) (c : Cmd) (s : State) : State × CmdOut :=
  let p := c.params
  let first := numAt p 0 2
  let n := numAt p 2 2
  if n = 0 || n > 256 || first + n > 1427 || !zeroAt p 4 4 then (s, only stMalformed)
  else if fn != 0 && !(List.range n).all (fun i => pageHolds s fn (first + i)) then (s, only stProtection)
  else (s, .done stOk ((List.range n).flatMap (fun i =>
    leBytes 8 (cntSlot s (first + i)).1 ++ leBytes 8 (cntSlot s (first + i)).2)) 0)

/-- COUNTER_CONFIG. -/
def counterConfig (_ : Nat) (c : Cmd) (s : State) : State × CmdOut :=
  let p := c.params
  let first := numAt p 0 2
  let n := numAt p 2 2
  let vm := byteAt p 5
  if n = 0 || first + n > 1427 || byteAt p 4 > 3 || vm > 7 || !zeroAt p 6 2 || !zeroAt p 12 4
     || (bitAt vm 1 && numAt p 8 4 ≥ 2 ^ 24) then (s, only stMalformed)
  else if vm = 0 then (s, only stOk)
  else if isExpert s 0x20 then (s, only stProtection)
  else
    (cntConfigs s first n (if bitAt vm 0 then some (bitAt (byteAt p 4) 0) else none)
      (if bitAt vm 1 then some (numAt p 8 4) else none) (bitAt vm 2 && bitAt (byteAt p 4) 1), only stOk)

/-- USER_PAGE_CONFIG. -/
def userPageConfig (_ : Nat) (c : Cmd) (s : State) : State × CmdOut :=
  let p := c.params
  let t := byteAt p 0
  let n := numAt p 2 2
  let l := (List.range n).map (fun i => numAt p (8 + 2 * i) 2)
  if byteAt p 1 > 1 || n > 252 || !zeroAt p 4 4 || l.any (fun k => decide (k ≥ 1427)) then (s, only stMalformed)
  else if isExpert s 0x20 || !(fnOf s t).present
     || l.any (fun k => decide (k ≥ 403) && (k - 403) / 4 != t) then (s, only stProtection)
  else
    ({ s with mon := { s.mon with pages := fmSet s.mon.pages t { en := byteAt p 1 = 1, slots := l } } }, only stOk)

/-- A Dial after DIAL_CONFIG: source, CLEAR and EN as VALID_MASK selects them (R568, R579). -/
def dialSet (x : Dial) (p : List Byte) : Dial :=
  let vm := byteAt p 8
  let x := if bitAt vm 2 then dialSource x (byteAt p 2) (byteAt p 3) (numAt p 4 4) else x
  let x := if bitAt vm 1 && bitAt (byteAt p 1) 1 then dialClear x else x
  if bitAt vm 0 then { x with en := bitAt (byteAt p 1) 0 } else x

/-- DIAL_CONFIG. -/
def dialConfig (_ : Nat) (c : Cmd) (s : State) : State × CmdOut :=
  let p := c.params
  let d := byteAt p 0
  let vm := byteAt p 8
  let sel := bitAt vm 2
  if d > 15 || byteAt p 1 > 3 || vm > 7 || !zeroAt p 9 7
     || (sel && (byteAt p 2 > 10 || byteAt p 3 > 31 || numAt p 4 4 ≥ 2 ^ dialArgBits (byteAt p 2))) then (s, only stMalformed)
  else if vm = 0 then (s, only stOk)
  else if isExpert s 0x20 then (s, only stProtection)
  else
    (setDial s d (dialSet (dialOf s d) p), only stOk)

/-- DIAL_READ. -/
def dialRead (_ : Nat) (c : Cmd) (s : State) : State × CmdOut :=
  if byteAt c.params 0 > 15 || !zeroAt c.params 1 7 then (s, only stMalformed)
  else (s, .done stOk (dialBytes (dialOf s (byteAt c.params 0))) 0)

/-- PROV_CONFIG. -/
def provConfig (_ : Nat) (c : Cmd) (s : State) : State × CmdOut :=
  let v := numAt c.params 0 8
  if field v 27 5 != 0 || field v 50 14 != 0 then (s, only stMalformed)
  else if isExpert s 0x20 then (s, only stProtection)
  else
    let s := setProv s v
    (s, .done stOk (leBytes 8 (provStatus s)) 0)

/-- PROV_READ. -/
def provRead (_ : Nat) (c : Cmd) (s : State) : State × CmdOut :=
  let n := numAt c.params 4 2
  if n = 0 || n > 64 || !zeroAt c.params 6 2 then (s, only stMalformed)
  else (s, .done stOk ((List.range n).flatMap (fun i => provBytes (provSlot s ((numAt c.params 0 4 + i) % 8192)))) 0)

/-- FAULT_SEV_SET. -/
def faultSevSet (_ : Nat) (c : Cmd) (s : State) : State × CmdOut :=
  let p := c.params
  let src := numAt p 0 2
  if src > 311 || byteAt p 2 > 3 || !zeroAt p 3 5 then (s, only stMalformed)
  else if isExpert s 0x1E then (s, only stProtection)
  else
    let s := setSev s src (byteAt p 2)
    (s, .done stOk (leBytes 8 (srcWord s src)) 0)

/-- FAULT_QUERY. -/
def faultQuery (_ : Nat) (c : Cmd) (s : State) : State × CmdOut :=
  let src := numAt c.params 0 2
  if src > 311 || !zeroAt c.params 2 6 then (s, only stMalformed)
  else (s, .done stOk (leBytes 8 (srcWord s src) ++ leBytes 8 (srcDetail s src)) 0)

/-- FAULT_LOG_READ. -/
def faultLogRead (_ : Nat) (c : Cmd) (s : State) : State × CmdOut :=
  let n := numAt c.params 4 2
  if n = 0 || n > 128 || !zeroAt c.params 6 2 then (s, only stMalformed)
  else (s, .done stOk ((List.range n).flatMap (fun i => logBytes (logSlot s ((numAt c.params 0 4 + i) % 1024)))) 0)

end Sys2Proof.Machine
end

