-- ==== Sys2Proof/Machine/Regulator.lean ====
section
/-! DEFINITION. The Regulator: reference inputs, roles, time exchanges, synchronisation and its loss (R123 to R145). -/

namespace Sys2Proof.Machine

/-! ### Register words (R142, R143, R145) -/

def rglStatus (s : State) : Nat :=
  place [(0, s.rgl.role), (2, b2n s.rgl.synced), (3, b2n s.rgl.holdover), (4, b2n (s.rgl.refOk && s.rgl.role != 0)),
    (5, b2n s.rgl.syncLost), (8, s.rgl.parent), (16, s.rgl.depth)]
def rglOffset (s : State) : Nat := place [(0, ofSigned 32 s.rgl.offset), (32, s.rgl.delay % 2 ^ 32)]
def rglRoot (s : State) : Nat := place [(0, s.rgl.rootCoord), (24, b2n s.rgl.rootValid), (32, s.rgl.changes % 2 ^ 32)]

/-! ### Synchronisation -/

/-- Half of a signed difference, rounded down (R130; log entry 10). -/
def half (i : Int) : Int := i / 2

/-- The instant whose low 56 bits are `v`, nearest to `near` (R158). -/
def instant56 (v near : Nat) : Int :=
  let m : Int := ((2 ^ 56 : Nat) : Int)
  let d := ((v : Int) - (near : Int)) % m
  (near : Int) + (if d < m / 2 then d else d - m)

/-- The rate correction that drives an offset towards 0, at most 10 ppm: 40 ps per 4 µs (R130). -/
def steerFor (offset : Int) : Int := max (-40) (min 40 (-offset * 250))

/-- SYNCED becomes 1 with the time-stamp stepped to `t` (R140). The FABRIC fence of RGL_SYNC_LOST ends (R139, R546). -/
def synchronise (s : State) (t : Nat) : State :=
  let s := { s with
    rgl := { s.rgl with time := t % 2 ^ 64, synced := true, hadSync := true, good := 0, bad := 0, steer := 0, steerLeft := none, frac := 0,
                        holdover := false, holdFrom := none },
    cus := { s.cus with unitFences := without s.cus.unitFences (3, 0) } }
  reportRestored (selectParent s)

/-- RGL_SYNC_LOST: SYNCED is 0, every fabric port is fenced as a link fault and retrained (R139). -/
def syncLost (s : State) : State :=
  let s := fault s 112 (ofSigned 64 s.rgl.offset)
  let s := markSet { s with rgl := { s.rgl with
    synced := false, syncLost := true, good := 0, bad := 0, holdover := false, holdFrom := none } } 2 0
  selectParent (fenceFabric s)

/-- Whether the device synchronises over the links: a member, or a root or backup root without its reference (R140). -/
def syncsByLink (s : State) : Bool := s.rgl.role = 0 || !s.rgl.refOk

/-- One exchange with the parent has yielded an offset and a delay (R130, R139, R140, R143). -/
def exchange (s : State) (offset delay : Int) : State :=
  let s := { s with rgl := { s.rgl with
    offset := offset, delay := delay.toNat,
    holdover := if holds s then false else s.rgl.holdover,
    holdFrom := if holds s then none else s.rgl.holdFrom } }
  if s.rgl.synced then
    let beyond := offset.natAbs > 4 * max s.rgl.skewLimit 20
    let s := { s with rgl := { s.rgl with
      bad := if beyond then s.rgl.bad + 1 else 0,
      steer := if syncsByLink s then steerFor offset else s.rgl.steer,
      steerLeft := if syncsByLink s then none else s.rgl.steerLeft } }
    if s.rgl.bad ≥ 3 && s.rgl.role != 1 then syncLost s else s
  else if syncsByLink s then
    let s := { s with rgl := { s.rgl with
      good := if offset.natAbs ≤ 8 then s.rgl.good + 1 else 0, steer := steerFor offset, steerLeft := none } }
    if s.rgl.good ≥ 3 then synchronise s ((s.rgl.time : Int) - offset).toNat else s
  else s

/-- The root that the device's parent names becomes RGL_ROOT; a change of a known root counts (R145). -/
def learnRoot (s : State) (m : TimeX) : State :=
  if !m.rootValid then s
  else { s with rgl := { s.rgl with
    changes := if s.rgl.rootValid && s.rgl.rootCoord != m.root then s.rgl.changes + 1 else s.rgl.changes,
    rootCoord := m.root, rootValid := true } }

/-- What a TIME_X tells of the neighbour is kept, with the instant of its arrival (R129). -/
def heardTime (s : State) (p : Nat) (m : TimeX) : State :=
  let n : Nbr := { depth := m.depth, root := m.root, rootValid := m.rootValid, exch := m.exch, isParent := m.isParent }
  { s with rgl := { s.rgl with nbrs := fmSet s.rgl.nbrs p n, rxAt := fmSet s.rgl.rxAt p m.recvAt } }

/-- An exchange that carries the root's coordinate with ROOT_VALID has come (R138). -/
def heardRoot (s : State) (m : TimeX) : State :=
  if m.rootValid && m.root = s.rgl.rootCoord then { s with rgl := { s.rgl with rootHeard := now s } } else s

/-- A root that has come back, not yet synchronised, hears of the plane's root: it becomes the backup root (R138; DEDUCED, log entry 142). -/
def formerRoot (s : State) (m : TimeX) : State :=
  if s.rgl.role = 1 && !s.rgl.synced && m.rootValid && !(s.mvt.selfValid && m.root = s.mvt.coord)
  then { s with rgl := { s.rgl with role := 2, rootHeard := now s } } else s

/-- TIME_X: what the neighbour announced is kept; an exchange with the parent yields offset and delay (R129, R130). -/
def timeX (s : State) (p : Nat) (m : TimeX) : State :=
  if p ≥ 12 then s
  else
    let prevRx := fmFind s.rgl.rxAt p
    let lastTx := fmFind s.rgl.txAt p
    let s := bump (heardTime (formerRoot s m) p m) 395
    let s := selectParent s
    if s.rgl.parent != p then heardRoot s m
    else
      let s := heardRoot (if s.rgl.role = 1 then s else learnRoot s m) m
      match prevRx, lastTx with
      | some t2, some t3 =>
        let t1 := instant56 m.prevSend t2
        let t4 := instant56 m.lastRecv t3
        exchange s (half (((t2 : Int) - t1) - (t4 - (t3 : Int)))) (half (((t2 : Int) - t1) + (t4 - (t3 : Int))))
      | _, _ => s

/-- The ROOT_VALID that the device sends: the root's own while its Curator is READY, else its parent's (R138). -/
def rootValidOut (s : State) : Bool :=
  if s.rgl.role = 1 then s.cur.ready else s.rgl.parent != 0xF && (fmGet s.rgl.nbrs s.rgl.parent {}).rootValid

/-- What exchange `num` on a port says (R130, R138, R158). -/
def timeXOut (s : State) (p num : Nat) : TimeX :=
  { prevSend := fmGet s.rgl.txAt p 0 % 2 ^ 56, lastRecv := fmGet s.rgl.rxAt p 0 % 2 ^ 56, exch := num,
    depth := if s.rgl.synced then s.rgl.depth else 0x3F,
    root := if s.rgl.role = 1 then s.mvt.coord else s.rgl.rootCoord,
    rootValid := rootValidOut s, isParent := s.rgl.parent = p, recvAt := 0 }

/-- The port's next time exchange is due: 4 µs after the latest, and at once on a link that is new (R130). -/
def timeXDue (s : State) (p : Nat) : Bool :=
  match fmFind s.rgl.txTick p with
  | none => true
  | some t => decide (now s ≥ t + 4000)

/-- TIME_X_SEND: a time-exchange ordered set leaves an active fabric port (R130, R158, R173). -/
def timeXSend (s : State) (p : Nat) : State :=
  if p ≥ 12 || !bothActive s p || !timeXDue s p then s
  else
    let num := (fmGet s.rgl.txNum p 0 + 1) % 256
    let m := timeXOut s p num
    { s with
      rgl := { s.rgl with txAt := fmSet s.rgl.txAt p s.rgl.time, txNum := fmSet s.rgl.txNum p num, txTick := fmSet s.rgl.txTick p (now s),
                          txParent := if m.isParent then withMember s.rgl.txParent p else without s.rgl.txParent p },
      lne := { s.lne with osOut := fmSet s.lne.osOut p (.timeX m) } }

/-- HOLDOVER_EXPIRY: a holdover of more than 1 ms by a device that follows a parent (R136, R139). -/
def holdoverExpiry (s : State) : State :=
  match s.rgl.holdFrom with
  | some t => if holds s && s.rgl.holdover && now s > t + 1000000 then syncLost s else s
  | none => s

/-! ### The reference (R125, R126, R128, R137, R169, R178) -/

/-- One step of CRC-8 with polynomial 0x07 (R125). -/
def crc8Bit (c : Nat) : Nat := if c ≥ 128 then Nat.xor (c * 2 % 256) 0x07 else c * 2

/-- CRC-8, polynomial 0x07, initial value 0 (R125). -/
def crc8 (l : List Byte) : Nat :=
  l.foldl (fun c b => (List.range 8).foldl (fun c _ => crc8Bit c) (Nat.xor c b.toNat)) 0

/-- TIME_IN_TOD: a good message names the next PPS edge; a count out of step is taken only when the next two
messages bear it out (R125; log entry 11). Members ignore it (R127). -/
def todMessage (s : State) (m : List Byte) : State :=
  let c := numAt m 1 8
  if s.rgl.role = 0 || m.length != 10 || byteAt m 0 != 0x7E || crc8 ((m.drop 1).take 8) != byteAt m 9 || c > 4611686018
  then s
  else
    let take := { s with rgl := { s.rgl with tod := some c, todRecent := [], todNamed := true } }
    match s.rgl.tod with
    | none => take
    | some prev =>
      if c = prev + 1 then take
      else
        let run := match s.rgl.todRecent.getLast? with
          | some x => if c = x + 1 then s.rgl.todRecent ++ [c] else [c]
          | none => [c]
        if run.length ≥ 3 then take else { s with rgl := { s.rgl with todRecent := run } }

/-- A PPS edge has come: it is the second that a message has named, or the one after the last (R125). -/
def countEdge (s : State) : State :=
  { s with rgl := { s.rgl with tod := s.rgl.tod.map (fun c => if s.rgl.todNamed then c else c + 1), todNamed := false } }

/-- The detectors' state is `bits`; a change of REF_OK raises LNE_REF_LOSS on the root and the backup root (R169,
R178). A root that has lost its reference holds over at its own rate (R137). -/
def setRef (s : State) (bits : Nat) : State :=
  let onset := (List.range 4).filter (fun i => bitAt bits i && !bitAt s.lne.refNow i)
  let seen := onset.foldl (fun n i => if bitAt n i then n else n + 2 ^ i) s.lne.refSeen
  let s := onset.foldl (fun s i => markSet s 3 i) { s with lne := { s.lne with refNow := bits, refSeen := seen } }
  let ok := s.rgl.role != 0 && bits = 0
  if ok = s.rgl.refOk then s
  else
    let s := { s with rgl := { s.rgl with
      refOk := ok,
      refLostAt := if ok then none else some (now s),
      steer := if ok then s.rgl.steer else 0,
      steerLeft := if ok then s.rgl.steerLeft else none,
      holdover := if s.rgl.role = 1 then s.rgl.synced && !ok else s.rgl.holdover,
      holdFrom := if s.rgl.role = 1 && s.rgl.synced && !ok then some (now s) else s.rgl.holdFrom } }
    let s := if s.rgl.holdover then noteLevel s 397 1 else s
    if s.rgl.role = 0 then s else fault s 113 bits

/-- TIME_IN_PPS has had no edge within 1.001 s of the latest (R169). -/
def ppsSilent (s : State) : Bool := decide (now s ≥ s.rgl.ppsLast + 1001000000)

/-- REF_SIGNAL_LOSS: the reference inputs' detectors report `bits`. The conditions of REF_10M are those reported, so that each may begin or end
alone; TIME_IN_PPS loses signal only once it has been silent, and what its edges end and its loss of lock follow from them (R169). -/
def refLost (s : State) (bits : Nat) : State :=
  setRef s (Nat.lor (Nat.land s.lne.refNow 3) (Nat.land bits (if ppsSilent s then 13 else 12)))

/-- REF_OK: REF_10M is present and locked; a condition of TIME_IN_PPS ends only if its edges bear it out (R169). -/
def refFound (s : State) : State :=
  setRef s (Nat.land s.lne.refNow ((if ppsSilent s then 1 else 0) + (if s.rgl.ppsStray < 3 then 0 else 2)))

/-- The detectors' state, where it changes. -/
def noteRef (s : State) (bits : Nat) : State := if bits = s.lne.refNow then s else setRef s bits

/-- The edge at `at_` on the oscillator's count is more than 100 ns from the predicted instant, a whole number of seconds after the latest edge
that was not ignored (R169; the prediction is a DESIGN CHOICE, log entry 143). -/
def strayEdge (s : State) (at_ : Nat) : Bool :=
  match s.rgl.ppsAt with
  | none => false
  | some a =>
    let d := (at_ - a) % 4000000000
    decide (at_ < a + 2000000000) || (decide (400 < d) && decide (d + 400 < 4000000000))

/-- A PPS edge that counts. A root or backup root with its reference aligns to it, by a correction that ends when the offset is made good; its
first named edge synchronises it (R123, R125, R128, R140, R143). -/
def alignEdge (s : State) (frac : Nat) : State :=
  let t := countEdge s
  match t.rgl.tod with
  | none => t
  | some sec =>
    if s.rgl.synced then
      let off : Int := (s.rgl.time : Int) / 4 * 4 + (frac % 4 : Nat) - (sec * 4000000000 : Nat)
      { t with rgl := { t.rgl with
        ppsOff := off,
        offset := if s.rgl.role = 1 then off else s.rgl.offset,
        delay := if s.rgl.role = 1 then 0 else s.rgl.delay,
        steer := if s.rgl.refOk then steerFor off else s.rgl.steer,
        steerLeft := if s.rgl.refOk then some (off.natAbs * 1000000) else s.rgl.steerLeft } }
    else if s.rgl.refOk && s.rgl.todNamed then
      let t := synchronise t (sec * 4000000000)
      if s.rgl.role = 1 then
        selectParent { t with rgl := { t.rgl with rootCoord := t.mvt.coord, rootValid := true, offset := 0, delay := 0, ppsOff := 0 } }
      else t
    else t

/-- TIME_IN_PPS: an edge captured `frac` units of 0.25 ns into this tick; a member ignores it (R127). It ends a loss of signal. A stray edge is
ignored; the third in a row is a loss of lock, which lasts until an edge comes when predicted (R169). -/
def ppsEdge (s : State) (frac : Nat) : State :=
  if s.rgl.role = 0 then s
  else
    let at_ := 4 * now s + frac % 4
    let stray := strayEdge s at_
    let n := if stray then s.rgl.ppsStray + 1 else 0
    let s := { s with rgl := { s.rgl with
      ppsLast := now s, ppsStray := n, ppsAt := if stray && n < 3 then s.rgl.ppsAt else some at_ } }
    if stray then noteRef s (Nat.lor (Nat.land s.lne.refNow 14) (if n ≥ 3 then 2 else 0))
    else alignEdge (noteRef s (Nat.land s.lne.refNow 12)) frac

/-- TIME_OUT_PPS: the pin rises in the tick in which the time-stamp crosses a whole second, or up to 2 ns later, for
100 ms (R126). -/
def ppsOut (s : State) : State :=
  if s.rgl.toutEn && s.rgl.synced && s.rgl.time % 4000000000 < 8
  then { s with rgl := { s.rgl with ppsUntil := now s + 100000000 } } else s

/-- The level of TIME_OUT_PPS (R126, R551). -/
def ppsPin (s : State) : Bool :=
  s.rgl.toutEn && s.rgl.synced && decide (now s < s.rgl.ppsUntil) && running s

/-- The root becomes its plane's backup root; the epoch-master role goes with the root role (R79, R137, R138, R140). -/
def yieldRoot (s : State) : State :=
  selectParent { s with
    rgl := { s.rgl with
      role := 2, rootHeard := now s, holdover := s.rgl.synced, holdFrom := if s.rgl.synced then some (now s) else none },
    epo := { s.epo with change := none, strike := none, strikeOld := [] } }

/-- ROOT_HANDOVER: a root without its reference for 10 s yields, if the backup root reports its reference good, of which the spec names no
message: a free value tells it (R137; log entry 163). -/
def rootHandover (s : State) : State :=
  match s.rgl.refLostAt with
  | some t =>
    if s.rgl.role = 1 && !s.rgl.refOk && now s ≥ t + 10000000000 then
      let (good, s) := draw s
      if good % 2 = 0 then s else yieldRoot s
    else s
  | none => s

/-- BACKUP_ROOT_TAKEOVER: the root is fenced in the fault map, or no valid exchange of it has come for 20 µs while
this Curator is READY (R138). It keeps its own time, at its own rate, and what it reports is its own reference (R138, R143). Unacknowledged reports reach the new master, this device (R641). -/
def backupTakeover (s : State) : State :=
  let bank := currentBank s
  let rootFenced := s.rgl.rootValid && bank.map.devices.contains (linearOf s s.rgl.rootCoord)
  if s.rgl.role = 2 && (rootFenced || (s.cur.ready && now s ≥ s.rgl.rootHeard + 20000)) then
    selectParent { s with
      rgl := { s.rgl with
        role := 1, rootCoord := s.mvt.coord, rootValid := true, changes := s.rgl.changes + 1,
        offset := s.rgl.ppsOff, delay := 0,
        steer := if s.rgl.refOk then s.rgl.steer else 0, steerLeft := if s.rgl.refOk then s.rgl.steerLeft else none,
        holdover := s.rgl.synced && !s.rgl.refOk,
        holdFrom := if s.rgl.synced && !s.rgl.refOk then some (now s) else none },
      epo := { s.epo with
        known := s.epo.joined, masterMap := bank.map, reports := s.epo.reports.map (fun r => { r with sentAt := now s }) } }
  else s

end Sys2Proof.Machine
end

