-- ==== Sys2Proof/Machine/Links.lean ====
section
/-! DEFINITION. Lanes and links: flit groups and link-level retry, ordered sets, detectors, training and sleep, and
the register words and fences of a port (R55, R90, R147 to R163, R167 to R179). -/

namespace Sys2Proof.Machine

/-! ### Down, fenced and retrained -/

/-- The bridge is lost: the twin block reacts (R524; `why` 2 for a lane's signal, 1 otherwise); else a fabric port goes down as a link fault (R169). -/
def linkLost (s : State) (p why : Nat) : State :=
  if p = 14 then { portDown s 14 with twn := { (portDown s 14).twn with bridgeLost := some why } } else linkFault s p

/-- LNE_LINK_DOWN and retrain: the port is taken down and trained anew, fenced meanwhile as a link fault; ignored on
the bridge and while the port is administratively fenced (R179). -/
def retrain (s : State) (p : Nat) : State :=
  if p ≥ 12 || s.mvt.adminFence.contains p then s else linkFault s p

/-- Set or clear the administrative fence of a port. A fenced port sends FENCE with reason 1 and is reported; clearing
the fence retrains the link, which stays fenced as after a link fault until the next epoch change (R90, R94, R159,
R172). The bridge is in no plane's fault map (R94). -/
def setAdminFence (s : State) (p : Nat) (on : Bool) : State :=
  if on then
    if s.mvt.adminFence.contains p then s
    else
      let s := portDown s p
      let s := { s with mvt := { s.mvt with adminFence := withMember s.mvt.adminFence p } }
      let s := setLane s p (fencedLane (laneOf s p))
      let s := sendOs s p (.fence s.mvt.coord s.mvt.plane 1)
      if p = 14 then { s with twn := { s.twn with bridgeLost := some 0 } }
      else selectParent (report s p false)
  else if s.mvt.adminFence.contains p then
    let s := { s with mvt := { s.mvt with
      adminFence := without s.mvt.adminFence p,
      linkFence := if p = 14 then s.mvt.linkFence else withMember s.mvt.linkFence p } }
    setLane s p (startLane s p (laneOf s p))
  else s

/-! ### Receive side -/

/-- The next trailer that leaves carries the NAK (R161). -/
def sendNak (s : State) (p : Nat) : State :=
  kick (modLane s p (fun l => { l with nak := true, nakBad := false, nakAt := now s, owed := true })) p

/-- The group with the expected SEQ has failed, as uncorrectable or by R52, and is NAKed: it and every later one are discarded until it arrives
good. RETRY_MAX failures of one SEQ in a row take the link down (R161, R163). -/
def nakGroup (s : State) (p : Nat) : State :=
  let l := laneOf s p
  let row := l.nakRow + 1
  if row ≥ max 1 s.lne.retryMax then
    linkLost (fault s (laneSrc p 1) (p + l.rxSeq * 16)) p 1
  else sendNak (setLane s p { l with nakRow := row }) p

/-- An uncorrectable group is the expected one while no NAK is in force. Under a NAK its SEQ is not known: if the expected group does not arrive
until the NAK is repeated, it has failed again (R163; DEDUCED, log entry 144). -/
def badGroup (s : State) (p : Nat) : State :=
  if (laneOf s p).nak then modLane s p (fun l => { l with nakBad := true }) else nakGroup s p

/-- The credit totals of a trailer: the cumulative count is modulo 1,024 (R153, R155). -/
def takeCredits (l : LanePort) : List (Nat × Nat) → LanePort
  | [] => l
  | (vc, n) :: r =>
    if vc ≤ 9 then
      let old := fmGet l.credIn vc 0
      takeCredits { l with credIn := fmSet l.credIn vc (old + (n + 1024 - old % 1024) % 1024) } r
    else takeCredits l r

/-- Groups that ACK_SEQ acknowledges leave the replay buffer (R162); a direction is idle only from when it is empty (R174). -/
def takeAck (l : LanePort) (ack t : Nat) : LanePort :=
  let r := l.replay.filter (fun g => decide ((g.seq + 4096 - ack - 1) % 4096 < 2048))
  { l with lastAck := ack, replay := r, idleFrom := if l.replay = [] then l.idleFrom else t }

/-- A flit enters the buffer of its channel: a head flit opens a packet, a later flit continues the last one; one of a packet that was discarded
before its tail only returns its credit (R55). An injection-side crossing of the bridge takes the EPOCH bit of this device's current bank (R64). -/
def acceptSlot (s : State) (p : Nat) : RxSlot → State
  | .head line poison =>
    let v := line.toNat
    if p = 14 && isTwinFrame v then
      match twinFrame v with
      | some f => { s with twn := { s.twn with inbox := s.twn.inbox ++ [f] } }
      | none => bump s (182 + 7 * portIx p + 3)
    else
      let r := routeHdr v
      let r := if p = 14 && (r.vc = 0 || r.vc = 3) then { r with epoch := currentBit s } else r
      let k := bufKey p r.vc
      let h : Held := { pkt := { rt := r, tt := transport v, poisoned := poison }, got := 1, arr := now s, due := 1 }
      let b := bufOf s k ++ [h]
      let s := { s with mvt := { s.mvt with swallow := fmErase s.mvt.swallow k } }
      noteLevel (setBuf s k b) (40 + 10 * portIx p + r.vc) (flitsHeld b)
  | .body vc line poison =>
    let k := bufKey p vc
    let grow := fun (h : Held) => { h with
      got := h.got + 1, due := h.due + 1, pkt := { h.pkt with
        payload := h.pkt.payload ++ leBytes 64 line.toNat, poisoned := h.pkt.poisoned || poison } }
    let left := fmGet s.mvt.swallow k 0
    if left > 0 then
      returnCredits { s with mvt := { s.mvt with
        swallow := if left = 1 then fmErase s.mvt.swallow k else fmSet s.mvt.swallow k (left - 1) } } p vc 1
    else match (bufOf s k).reverse with
    | [] => s
    | h :: l =>
      if h.got < h.pkt.rt.len then
        let b := (grow h :: l).reverse
        noteLevel (setBuf s k b) (40 + 10 * portIx p + vc) (flitsHeld b)
      else s

def slotOk (p : Nat) : RxSlot → Bool
  | .head line _ => (p == 14 && isTwinFrame line.toNat) || headOk line.toNat
  | .body _ _ _ => true

/-- A decoded group: its trailer is used if it is good; a non-empty group is accepted in SEQ order when every head flit passes R52, and NAKed
otherwise. On a NAK every stored group is sent again in order (R154 to R163). -/
def takeGroup (s : State) (p : Nat) (g : FlitGroup) : State :=
  let l := laneOf s p
  if l.rx != .active then s
  else
    let s := if g.corrected = 0 then s else bumpBy s (182 + 7 * portIx p) g.corrected
    if !g.good then badGroup (bump s (182 + 7 * portIx p + 1)) p
    else
      let s := modLane s p (fun l => takeAck (takeCredits l g.credits) g.ackSeq (now s))
      let s := if g.nak then transmit (bumpBy s (182 + 7 * portIx p + 2) (laneOf s p).replay.length) p true else kick s p
      if g.slots = [] then s
      else if g.seq != (laneOf s p).rxSeq then (if (laneOf s p).nak then s else sendNak s p)
      else if !g.slots.all (slotOk p) then nakGroup s p
      else
        let s := modLane s p (fun l => { l with
          rxSeq := (l.rxSeq + 1) % 4096, nak := false, nakRow := 0, nakBad := false, owed := true })
        kick (g.slots.foldl (fun s x => acceptSlot s p x) s) p

/-- NAK_REPEAT: every 2 µs until the expected group arrives (R161). -/
def nakRepeat (s : State) (p : Nat) : State :=
  let l := laneOf s p
  if l.nak && now s ≥ l.nakAt + 2000 then (if l.nakBad then nakGroup s p else sendNak s p) else s

/-! ### Detectors (R150, R169) -/

def laneCount (p : Nat) : Nat := if p = 14 then 8 else 4

/-- A lane has lost signal or lock: the loss lasts from now on, unless it was lost already (R169). -/
def losing (lane : Nat) (lock : Bool) (t : Nat) (l : LanePort) : LanePort :=
  { l with
    los := if lock then l.los else withMember l.los lane, lol := if lock then withMember l.lol lane else l.lol,
    lossAt := fmSet l.lossAt (2 * lane + b2n lock) (fmGet l.lossAt (2 * lane + b2n lock) t) }

/-- LANE_SIGNAL_LOSS: a lane loses signal, or with `lock` its lock; a bridge lane signals the twin block at once. -/
def signalLoss (s : State) (p lane : Nat) (lock : Bool) : State :=
  let s := modLane s p (losing lane lock (now s))
  if p = 14 && bridgeReady s then linkLost s 14 2 else s

/-- The lanes of a fabric port without signal or lock, one bit for each (R169). -/
def lostLanes (l : LanePort) : Nat := (List.range 4).foldl (fun n i => n + b2n (l.los.contains i || l.lol.contains i) * 2 ^ i) 0

/-- LNE_LINK_DOWN: a loss on any lane that has lasted 500 ns takes the port down (R147, R169). -/
def linkDown (s : State) (p : Nat) : State :=
  let l := laneOf s p
  if p < 12 && linkActive s p && l.lossAt.any (fun kv => decide (now s ≥ kv.2 + 500)) then
    linkFault (fault s (laneSrc p 0) (p + lostLanes l * 16)) p
  else s

/-- A lane's episode ends: its signal, or with `lock` its lock, is back (R169). -/
def clearLoss (lane : Nat) (lock : Bool) (l : LanePort) : LanePort :=
  { l with
    los := if lock then l.los else without l.los lane, lol := if lock then without l.lol lane else l.lol,
    lossAt := fmErase l.lossAt (2 * lane + b2n lock) }

/-- The block lock that sync headers leave: a lane that loses it has lost lock, and one that gains it has lock again (R150, R169). -/
def relock (s : State) (p : Nat) (l : LanePort) : State :=
  let old := (laneOf s p).lock
  let lost := old.filter (fun i => !l.lock.contains i)
  let l := lost.foldl (fun l i => losing i true (now s) l) l
  let s := setLane s p ((l.lock.filter (fun i => !old.contains i)).foldl (fun l i => clearLoss i true l) l)
  if p = 14 && lost != [] && bridgeReady s then linkLost s 14 2 else s

/-- The sync headers of a group's blocks keep or lose the block lock of their lanes (R148, R150). -/
def watchHeads (s : State) (p : Nat) (g : RawGroup) : State :=
  let heads := (g.lanes.map (fun x => (receiveBlocks x).map (·.1))).zipIdx
  relock s p (heads.foldl (fun l x => x.1.foldl (trackHead x.2) l) (laneOf s p))

/-- FLIT_GROUP_RECEIVE: the sync headers of a group's blocks are watched, and its lanes are decoded (R148 to R154). -/
def groupReceive (s : State) (p : Nat) (g : RawGroup) : State := takeGroup (watchHeads s p g) p (decodeGroup p g)

/-! ### Training (R170 to R172) -/

/-- What the port says of itself in TRAIN (R158). -/
def trainMsg (s : State) (p : Nat) : TrainMsg :=
  { port := p, coord := s.mvt.coord, coordValid := s.mvt.selfValid, plane := s.brd.straps.plane, phase := (laneOf s p).phase }

/-- The port's state after an event of training: from phase 2 on, TRAIN sets name each new phase (R170). -/
def trainTo (s : State) (p : Nat) (l : LanePort) : State :=
  let was := (laneOf s p).phase
  let s := setLane s p l
  if l.phase = was || l.phase < 2 then s else sendOs s p (.train (trainMsg s p))

/-- The entry of the table in use for a port's logical lane, by its physical lane (R146, R164, R166). -/
def entryOf (s : State) (p lane : Nat) : LaneEntry :=
  let n := laneCount p
  fmGet s.lne.table (4 * (if p = 14 then 12 else p) + (if bitAt s.lne.rev (if p = 14 then 12 else p) then n - 1 - lane else lane)) {}

/-- The receiver settings from which adaptation starts: RX_CTLE adjusted by LOSS. The bridge's stay as the table has them (R167, R168). -/
def startEq (s : State) (p lane : Nat) : LaneEq :=
  let e := entryOf s p lane
  { ctle := if p = 14 then e.rxCtle else Config.ctleStart e.rxCtle e.loss }

/-- SIGNAL_DETECT: a lane receiver detects signal; with every lane, DETECT ends and the receivers start from their first settings. The bridge's
are fixed, and it goes on to BLOCK at once (R167, R168, R170). -/
def signalDetect (s : State) (p lane : Nat) : State :=
  let l := clearLoss lane false (laneOf s p)
  if l.tx == .training && l.phase == 0 && lane < laneCount p then
    let sg := withMember l.signal lane
    if sg.length ≥ laneCount p then
      trainTo s p { l with
        signal := sg, phase := if p = 14 then 2 else 1, eqAt := now s,
        eq := (List.range (laneCount p)).map (fun i => (i, startEq s p i)) }
    else setLane s p { l with signal := sg }
  else setLane s p l

/-- A setting moves toward another by one step at most. -/
def stepTo (a b : Int) : Int := if a < b then a + 1 else if b < a then a - 1 else a

/-- The settings a lane's loop has come to: any in ADAPT; in operation each at most one step from before (R167). -/
def moveEq (free : Bool) (old new : LaneEq) : LaneEq :=
  if free then new
  else {
    ctle := (stepTo old.ctle new.ctle).toNat, sampling := stepTo old.sampling new.sampling,
    dfe := (List.range 12).map (fun i => stepTo (old.dfe.getD i 0) (new.dfe.getD i 0)) }

/-- A lane's figure of merit, and since when it has been below FOM_WARN (R167). -/
def noteFom (warn t : Nat) (l : LanePort) (lane fom : Nat) : LanePort :=
  if fom < warn then { l with fom := fmSet l.fom lane fom, lowFrom := fmSet l.lowFrom lane (fmGet l.lowFrom lane t) }
  else { l with fom := fmSet l.fom lane fom, lowFrom := fmErase l.lowFrom lane, lowTold := without l.lowTold lane }

/-- ADAPT: what the loops of a fabric port's lanes have come to, figure of merit and settings. The phase ends when every lane has reached FOM_MIN;
in operation the settings move once in 100 µs (R167, R170). -/
def adapt (s : State) (p : Nat) (lanes : List (Nat × LaneEq)) : State :=
  if p ≥ 12 then s
  else
    let l := laneOf s p
    let l := (List.range 4).foldl (fun l i => noteFom s.lne.fomWarn (now s) l i ((lanes.getD i (0, {})).1 % 256)) l
    let inPhase := l.tx == .training && l.phase == 1
    let moves := inPhase || (l.rx == .active && decide (now s ≥ l.eqAt + 100000))
    let l := if moves then { l with
        eqAt := now s, eq := (List.range 4).map (fun i => (i, moveEq inPhase (fmGet l.eq i {}) (lanes.getD i (0, {})).2)) } else l
    if inPhase && (List.range 4).all (fun i => decide (fmGet l.fom i 0 ≥ s.lne.fomMin))
    then trainTo s p { l with adapted := true, phase := 2 } else setLane s p l

/-- Every lane has block lock and its logical number, and their skew is at most 32 blocks (R170). -/
def mapped (p : Nat) (l : LanePort) : Bool :=
  let n := laneCount p
  let skews := (List.range n).map (fun i => fmGet l.skew i 0)
  (List.range n).all (fun k => l.lock.contains k && (List.range n).any (fun i => fmFind l.laneMap i == some k))
  && decide (skews.foldl max 0 ≤ skews.foldl min (skews.headD 0) + 32)

/-- BLOCK ends once the lanes are mapped and deskewed (R170). -/
def endBlock (s : State) (p : Nat) : State :=
  let l := laneOf s p
  if l.tx == .training && l.phase == 2 && mapped p l then trainTo s p { l with phase := 3 } else s

/-- BLOCK_LOCK: sync headers of a lane that seeks block lock, and its blocks' skew (R150, R170). -/
def blockLock (s : State) (p lane : Nat) (heads : List Nat) (skew : Nat) : State :=
  if lane ≥ laneCount p then s
  else endBlock (modLane (relock s p (heads.foldl (trackHead lane) (laneOf s p))) p (fun l => { l with skew := fmSet l.skew lane skew })) p

/-- The Curator tells its twin, over the bridge, its plane's fault map, while both Curators are READY (R77). -/
def tellMap (s : State) : State :=
  if bridgeReady s && s.cur.ready && s.twn.curReady then sendCur s (some s.mvt.coord) (.faultMap (currentBank s).map) else s

/-- The bridge is READY: what fenced it is over, the sequence numbers start at 0, and a HELLO goes out. The Curator tells its
twin the plane's fault map once the twin says that its Curator is READY (R77, R517, R520, R521). -/
def bridgeUp (s : State) : State :=
  queueFrame { s with
    mvt := { s.mvt with linkFence := if peerAgrees s 14 then without s.mvt.linkFence 14 else s.mvt.linkFence },
    twn := { s.twn with txSeq := 0, rxSeq := 0, confirmed := 0, curReady := false, heard := now s } }
    (frameOf { s with twn := { s.twn with txSeq := 0, rxSeq := 0 } } 1 (Config.serial % 2 ^ 64) none)

/-- A port is READY: both directions are ACTIVE, and its retraining command may end. A fabric port that stays fenced
as after a link fault reports its link restored once the device is synchronised and placed (R170, R172, R180). -/
def portReady (s : State) (p : Nat) : State :=
  let s := modLane s p (fun l => { l with
    tx := .active, rx := .active, trainFrom := none, retryAt := none, failSeries := false, idleFrom := now s })
  let s := wakeCmds s (fun _ w => w == .laneTrain p || (p == 14 && w == .trainBridge)) stOk []
  let s := if s.mvt.selfValid then sendCur s (some (steppedBack s s.mvt.coord (Nat.xor p 1))) (.coordinate s.mvt.coord) else s
  if p = 14 then bridgeUp s else if restorable s p then report s p true else s

/-- LNE_PORT_PEER (R179). -/
def lanePeer (l : LanePort) : Nat :=
  place [(0, l.peerPort), (4, l.peerCoord), (28, b2n l.peerValid), (29, l.peerPlane)]

/-- IDENT_CHECK (R171): the partner's port and plane are as the wiring has them. -/
def identOk (s : State) (p : Nat) (m : TrainMsg) : Bool :=
  if p = 14 then m.port == 14 && m.plane != s.brd.straps.plane
  else m.port == Nat.xor p 1 && m.plane == s.brd.straps.plane

/-- LNE_MISWIRE of a port whose other end's coordinate is wrong; the port stays fenced (R609, R610). -/
def miswired (s : State) (p : Nat) : State :=
  let s := modLane s p (fun l => { l with miswire := true })
  selectParent (fault (markSet (fenceLink s p) 1 p) (laneSrc p 3) (p + lanePeer (laneOf s p) % 2 ^ 30 * 2 ^ 10))

/-- What a TRAIN says of the other end is kept (R158, R179). -/
def heardTrain (l : LanePort) (m : TrainMsg) : LanePort :=
  { l with peerPort := m.port % 16, peerCoord := m.coord % 2 ^ 24, peerValid := m.coordValid, peerPlane := m.plane % 2 }

/-- The partner's TRAIN ends its FENCE: from then on the port is fenced as after a link fault (R94, R159). -/
def endPeerFence (s : State) (p : Nat) : State :=
  if !(laneOf s p).peerFence && !s.mvt.peerFence.contains p then s
  else modLane { s with mvt := { s.mvt with
      peerFence := without s.mvt.peerFence p,
      linkFence := if p = 14 then s.mvt.linkFence else withMember s.mvt.linkFence p } } p (fun l => { l with peerFence := false })

/-- TRAIN: the partner's identity is kept. In BLOCK its lanes' numbers map them; IDENT is checked, and a port that fails it stays down (R171); with
phase 4 from both ends the port is READY. After a FENCE, training starts with the first TRAIN. A sleeping receiver wakes on phase 4 (R158, R159,
R170, R171, R175). -/
def train (s : State) (p : Nat) (m : TrainMsg) (lanes : List Nat) : State :=
  let agreed := peerAgrees s p
  let s := modLane s p (heardTrain · m)
  let s := if agreed && !peerAgrees s p then miswired s p else s
  let fencedBefore := (laneOf s p).peerFence
  let s := endPeerFence s p
  let l := laneOf s p
  if !mayTrain s p || s.mvt.adminFence.contains p then s
  else if fencedBefore then setLane s p (restartLane l (now s))
  else if l.rx == .sleep && m.phase = 4 then setLane s p { l with rx := .active }
  else if l.tx != .training then s
  else if l.phase = 2 then
    endBlock (setLane s p { l with laneMap := (lanes.take (laneCount p)).zipIdx.map (fun x => (x.2, x.1)) }) p
  else if l.phase < 3 then s
  else if l.phase = 3 then
    if identOk s p m then
      let s := trainTo s p { l with phase := 4 }
      if m.phase = 4 then portReady s p else s
    else
      let s := setLane s p { l with tx := .down, rx := .down, miswire := true, trainFrom := none, retryAt := none }
      let s := wakeCmds s (fun _ w => w == .laneTrain p || (p == 14 && w == .trainBridge)) stTimeout []
      fault (markSet s 1 p) (laneSrc p 3) (p + lanePeer l % 2 ^ 30 * 2 ^ 10)
  else if m.phase = 4 then portReady s p
  else s

/-- The sum of a port's phase bounds, in ticks (R170). -/
def trainBound (p : Nat) : Nat := if p = 14 then 270000 else 4170000

/-- A port whose training has failed: it is down, and is trained again in 100 ms. The 100 ms run from the failure, since R170 does not say from
when (DESIGN CHOICE, log entry 145). -/
def trainFailed (l : LanePort) (t : Nat) : LanePort :=
  { l with tx := .down, rx := .down, trainFrom := none, retryAt := some (t + 100000000), failSeries := true }

/-- TRAINING_TIMEOUT: a port that is not READY within its bounds has failed; it starts again from DETECT every
100 ms (R170). A LANE_RETRAIN then ends with TIMEOUT (R180). -/
def trainingTimeout (s : State) (p : Nat) : State :=
  let l := laneOf s p
  if !mayTrain s p || s.mvt.adminFence.contains p then s
  else match l.trainFrom, l.retryAt with
    | some t, _ =>
      if l.tx == .training && now s ≥ t + trainBound p then
        let s' := setLane s p (trainFailed l (now s))
        let s' := wakeCmds s' (fun _ w => w == .laneTrain p || (p == 14 && w == .trainBridge)) stTimeout []
        if l.failSeries then s' else fault s' (laneSrc p 2) (p + l.phase * 16)
      else s
    | none, some t =>
      if now s ≥ t then setLane s p { restartLane l (now s) with failSeries := l.failSeries } else s
    | none, none => s

/-- LNE_FOM_LOW: a fabric lane's figure of merit as it is; the source is raised when it has stayed below FOM_WARN for 1 ms, once (R167). -/
def fomLow (s : State) (p lane fom : Nat) : State :=
  if p ≥ 12 || lane ≥ 4 then s
  else
    let s := modLane s p (fun l => noteFom s.lne.fomWarn (now s) l lane (fom % 256))
    let l := laneOf s p
    match fmFind l.lowFrom lane with
    | none => s
    | some t =>
      if now s < t + 1000000 || l.lowTold.contains lane then s
      else fault (setLane s p { l with lowTold := withMember l.lowTold lane }) (laneSrc p 5) (p + lane * 16 + fom % 256 * 256)

/-! ### Ordered sets received: FENCE and SLEEP -/

/-- The port is down until the partner's TRAIN starts (R159). It sends no FENCE of its own, unless it is administratively fenced: R159 lets both
readings stand, and two ends that fenced each other so would never train (DESIGN CHOICE, log entry 146). -/
def fenceDown (s : State) (p : Nat) : State :=
  modLane (portDown s p) p (fun l => { l with
    tx := if s.mvt.adminFence.contains p then .safe else .down, rx := .down, trainFrom := none, peerFence := true })

/-- FENCE: the receiver fences its own port at once; the port stays down until TRAIN starts (R159). On the bridge
a FENCE with reason 1 is no cause of death (R524). -/
def fenceReceived (s : State) (p reason : Nat) : State :=
  let l := laneOf s p
  if l.peerFence then s
  else
    let was := fenced s p
    let s := fault (fenceDown s p) (laneSrc p 4) (p + reason % 256 * 16)
    if p = 14 then { s with twn := { s.twn with bridgeLost := some (if reason = 1 then 0 else 1) } }
    else
      let s := { s with mvt := { s.mvt with peerFence := withMember s.mvt.peerFence p } }
      selectParent (if was then s else report s p false)

/-- SLEEP: the receiver puts itself to sleep (R174). -/
def sleepReceived (s : State) (p : Nat) : State :=
  modLane s p (fun l => if p < 12 && l.rx == .active then { l with rx := .sleep } else l)

/-- SLEEP_EN is set anew: its time of SLEEP_IDLE begins (R174). -/
def sleepOn (on : Bool) (t : Nat) (l : LanePort) : LanePort := if on && !l.sleepEn then { l with idleFrom := t } else l

/-- SLEEP_ENTRY: the transmit direction has met the conditions of R174 for SLEEP_IDLE µs. -/
def sleepEntry (s : State) (p : Nat) : State :=
  let l := laneOf s p
  if p < 12 && l.tx == .active && l.sleepEn && !txBusy l
     && now s ≥ l.idleFrom + max 1 l.sleepIdle * 1000
     && s.rgl.parent != p && !s.rgl.txParent.contains p && !(fmGet s.rgl.nbrs p {}).isParent then
    noteLevel (sendOs (setLane s p { l with tx := .sleep, sleptAt := some (now s) }) p .sleep) (182 + 7 * p + 5) 1
  else s

/-- SLEEP_WAKE: a flit, a credit count or an acknowledgement is due; one that fell due in the tick of the decision to sleep has kept the direction
ACTIVE (R174, R175). -/
def sleepWake (s : State) (p : Nat) : State :=
  let l := laneOf s p
  if l.tx == .sleep && txBusy l then
    if l.sleptAt == some (now s) then kick s p
    else
      kick (bump (sendOs (setLane s p { l with tx := .active, sleptAt := none, idleFrom := now s }) p
        (.train { trainMsg s p with phase := 4 })) (182 + 7 * portIx p + 6)) p
  else s

/-- An ordered set of the type that a row names; one of no type, or a TIME_X with a bad CRC, is ignored and counted (R158). -/
def osReceive (s : State) (p : Nat) (lanes : List Nat) (act : OrderedSet → State) : State :=
  match osRead lanes with
  | none => bump s (182 + 7 * portIx p + 3)
  | some o => act o

/-- TRAIN: what the sets on the lanes say (R158, R170). -/
def trainSet (s : State) (p : Nat) (lanes : List Nat) : State :=
  osReceive s p lanes (fun o => match o with
    | .train m => train s p m (lanes.map (fun v => field v 8 6))
    | _ => s)

/-- TIME_X: its instant of arrival is captured `frac` units of 0.25 ns into this tick (R124, R130). -/
def timeSet (s : State) (p : Nat) (lanes : List Nat) (frac : Nat) : State :=
  osReceive s p lanes (fun o => match o with
    | .timeX m => timeX s p { m with recvAt := s.rgl.time / 4 * 4 + frac % 4 }
    | _ => s)

/-- FENCE: what the set says (R158, R159). -/
def fenceSet (s : State) (p : Nat) (lanes : List Nat) : State :=
  osReceive s p lanes (fun o => match o with
    | .fence _ _ reason => fenceReceived s p reason
    | _ => s)

/-- SLEEP (R158, R174). -/
def sleepSet (s : State) (p : Nat) (lanes : List Nat) : State :=
  osReceive s p lanes (fun o => match o with
    | .sleep => sleepReceived s p
    | _ => s)

/-! ### Register words (R176 to R179) -/

def laneStCode : LaneSt → Nat
  | .down => 0
  | .training => 1
  | .active => 2
  | .sleep => 3
  | .safe => 4

def bitList (l : List Nat) (n : Nat) : Nat := (List.range n).foldl (fun a i => a + b2n (l.contains i) * 2 ^ i) 0

def lnePortStatus (s : State) (p : Nat) : Nat :=
  let l := laneOf s p
  place [(0, laneStCode l.tx), (3, laneStCode l.rx), (6, bitList l.los 8), (14, bitList l.lol 8), (22, b2n l.peerFence),
    (23, b2n l.miswire), (24, l.phase)]
def lnePortCfg (s : State) (p : Nat) : Nat :=
  place [(0, b2n ((laneOf s p).sleepEn && p != 14)), (1, (laneOf s p).sleepIdle)]
def lnePortFom (s : State) (p : Nat) : Nat :=
  if p = 14 then 0 else place ((List.range 4).map (fun i => (8 * i, fmGet (laneOf s p).fom i 0)))
def lnePortPeer (s : State) (p : Nat) : Nat := lanePeer (laneOf s p)
def lnePortRetry (s : State) (p : Nat) : Nat :=
  place [(0, (laneOf s p).nextSeq), (12, (laneOf s p).lastAck), (24, (laneOf s p).replay.length)]
def lneCfg (s : State) : Nat := place [(0, s.lne.fomMin), (8, s.lne.fomWarn), (16, s.lne.retryMax)]
def lneTableStatus (s : State) : Nat :=
  place [(0, b2n s.lne.loaded), (1, b2n s.lne.defaults), (8, s.lne.version), (32, s.lne.crc)]
def lneRefStatus (s : State) : Nat := place [(0, s.lne.refNow), (8, s.lne.refSeen)]

/-- MVT_PORT_CFG (R90). -/
def mvtPortCfg (s : State) (p : Nat) : Nat :=
  place [(0, b2n (s.mvt.adminFence.contains p)), (1, b2n (fenced s p)), (4, if p < 12 then p / 2 else 0xF), (8, if p < 12 then p % 2 else 0)]

/-! ### The lane events -/

end Sys2Proof.Machine
end

