-- ==== Sys2Proof/Machine/Routes.lean ====
section
/-! DEFINITION. Route banks and the tables that follow from a fault map: dimension order (R53, R62), the up/down safe
route (R75), fenced destinations (R77), and the register words of the Movement (R86 to R89). -/

namespace Sys2Proof.Machine

/-! ### Banks -/

def setBank (s : State) (bit : Nat) (b : RouteBank) : State :=
  { s with mvt := if bit = 0 then { s.mvt with bank0 := b } else { s.mvt with bank1 := b } }

/-- The mode that a fault map asks for: dimension order when it is empty (R94). -/
def modeOf (m : FaultMap) : Nat := if m.links = [] && m.devices = [] then 0 else 1

/-! ### Dimension order -/

/-- The remaining path in dimension `d` still has the ring's wrap link ahead of this hop, beyond the hop itself (R62). -/
def wrapAhead (s : State) (here dst d dirBit : Nat) : Bool :=
  let n := dimSize s d
  let x := posOf here d
  let y := posOf dst d
  if dirBit = 0 then decide (y < x) && x + 1 != n
  else decide (x < y) && x != 0

/-! ### The safe route (R75) -/

/-- The link from device `n` through port `p` is open in a fault map: the dimension has links, and neither end is fenced. -/
def linkOpen (s : State) (m : FaultMap) (n p : Nat) : Bool :=
  let k := linearOf s (neighbour s (coordOf s n) p)
  decide (dimSize s (p / 2) > 1) && !m.links.contains (n, p) && !m.links.contains (k, Nat.xor p 1)
  && !m.devices.contains n && !m.devices.contains k

def across (s : State) (n p : Nat) : Nat := linearOf s (neighbour s (coordOf s n) p)

/-- Hop distances over open links, layer by layer, from the devices reached so far. -/
def levelLayers (s : State) (m : FaultMap) : Nat → Nat → List Nat → FMap Nat → FMap Nat
  | 0, _, _, acc => acc
  | fuel + 1, k, front, acc =>
    let next := (front.flatMap (fun n =>
      ((List.range 12).filter (linkOpen s m n)).map (across s n))).filter (fun n => (fmFind acc n).isNone)
    if next = [] then acc
    else levelLayers s m fuel (k + 1) next.eraseDups (next.foldl (fun a n => fmSet a n (k + 1)) acc)

/-- The tree root: the unfenced device with the lowest linear number (R75). -/
def treeRoot (s : State) (m : FaultMap) : Option Nat :=
  (List.range (nodeCount s)).find? (fun n => !m.devices.contains n)

/-- Each device's level: its hop distance from the tree root (R75). -/
def levels (s : State) (m : FaultMap) : FMap Nat :=
  match treeRoot s m with
  | none => []
  | some r => levelLayers s m (nodeCount s) 0 [r] [(r, 0)]

/-- The link from `a` to `b` is up: toward the lower level, then toward the lower linear number (R75). -/
def isUp (lv : FMap Nat) (a b : Nat) : Bool :=
  let la := fmGet lv a 0
  let lb := fmGet lv b 0
  decide (lb < la) || (la == lb && decide (b < a))

/-- The state after a legal hop from `(n, phase)` through `p`; none where the hop is not legal (R75). -/
def legalHop (s : State) (m : FaultMap) (lv : FMap Nat) (n phase p : Nat) : Option Nat :=
  if !linkOpen s m n p || (fmFind lv n).isNone then none
  else
    let k := across s n p
    if isUp lv n k then (if phase = 0 then some (2 * k) else none) else some (2 * k + 1)

/-- Distances to the destination over legal paths, by `2 * device + phase`, layer by layer backwards (R75). -/
def distLayers (s : State) (m : FaultMap) (lv : FMap Nat) : Nat → Nat → FMap Nat → FMap Nat
  | 0, _, acc => acc
  | fuel + 1, k, acc =>
    let fresh := ((List.range (2 * nodeCount s)).filter (fun x => (fmFind acc x).isNone)).filter (fun x =>
      (List.range 12).any (fun p =>
        match legalHop s m lv (x / 2) (x % 2) p with
        | some y => fmFind acc y == some k
        | none => false))
    if fresh = [] then acc else distLayers s m lv fuel (k + 1) (fresh.foldl (fun a x => fmSet a x (k + 1)) acc)

/-- The next port of the safe route from device `n` in a phase: a shortest legal path, lowest port first (R75). -/
def safePort (s : State) (m : FaultMap) (n dest phase : Nat) : Option Nat :=
  let lv := levels s m
  let dist := distLayers s m lv (2 * nodeCount s) 0 (fmSet (fmSet [] (2 * dest) 0) (2 * dest + 1) 0)
  (List.range 12).foldl (fun best p =>
    match legalHop s m lv n phase p with
    | none => best
    | some y =>
      match fmFind dist y, best with
      | none, _ => best
      | some _, none => some p
      | some d, some b =>
        match legalHop s m lv n phase b with
        | some z => if d < fmGet dist z 0 then some p else best
        | none => some p) none

/-- The device sends over a down link when it sends through `p` (R75). -/
def downLink (s : State) (m : FaultMap) (n p : Nat) : Bool := !isUp (levels s m) n (across s n p)

/-! ### Table entries and fenced destinations -/

/-- An entry of a bank's table as ROUTE_TABLE_READ gives it (R96): up port, down port, fenced, mode. -/
def tableEntry (s : State) (b : RouteBank) (dest : Nat) : Nat × Nat × Nat × Nat :=
  let self := linearOf s s.mvt.coord
  let f := deviceFenced b dest
  if dest = self then (0xFE, 0xFE, b2n f, if b.st = .idle then 2 else b.mode)
  else if b.st = .idle then (0xFF, 0xFF, b2n f, 2)
  else if f then (0xFF, 0xFF, 1, b.mode)
  else if b.mode = 0 then
    let c := coordOf s dest
    ((orderPort (dirBits s s.mvt.coord c) s.mvt.coord c).getD 0xFF, 0xFF, 0, 0)
  else ((safePort s b.map self dest 0).getD 0xFF, (safePort s b.map self dest 1).getD 0xFF, 0, 1)

/-! ### Register words (R86 to R89) -/

def mvtShape (s : State) : Nat :=
  if s.mvt.shape = [] then 0
  else place [(0, (List.range 6).foldl (fun n d => n * 16 + s.mvt.shape.getD d 0) 0), (24, 1)]
def mvtSelf (s : State) : Nat :=
  place [(0, s.mvt.coord), (24, s.mvt.plane), (25, b2n s.mvt.selfValid), (32, if s.mvt.selfValid then linearOf s s.mvt.coord else 0)]
def mvtRouteCfg (s : State) : Nat := place [(0, s.mvt.escDelay), (10, b2n s.mvt.detourEn), (11, s.mvt.detourWait)]
def mvtEpoch (s : State) : Nat :=
  let b := currentBank s
  let o := bankOf s (1 - currentBit s)
  place [(0, b.number % 2 ^ 32), (32, b.number % 2), (33, b2n (o.st = .staged)), (34, b2n (o.st = .old)), (35, b.mode)]
def mvtPace (s : State) : Nat := place [(0, s.mvt.period), (16, s.mvt.coreMv), (32, s.mvt.tj), (48, s.mvt.paceSeq)]

/-- The twin is SYNCING or PAIRED, so that port 14 cannot be fenced (R90, R94). -/
def twinPaired (s : State) : Bool := s.twn.state == .syncing || s.twn.state == .paired

end Sys2Proof.Machine
end

