-- ==== Sys2Proof/Machine/RouteCmds.lean ====
section
/-! DEFINITION. Routing commands, group 0x06xx (R91 to R96), lane commands, group 0x08xx (R180), the lane table
(R164 to R166), and the register writes that fence or retrain a port (R90, R179). -/

namespace Sys2Proof.Machine

/-- The 64 bytes of ROUTE_QUERY (R92). -/
def routeReply (s : State) : List Byte :=
  leBytes 4 (mvtShape s) ++ leBytes 8 (mvtSelf s) ++ leBytes 8 (mvtEpoch s) ++ leBytes 8 s.mvt.epochT ++ leBytes 8 s.mvt.epochR
    ++ leBytes 2 ((List.range 16).foldl (fun n p => n + b2n (fenced s p) * 2 ^ p) 0)
    ++ leBytes 4 (currentBank s).map.devices.length ++ leBytes 22 0

/-- ROUTE_QUERY (R92). -/
def routeQuery (_ : Nat) (_ : Cmd) (s : State) : State × CmdOut :=
  (s, .done stOk (routeReply s) 0)

/-- ROUTE_CONFIG (R93, R640). -/
def routeConfig (_ : Nat) (c : Cmd) (s : State) : State × CmdOut :=
  let p := c.params
  let vm := byteAt p 5
  if vm > 7 || !zeroAt p 6 2 || (bitAt vm 0 && numAt p 0 2 > 1023) || (bitAt vm 1 && numAt p 2 2 > 1023)
     || (bitAt vm 2 && byteAt p 4 > 1) then (s, only stMalformed)
  else if vm != 0 && isExpert s 0x12 then (s, only stProtection)
  else
    ({ s with mvt := { s.mvt with
        escDelay := if bitAt vm 0 then numAt p 0 2 else s.mvt.escDelay,
        detourWait := if bitAt vm 1 then numAt p 2 2 else s.mvt.detourWait,
        detourEn := if bitAt vm 2 then byteAt p 4 = 1 else s.mvt.detourEn } }, only stOk)

/-- ROUTE_PORT_FENCE (R94). In expert mode PROTECTION is found first, for which R94 states no order (DESIGN CHOICE, log entry 85). Port 14 takes no
change while the twins are SYNCING or PAIRED. -/
def routePortFence (_ : Nat) (c : Cmd) (s : State) : State × CmdOut :=
  let p := c.params
  let port := byteAt p 0
  if !hasLanes port || byteAt p 1 > 1 || !zeroAt p 2 6 then (s, only stMalformed)
  else if isExpert s 0x12 then (s, only stProtection)
  else if port = 14 && twinPaired s then (s, only stNoResource)
  else (setAdminFence s port (byteAt p 1 = 1), only stOk)

/-- A change of route epoch is in progress on the plane, as far as this device knows (R82, R95). -/
def changeInProgress (s : State) : Bool :=
  s.epo.change.isSome || (bankOf s (1 - currentBit s)).st == .staged || (bankOf s (1 - currentBit s)).st == .old

/-- ROUTE_EPOCH_CHANGE: asks the epoch master, and completes at this device's switch (R95). -/
def routeEpochChange (_ : Nat) (c : Cmd) (s : State) : State × CmdOut :=
  if !zeroAt c.params 0 8 then (s, only stMalformed)
  else if changeInProgress s then (s, only stNoResource)
  else (sendCur s (some s.rgl.rootCoord) (.report (linearOf s s.mvt.coord) .change), .wait .routeEpoch)

/-- ROUTE_TABLE_READ (R96). -/
def routeTableRead (_ : Nat) (c : Cmd) (s : State) : State × CmdOut :=
  let p := c.params
  let dest := numAt p 0 4
  if byteAt p 4 > 1 || !zeroAt p 5 3 || dest ≥ 131072 || dest ≥ nodeCount s then (s, only stMalformed)
  else
    let b := bankOf s (if byteAt p 4 = 0 then currentBit s else 1 - currentBit s)
    let e := tableEntry s b dest
    (s, .done stOk (leBytes 1 e.1 ++ leBytes 1 e.2.1 ++ leBytes 1 e.2.2.1 ++ leBytes 1 e.2.2.2 ++ leBytes 4 b.number) 0)

/-! ### Lane commands (R180) -/

/-- LANE_QUERY. -/
def laneQuery (_ : Nat) (c : Cmd) (s : State) : State × CmdOut :=
  let port := byteAt c.params 0
  if !hasLanes port || !zeroAt c.params 1 7 then (s, only stMalformed)
  else (s, .done stOk ([lnePortStatus s port, lnePortCfg s port, lnePortFom s port, lnePortPeer s port,
    lnePortRetry s port].flatMap (leBytes 8)) 0)

/-- LANE_RETRAIN. -/
def laneRetrain (_ : Nat) (c : Cmd) (s : State) : State × CmdOut :=
  let port := byteAt c.params 0
  if port > 11 || !zeroAt c.params 1 7 then (s, only stMalformed)
  else if isExpert s 0x18 then (s, only stProtection)
  else if s.mvt.adminFence.contains port then (s, only stNoResource)
  else (retrain s port, .wait (.laneTrain port))

/-- LANE_SLEEP_CONFIG. -/
def laneSleepConfig (_ : Nat) (c : Cmd) (s : State) : State × CmdOut :=
  let p := c.params
  let vm := byteAt p 4
  if byteAt p 0 > 11 || vm > 3 || !zeroAt p 5 3 || (bitAt vm 0 && byteAt p 1 > 1)
     || (bitAt vm 1 && (numAt p 2 2 = 0 || numAt p 2 2 > 1023)) then (s, only stMalformed)
  else if vm != 0 && isExpert s 0x18 then (s, only stProtection)
  else (modLane s (byteAt p 0) (fun l => { sleepOn (bitAt vm 0 && byteAt p 1 = 1) (now s) l with
      sleepEn := if bitAt vm 0 then byteAt p 1 = 1 else l.sleepEn,
      sleepIdle := if bitAt vm 1 then numAt p 2 2 else l.sleepIdle }), only stOk)

/-- LANE_CONFIG. -/
def laneConfig (_ : Nat) (c : Cmd) (s : State) : State × CmdOut :=
  let p := c.params
  let vm := byteAt p 3
  if vm > 7 || !zeroAt p 4 4 || (bitAt vm 2 && (byteAt p 2 = 0 || byteAt p 2 > 15)) then (s, only stMalformed)
  else if vm != 0 && isExpert s 0x18 then (s, only stProtection)
  else ({ s with lne := { s.lne with
      fomMin := if bitAt vm 0 then byteAt p 0 else s.lne.fomMin,
      fomWarn := if bitAt vm 1 then byteAt p 1 else s.lne.fomWarn,
      retryMax := if bitAt vm 2 then byteAt p 2 else s.lne.retryMax } }, only stOk)

/-! ### The lane table (R164 to R166) -/

/-- A lane entry as stored (R165). -/
def entryBytes (e : LaneEntry) : List Byte :=
  leBytes 8 (place [(0, b2n e.txInv), (1, b2n e.rxInv), (8, e.pre2), (16, e.pre1), (24, e.main), (32, e.post1),
    (40, e.rxCtle), (48, e.loss)])

/-- The lane table of the given reversal bits and entries, with its CRC (R164, R165). -/
def tableBytes (rev : Nat) (t : FMap LaneEntry) : List Byte :=
  let head := fun crc => leBytes 16 (place [(0, 0x54424C4E), (32, 1), (40, 56), (64, rev), (96, crc)])
  let body := (List.range 56).flatMap (fun i => entryBytes (fmGet t i {}))
  head (crc32c (head 0 ++ body)) ++ body

/-- One entry read from its eight bytes (R165). -/
def laneEntry (b : List Byte) : LaneEntry :=
  { txInv := bitAt (byteAt b 0) 0, rxInv := bitAt (byteAt b 0) 1, pre2 := byteAt b 1, pre1 := byteAt b 2,
    main := byteAt b 3, post1 := byteAt b 4, rxCtle := byteAt b 5, loss := byteAt b 6 }

/-- An entry's reserved fields are 0 and its values in range (R165, R166). -/
def laneEntryOk (b : List Byte) : Bool :=
  let e := laneEntry b
  decide (byteAt b 0 < 4) && byteAt b 7 == 0 && decide (e.pre2 ≤ 15) && decide (e.pre1 ≤ 31)
  && decide (16 ≤ e.main) && decide (e.main ≤ 63) && decide (e.post1 ≤ 31) && decide (e.rxCtle ≤ 15)
  && decide (e.loss ≤ 200) && decide (e.pre2 + e.pre1 + e.main + e.post1 ≤ 63)

/-- The first check of R166 that a table fails, in its order: 1 MAGIC, 2 VERSION, 3 ENTRIES, 4 CRC, 5 a reserved
field, 6 a range; 0 where it passes (log entry 14). -/
def laneTableCheck (b : List Byte) : Nat :=
  let entry := fun i => (b.drop (16 + 8 * i)).take 8
  if numAt b 0 4 != 0x54424C4E then 1
  else if byteAt b 4 != 1 then 2
  else if byteAt b 5 != 56 then 3
  else if crc32c (b.take 12 ++ leBytes 4 0 ++ (b.drop 16).take 448) != numAt b 12 4 then 4
  else if numAt b 6 2 != 0 || numAt b 8 4 ≥ 2 ^ 13
     || (List.range 56).any (fun i => decide (byteAt (entry i) 0 ≥ 4) || byteAt (entry i) 7 != 0) then 5
  else if (List.range 56).all (fun i => laneEntryOk (entry i)) then 0
  else 6

/-- The lane table read at start-up is accepted, or replaced by defaults with LNE_TABLE_BAD (R166, R177). -/
def loadLaneTable (s : State) (b : List Byte) : State :=
  let why := laneTableCheck b
  if why = 0 then
    let t := (List.range 56).foldl (fun m i => fmSet m i (laneEntry ((b.drop (16 + 8 * i)).take 8))) []
    { s with lne := { s.lne with
      loaded := true, defaults := false, version := byteAt b 4, crc := numAt b 12 4, rev := numAt b 8 4, table := t } }
  else
    fault { s with lne := { s.lne with loaded := false, defaults := true, version := 0, crc := 0, rev := 0, table := [] } } 304 why

/-- LANE_TABLE_READ: bytes of the table in use. -/
def laneTableRead (_ : Nat) (c : Cmd) (s : State) : State × CmdOut :=
  let off := numAt c.params 0 2
  let len := numAt c.params 2 2
  if len = 0 || len > 4096 || off + len > 464 || !zeroAt c.params 4 4 then (s, only stMalformed)
  else (s, .done stOk (((tableBytes s.lne.rev s.lne.table).drop off).take len) 0)

/-! ### Direct writes -/

/-- A direct write to an RW, RW1C or WO field that R262 refuses: ignored, with CUR_BASIC_WRITE. -/
def basicWrite (s : State) (offset : Nat) : State := fault s 16 offset

/-- PORT_FENCE_WRITE: MVT_PORT_CFG.FENCE written directly (R90, R94, R262). -/
def portFenceWrite (s : State) (fn port value : Nat) : State :=
  if fn != 0 || !isExpert s 0x12 then basicWrite s (0x01200100 + 8 * port)
  else if !hasLanes port then s
  else if port = 14 && bitAt value 0 && twinPaired s then s
  else setAdminFence s port (bitAt value 0)

/-- RETRAIN: LNE_PORT_CFG.RETRAIN written directly (R179, R262); the sets of ports 12, 13 and 15 are undefined
offsets (R18, R179). -/
def retrainWrite (s : State) (fn port : Nat) : State :=
  if !hasLanes port then fault s 36 (0x01801008 + 0x100 * port)
  else if fn != 0 || !isExpert s 0x18 then basicWrite s (0x01801008 + 0x100 * port)
  else retrain s port

end Sys2Proof.Machine
end

