-- ==== Sys2Proof/Machine/StrikeOps.lean ====
section
/-! DEFINITION. The Strike schedule: the image and its checks (R99 to R102), windows and occurrences (R97, R98), the
conformance of a grant (R114), bindings and register words (R104, R118 to R120). -/

namespace Sys2Proof.Machine

/-! ### The schedule image (R99 to R102) -/

/-- Header fields of a staged image, by byte. -/
def imageHdr (m : List Host.Cell) : List Byte := memRead m 0 64

def flowRecAt (m : List Host.Cell) (i : Nat) : List Byte := memRead m (64 + 32 * i) 32

def windowAt (m : List Host.Cell) (nflows i : Nat) : List Byte := memRead m (64 + 32 * nflows + 16 * i) 16

/-- A flow record (R100). -/
def flowRec (b : List Byte) : FlowRec :=
  let v := leNat b
  { flow := field v 0 16, dest := field v 16 24, peerCtx := field v 40 16, maxBytes := field v 64 19 }

def flowRecOk (b : List Byte) : Bool :=
  let v := leNat b
  let f := flowRec b
  field v 56 8 == 0 && v / 2 ^ 83 == 0 && f.flow != 0 && decide (1 ≤ f.maxBytes) && decide (f.maxBytes ≤ 262144)

/-- A window record (R101). -/
def windowRec (b : List Byte) : Window :=
  let v := leNat b
  { offset := field v 0 32, length := field v 32 20, port := field v 52 4, flow := field v 64 16, period := field v 80 32 }

def windowOk (hyper : Nat) (b : List Byte) : Bool :=
  let v := leNat b
  let w := windowRec b
  field v 56 8 == 0 && v / 2 ^ 112 == 0 && w.flow != 0 && decide (w.port ≤ 12) && decide (3 ≤ w.length)
  && decide (1000 ≤ w.period) && hyper % w.period == 0 && decide (w.offset < w.period)
  && decide (w.offset + w.length ≤ w.period)

/-- Window records rise by port, then by OFFSET (R99). -/
def sortedWindows : List Window → Bool
  | [] => true
  | _ :: [] => true
  | a :: b :: l => (decide (a.port < b.port) || (a.port == b.port && decide (a.offset ≤ b.offset))) && sortedWindows (b :: l)

/-- Two windows of one port leave 40 ticks between every end and the next start: their starts differ by every number
that is congruent to the difference of their offsets modulo the greatest common divisor of their periods (R102). -/
def gapOk (a b : Window) : Bool :=
  if a.port != b.port then true
  else
    let g := Nat.gcd a.period b.period
    let d := (b.offset + g - a.offset % g) % g
    decide (a.length + 40 ≤ d) && decide (b.length + 40 ≤ g - d)

/-- Gaps of a window to its own next occurrence and to every later window of the list (R102). -/
def gapsOk : List Window → Bool
  | [] => true
  | w :: l => decide (w.length + 40 ≤ w.period) && l.all (gapOk w) && gapsOk l

/-- The schedule of a staged image, where R102 accepts it. While MVT_SELF.VALID is 0 no COORD equals it: R102 names COORD and PLANE alone (DESIGN
CHOICE, log entry 35). -/
def acceptImage (s : State) (m : List Host.Cell) : Option Schedule :=
  let h := imageHdr m
  let v := leNat h
  let nf := field v 160 16
  let nw := field v 192 32
  let hyper := field v 224 32
  if field v 0 32 != 0x314B5453 || nf > 4096 || nw > 65536 then none
  else
    let total := 64 + 32 * nf + 16 * nw
    let fs := (List.range nf).map (flowRecAt m)
    let ws := (List.range nw).map (windowAt m nf)
    let flows := fs.map flowRec
    let windows := ws.map windowRec
    let crc := crc32c (memRead m 0 44 ++ leBytes 4 0 ++ memRead m 48 (total - 48))
    if crc != field v 352 32 || field v 153 7 != 0 || field v 176 16 != 0 || field v 384 128 != 0
       || field v 128 24 != s.mvt.coord || field v 152 1 != s.mvt.plane || !s.mvt.selfValid
       || field v 96 32 = 0 || field v 96 32 > 131072 || hyper < 1000 || hyper > 4000000000
       || field v 320 16 > 80 || field v 336 16 < 110
       || !fs.all flowRecOk || !ws.all (windowOk hyper) || !sortedWindows windows
       || !flows.all (fun f => windows.any (fun w => w.port == 12 && w.flow == f.flow))
       || (flows.map (·.flow)).eraseDups.length != nf
       || windows.foldl (fun n w => n + hyper / w.period) 0 > 1048576
       || !gapsOk windows
    then none
    else some {
      id := field v 32 32, epoch := field v 64 32, participants := field v 96 32, base := field v 256 64,
      flows := flows, windows := windows }

/-! ### Banks and windows -/

def stkBank (s : State) (bit : Nat) : StrikeBank := if bit = 0 then s.stk.bank0 else s.stk.bank1

def setStkBank (s : State) (bit : Nat) (b : StrikeBank) : State :=
  { s with stk := if bit = 0 then { s.stk with bank0 := b } else { s.stk with bank1 := b } }

def currentSched (s : State) : Option Schedule := (stkBank s s.stk.current).sched
def idleBank (s : State) : StrikeBank := stkBank s (1 - s.stk.current)

/-- The current tick number: the global time-stamp divided by 4 (R13, R97). -/
def tickNow (s : State) : Nat := s.rgl.time / 4

/-- Windows of a flow on a port (R98). -/
def windowsOf (b : StrikeBank) (flow port : Nat) : List Window :=
  match b.sched with
  | some c => c.windows.filter (fun w => w.flow == flow && w.port == port)
  | none => []

def baseOf (b : StrikeBank) : Nat := match b.sched with | some c => c.base | none => 0

/-- The end of the used occurrence of `w` that tick `t` lies in (R97). -/
def occurrenceEnd (b : StrikeBank) (w : Window) (t : Nat) : Option Nat :=
  let o := baseOf b + w.offset
  if t < o then none
  else
    let start := t - (t - o) % w.period
    if t < start + w.length && start ≥ b.from_ then some (start + w.length) else none

/-- Tick `t` lies in an injection window of a flow, by the current schedule or, between T and R, by the previous one: a frame begun before T ends
by it (R107, R117). -/
def inWindow (s : State) (flow t : Nat) : Bool :=
  (if s.stk.oldLive then [stkBank s s.stk.current, idleBank s] else [stkBank s s.stk.current]).any (fun b =>
    (windowsOf b flow 12).any (fun w => (occurrenceEnd b w t).isSome))

/-- The start of the first used occurrence of `w` at or after tick `t` (R97). -/
def nextStart (b : StrikeBank) (w : Window) (t : Nat) : Nat :=
  let o := baseOf b + w.offset
  let t := max t b.from_
  if t ≤ o then o else o + (t - o + w.period - 1) / w.period * w.period

/-- A tick lies in an occurrence widened by 20 ticks at each end (R114). -/
def inWidened (b : StrikeBank) (w : Window) (t : Nat) : Bool :=
  let o := baseOf b + w.offset
  decide (o ≤ t + 20) &&
    (let start := t + 20 - (t + 20 - o) % w.period
     decide (t + 20 < start + w.length + 40) && decide (start ≥ b.from_))

/-- The banks that the check uses: the current one and, between T and R, the previous one (R114). -/
def checkedBanks (s : State) : List StrikeBank :=
  (if s.stk.oldLive then [stkBank s s.stk.current, idleBank s] else [stkBank s s.stk.current]).filter (fun b => b.sched.isSome)

/-- A Strike grant on a port conforms, or no check is made (R114). -/
def conforms (s : State) (flow port : Nat) : Bool :=
  let bs := checkedBanks s
  !s.stk.checkEn || bs = [] || bs.any (fun b => (windowsOf b flow port).any (fun w => inWidened b w (tickNow s)))

/-- CONFORMANCE_CHECK: a Strike grant of fabric port `port` that does not conform is counted and raised (R114). -/
def conformance (s : State) (port : Nat) (r : RouteHdr) : State :=
  if r.cls = 3 && port < 12 && !conforms s r.flow port
  then fault (bump s 342) 104 (r.flow + port * 2 ^ 16) else s

/-! ### Bindings (R104, R120, R563) -/

def bindingOfFlow (s : State) (flow : Nat) : Option (Nat × Binding) := s.stk.bindings.find? (fun kv => kv.2.flow == flow)
def bindingOfQueue (s : State) (q : Nat) : Option (Nat × Binding) := s.stk.bindings.find? (fun kv => kv.2.queue == q)

def setBinding (s : State) (n : Nat) (b : Binding) : State :=
  { s with stk := { s.stk with bindings := fmSet s.stk.bindings n b } }

/-- The binding of a queue ends with the queue's shutdown or reset (R104). -/
def unbindQueue (s : State) (q : Nat) : State :=
  { s with stk := { s.stk with bindings := s.stk.bindings.filter (fun kv => kv.2.queue != q) } }

/-- The flow record of a bound flow in the current schedule. -/
def flowOf (s : State) (flow : Nat) : Option FlowRec :=
  match currentSched s with
  | some c => c.flows.find? (fun f => f.flow == flow)
  | none => none

/-- The injection windows of a flow in the current bank (R98). -/
def injectionWindows (s : State) (flow : Nat) : List Window := windowsOf (stkBank s s.stk.current) flow 12

/-- A job of a bound queue that waits at its flow for a window. -/
def isFrame (j : Job) : Bool := j.st == .running && !j.started

/-- The frame at the front of a bound queue: the first PUT or PUT_IMM in posting order that has not begun. While it may not run yet, no later frame
passes it (R106). -/
def frontFrame (s : State) (q : Nat) : Option Job :=
  ((queueOf s q).jobs.find? (fun j => (j.opcode == 1 || j.opcode == 2) && !j.started && !j.over && !j.malformed)).filter isFrame

/-! ### Register words (R118 to R120, R563) -/

def stkState (s : State) : Nat :=
  let epoch := match currentSched s with | some c => c.epoch | none => 0
  place [(0, epoch), (32, b2n (currentSched s).isSome), (33, b2n ((idleBank s).sched.isSome && !s.stk.oldLive)),
    (34, b2n s.stk.activating), (35, b2n s.stk.oldLive), (36, s.stk.current)]
def stkCfg (s : State) : Nat := place [(0, b2n s.stk.checkEn), (1, b2n s.stk.lateEvt)]
def stkFlow (s : State) (n : Nat) : Nat :=
  match fmFind s.stk.bindings n with
  | none => 0
  | some b => place [(0, b.flow), (16, b2n b.spill), (17, b2n (injectionWindows s b.flow != [])), (18, b2n (b.held && (frontFrame s b.queue).any (·.lateSeen))),
      (32, b.queue)]

/-- NEXT_OPEN: the time-stamp of the start of the flow's next injection occurrence (R120). -/
def nextOpen (s : State) (n : Nat) : Nat :=
  match fmFind s.stk.bindings n with
  | none => 0
  | some b =>
    match (injectionWindows s b.flow).map (fun w => nextStart (stkBank s s.stk.current) w (tickNow s)) with
    | [] => 0
    | t :: l => 4 * l.foldl min t % 2 ^ 64
def monFlow (s : State) (n : Nat) : Nat :=
  match fmFind s.stk.bindings n with
  | none => 0
  | some b => place [(0, b.holds % 2 ^ 32), (32, b.spills % 2 ^ 32)]

end Sys2Proof.Machine
end

