-- ==== Sys2Proof/Machine/JobChecks.lean ====
section
/-! DEFINITION. How a work queue's entries are fetched and grouped into jobs (R216 to R219), and every check that finds
a job malformed (R105, R109, R217, R227, R318, R326, R338 to R341, R365, R368, R377, R380, R413, R415, R452, R467,
R471). -/

namespace Sys2Proof.Machine

/-! ### Entries (R216, R218) -/

/-- Bits of an entry. -/
def ebits (e : Line) (lo w : Nat) : Nat := field e.toNat lo w

def isFirst (e : Line) : Bool := ebits e 16 1 == 1
def isLast (e : Line) : Bool := ebits e 17 1 == 1

/-- The reserved header bits and STATUS of a first entry are 0 (R216). -/
def headerOk (e : Line) : Bool := ebits e 8 8 == 0 && ebits e 21 11 == 0 && ebits e 48 16 == 0

/-- A continuation entry carries the job's OPCODE and STATUS 0x00 (R218). -/
def contOk (op : Nat) (e : Line) : Bool := ebits e 0 8 == op && ebits e 8 8 == 0

/-! ### Counter fields (R338) -/

/-- The counter that a counter field names, if its EN is 1. -/
def cntField (v : Nat) : Option Nat := if bitAt v 15 then some (field v 0 13) else none

/-- The reserved bits of a counter field are 0. -/
def cntOk (v : Nat) : Bool := field v 13 2 == 0

/-! ### Operands by opcode -/

/-- Packets of a put of `n` bytes (R343). -/
def packetsOf (n : Nat) : Nat := (n + 4095) / 4096

/-- Flits of a put of `n` bytes, heads included (R51). -/
def flitsOf (n : Nat) : Nat := (List.range (packetsOf n)).foldl (fun k i => k + 1 + (min 4096 (n - 4096 * i) + 63) / 64) 0

/-- A frame's occupancy D in ticks (chapter 3, Injecting a frame). -/
def occupancy (n : Nat) : Nat := (5 * flitsOf n + 3) / 4

/-- PUT, GET (R339). -/
def putOk (e : Line) : Bool :=
  cntOk (ebits e 208 16) && cntOk (ebits e 304 16) && decide (1 ≤ ebits e 320 32) && ebits e 352 160 == 0

/-- PUT_IMM: `es` are its entries without a trigger (R340). -/
def putImmOk (es : List Line) : Bool :=
  match es with
  | [] => false
  | e :: l =>
    let n := ebits e 208 8
    decide (1 ≤ n) && decide (n ≤ 128) && ebits e 216 8 == 0 && cntOk (ebits e 224 16) && cntOk (ebits e 240 16)
    && es.length == (n + 31) / 32 && l.all (fun c => ebits c 18 238 == 0)

/-- ATOMIC (R341). -/
def atomicOk (e : Line) : Bool :=
  ebits e 160 48 % 8 == 0 && ebits e 256 48 % 8 == 0 && decide (ebits e 208 8 ≤ 10) && ebits e 216 8 == 0
  && cntOk (ebits e 304 16) && cntOk (ebits e 448 16) && ebits e 464 48 == 0

/-- COUNTER_ADD, COUNTER_SET (R368). -/
def counterOk (e : Line) : Bool :=
  ebits e 32 16 == 0 && cntOk (ebits e 128 16) && ebits e 143 1 == 1 && ebits e 144 16 == 0 && ebits e 192 320 == 0

/-- RESERVE_LOAD (R326). -/
def reserveOk (e : Line) : Bool :=
  ebits e 160 48 % 8 == 0 && ebits e 256 48 % 8 == 0 && ebits e 208 16 == 0 && ebits e 304 208 == 0

/-- COND_STORE (R326). -/
def condOk (e : Line) : Bool := ebits e 160 48 % 8 == 0 && ebits e 208 48 == 0 && ebits e 320 192 == 0

/-- SEND (R380). -/
def sendOk (s : State) (e : Line) : Bool :=
  cntOk (ebits e 208 16) && ebits e 293 11 == 0 && ebits e 384 128 == 0 && validCoord s (ebits e 256 24)

/-- RECV (R377). -/
def recvOk (e : Line) : Bool :=
  cntOk (ebits e 208 16) && ebits e 294 10 == 0 && ebits e 384 128 == 0
  && !(ebits e 292 1 == 1 && ebits e 256 36 != 0) && !(ebits e 293 1 == 1 && ebits e 320 64 != 0)

/-- The parameters of a collective job (R413). -/
def carParams (e : Line) : CarParams :=
  { op := ebits e 128 3, type := ebits e 131 3, rop := ebits e 134 3, exact := ebits e 137 1 == 1, count := ebits e 352 32,
    peer := ebits e 384 17 }

/-- Bytes of an element (R413). -/
def elemSize (type : Nat) : Nat := if type ≤ 2 then 8 else if type = 3 then 4 else 2

/-- The combinations and COUNT limits of R415, for a group of `size` members. -/
def combinationOk (p : CarParams) (size exactMax : Nat) : Bool :=
  (if p.op = 0 || p.op = 3 then p.type == 0 && p.rop == 0 && !p.exact else true)
  && (if p.op = 3 then p.count == 0 else decide (1 ≤ p.count))
  && (decide (p.rop ≤ 2) || decide (p.type ≤ 1))
  && (!p.exact || (p.rop == 0 && (p.type == 2 || p.type == 3) && (p.op == 1 || p.op == 2 || p.op == 4)))
  && (if p.op = 0 || p.op = 1 then decide (p.peer < size) else p.peer == 0)
  && (if p.op = 0 || p.op = 3 then true
      else if p.exact then decide (p.count ≤ min exactMax 512) else decide (p.count * elemSize p.type ≤ 4096))

/-- COLLECTIVE, for a queue that may name the group; one that may not fails otherwise (R407, R413, R415). -/
def collectiveOk (s : State) (fn : Nat) (e : Line) : Bool :=
  let p := carParams e
  decide (p.op ≤ 4) && decide (p.type ≤ 4) && decide (p.rop ≤ 5) && ebits e 138 6 == 0 && cntOk (ebits e 144 16)
  && ebits e 240 16 == 0 && ebits e 336 16 == 0 && ebits e 401 111 == 0
  && (match fmFind s.car.groups (ebits e 32 16) with
      | some g => if g.member && g.tenant == fn then combinationOk p g.size g.exactMax else true
      | none => true)

/-- MOVER_START (R452). -/
def moverStartOk (es : List Line) : Bool :=
  match es with
  | [e, k] =>
    ebits e 160 48 % 16 == 0 && cntOk (ebits e 208 16) && ebits e 224 288 == 0 && ebits k 18 110 == 0 && ebits k 448 64 == 0
  | _ => false

/-- MOVER_CHAIN (R467). -/
def moverChainOk (e : Line) : Bool := ebits e 160 48 % 32 == 0 && cntOk (ebits e 208 16) && ebits e 288 224 == 0

/-- The operands of a job, by its opcode: `es` are its entries without the trigger entry. A reserved opcode is
malformed (R217, R227). -/
def operandsOk (s : State) (fn : Nat) (es : List Line) : Bool :=
  match es with
  | [] => false
  | e :: _ =>
    let one := es.length == 1
    match ebits e 0 8 with
    | 0x00 => one && ebits e 32 16 == 0 && ebits e 128 384 == 0
    | 0x01 => one && putOk e
    | 0x02 => putImmOk es
    | 0x03 => one && putOk e
    | 0x04 => one && atomicOk e
    | 0x08 => one && counterOk e
    | 0x09 => one && counterOk e
    | 0x20 => one && ebits e 32 16 == 0 && ebits e 128 384 == 0
    | 0x21 => one && reserveOk e
    | 0x22 => one && condOk e
    | 0x30 => one && sendOk s e
    | 0x31 => one && recvOk e
    | 0x40 => one && collectiveOk s fn e
    | 0x50 => moverStartOk es
    | 0x51 => one && moverChainOk e
    | 0x52 => one && ebits e 128 384 == 0 && ebits e 18 1 == 0
    | _ => false

/-- The trigger entry of an armed job (R365). -/
def triggerOk (e : Line) : Bool := ebits e 18 14 == 0 && ebits e 45 19 == 0 && ebits e 96 416 == 0

/-- The entries of a job without the trigger entry of an armed one. -/
def bodyOf (es : List Line) : List Line :=
  match es with
  | [] => []
  | e :: _ => if ebits e 19 1 = 1 then es.dropLast else es

/-- Every check of R227 that an opcode's chapter or R365 adds, once the entries have been grouped. -/
def jobOk (s : State) (fn : Nat) (es : List Line) : Bool :=
  match es with
  | [] => false
  | e :: l =>
    headerOk e && l.all (contOk (ebits e 0 8)) && operandsOk s fn (bodyOf es)
    && (ebits e 19 1 == 0 || (match l.getLast? with | some t => triggerOk t | none => false))

/-! ### Strike frames (R105, R109) -/

/-- On a queue that is bound to a flow, a job is a PUT or PUT_IMM on the flow's connection and of its size, and under
hold it fits some window (R105, R109). With no such flow in the current schedule its bounds do not bind. -/
def strikeJobOk (s : State) (q : Nat) (x : Queue) (e : Line) : Bool :=
  match bindingOfQueue s q with
  | none => true
  | some (_, b) =>
    let op := ebits e 0 8
    let n := jobLength op e.toNat
    let c := fmGet s.ctx.ctxs (ebits e 32 16) {}
    (op == 1 || op == 2) && c.st == .connected && !c.peer && c.fn == x.fn && c.pPlane == s.brd.straps.plane
    && (match flowOf s b.flow with
        | none => true
        | some f => c.pCoord == f.dest && c.pCtx == f.peerCtx && decide (n ≤ f.maxBytes))
    && (b.spill || injectionWindows s b.flow == []
        || (injectionWindows s b.flow).any (fun w => decide (occupancy n ≤ w.length)))

/-! ### Fetching and grouping (R199, R218, R219, R227) -/

/-- How an entry is obtained: from its inline copy, or from the ring (R199, R202). -/
def fetchEntry (s : State) (q : Nat) (idx : Idx) : State × Option Line :=
  let x := queueOf s q
  match x.inl.find? (fun p => p.1 == idx) with
  | some p => (s, some p.2)
  | none =>
    match hostRead s x.fn (entryAddr x idx) 64 with
    | (s, some l) => (s, some (BitVec.ofNat 512 (leNat l)))
    | (s, none) => (s, none)

/-- The grouping of a chain: it waits for the doorbell; a job of some entries, whole or broken; or a failed fetch. -/
inductive Grouped where
  | waits
  | job (entries : List Line) (broken : Bool)
  | failed (entries : List Line)
  deriving DecidableEq, Repr

/-- Read on from index `idx` in an unfinished chain; `acc` are its entries so far (R218, R227). -/
def chainFrom (s : State) (q : Nat) (last : Idx) : Nat → Idx → List Line → State × Grouped
  | 0, _, acc => (s, .job acc true)
  | n + 1, idx, acc =>
    if idx = last then (s, .waits)
    else
      match fetchEntry s q idx with
      | (s, none) => (s, .failed acc)
      | (s, some e) =>
        if isFirst e then (s, .job acc true)
        else if isLast e then (s, .job (acc ++ [e]) false)
        else chainFrom s q last n (idx + 1) (acc ++ [e])

/-- Group the entries from CONS on into the next job. -/
def groupNext (s : State) (q : Nat) : State × Grouped :=
  let x := queueOf s q
  if x.cons = x.last then (s, .waits)
  else
    match fetchEntry s q x.cons with
    | (s, none) => (s, .failed [])
    | (s, some e) =>
      if !isFirst e then (s, .job [e] true)
      else if isLast e then (s, .job [e] false)
      else chainFrom s q x.last 63 (x.cons + 1) [e]

end Sys2Proof.Machine
end

