-- ==== Sys2Proof/Machine/Movement.lean ====
section
/-! DEFINITION. The Movement: what a waiting head flit asks for, its grant or delivery, forwarding under credit, the
twin bridge crossings, ageing and discards (R29, R31, R54, R57 to R67, R72 to R78, R84, R114). -/

namespace Sys2Proof.Machine

/-! ### What a head flit asks for -/

/-- What the Movement may do with a head flit: send it out, deliver it, discard it, or nothing yet. -/
inductive Want where
  | send (port vc : Nat) (rt : RouteHdr)
  | deliver
  | discard (why : Discard)
  | waits
  deriving DecidableEq, Repr

/-- Ticks of 1.024 µs since injection, by bits [27:12] of the time-stamp (R84). -/
def elapsed (s : State) (age : Nat) : Nat := (field s.rgl.time 12 16 + 65536 - age % 65536) % 65536

/-- The packet is too old to be routed or delivered; management packets have no age check (R84, R85). -/
def tooOld (s : State) (r : RouteHdr) : Bool := r.cls != 4 && elapsed s r.age ≥ 1952

/-- The output channel is unclaimed and holds a credit, and its port is not fenced (R57, R60). -/
def eligible (s : State) (p vc : Nat) : Bool :=
  !fenced s p && linkActive s p && (fmFind s.mvt.claims (bufKey p vc)).isNone && decide (credits s p vc ≥ 1)

/-- The packet goes on in dimension `d` as its source set out, by the direction of R53 and no further than DEST; if not, `d` is the dimension
of a detour. DETOURS counts the hops, and no field names their dimension (R73; DEDUCED, log entry 13). -/
def onCourse (s : State) (r : RouteHdr) (d : Nat) : Bool :=
  let n := dimSize s d
  let way := fun (a b : Nat) => if dirOf r.dir d = 0 then (b + n - a) % n else (a + n - b) % n
  dirOf r.dir d == dirIn s r.src r.dest d
    && decide (way (posOf r.src d) (posOf s.mvt.coord d) ≤ way (posOf r.src d) (posOf r.dest d))

/-- DIR as the Movement uses it here: once a detour has been taken, that of the detour's dimension is recomputed from the current position;
the others stay as the source set them (R53, R73). -/
def dirHere (s : State) (r : RouteHdr) : Nat :=
  if r.detours = 0 then r.dir
  else (List.range 6).foldl (fun n d =>
    n * 2 + (if onCourse s r d then dirOf r.dir d else dirIn s s.mvt.coord r.dest d)) 0

/-- VC 9 of a port is unclaimed and holds a credit. A port that is fenced as after a link fault still carries management packets: by them
it is found restored (R66, R610, R611; DESIGN CHOICE, log entry 119). -/
def manageable (s : State) (p : Nat) : Bool :=
  (fmFind s.mvt.claims (bufKey p 9)).isNone && decide (credits s p 9 ≥ 1)

/-- The adaptive candidates: one port for each dimension that differs (R60). -/
def candidates (s : State) (r : RouteHdr) : List Nat :=
  (openDims s.mvt.coord r.dest).map (fun d => 2 * d + dirOf (dirHere s r) d)

/-- The candidate with the most credits; ties go round from the input port's rotating pointer (R60; log entry 15). -/
def bestOf (s : State) (vc pointer : Nat) (l : List Nat) : Option Nat :=
  l.foldl (fun best p =>
    match best with
    | none => some p
    | some b =>
      let cp := credits s p vc
      let cb := credits s b vc
      if cp > cb || (cp = cb && (p + 16 - pointer) % 16 < (b + 16 - pointer) % 16) then some p else best) none

/-- The adaptive channel of a class (R58). -/
def adaptiveVc (cls : Nat) : Nat := if cls = 1 then 3 else 0

/-- The ports that a bank's detour table names for a fenced candidate: fabric ports of other dimensions (R73, R79). -/
def detourPorts (s : State) (b : RouteBank) (p : Nat) : List Nat :=
  let t := Config.detour b.number b.map p
  [t.1, t.2].filter (fun q => decide (q < 12) && q / 2 != p / 2 && decide (dimSize s (q / 2) > 1))

/-- The header after a detour hop through `p` (R73). -/
def detourHdr (r : RouteHdr) (dir p : Nat) : RouteHdr :=
  let d := p / 2
  let bit := 2 ^ (5 - d)
  { r with detours := r.detours + 1, dir := dir - dirOf dir d * bit + p % 2 * bit }

/-- The escape hop by a bank: port, channel and the DOWN bit after it; none where there is no path (R62, R75, R76). -/
def escapeHop (s : State) (b : RouteBank) (r : RouteHdr) : Option (Nat × Nat × Bool) :=
  let base := if r.cls = 1 then 4 else 1
  if b.mode = 0 then
    match openDims s.mvt.coord r.dest with
    | [] => none
    | d :: _ =>
      let dir := dirOf (dirHere s r) d
      some (2 * d + dir, if wrapAhead s s.mvt.coord r.dest d dir then base else base + 1, r.down)
  else
    let self := linearOf s s.mvt.coord
    match safePort s b.map self (linearOf s r.dest) (b2n r.down) with
    | none => none
    | some p => some (p, base, r.down || downLink s b.map self p)

/-- What an escape packet asks for: its escape hop, or discard where that hop is fenced (R74, R76). -/
def wantEscape (s : State) (b : RouteBank) (r : RouteHdr) : Want :=
  match escapeHop s b r with
  | none => .discard .fence
  | some (p, vc, down) =>
    if fenced s p then .discard .fence
    else if eligible s p vc then .send p vc { r with vc := vc, esc := true, down := down }
    else .waits

/-- No path for a packet that is routed here: its EPOCH bit names a bank without tables, or its destination is a neighbour that
that bank's map has fenced (R77, R78). -/
def noPath (s : State) (r : RouteHdr) : Bool :=
  let b := bankOf s r.epoch
  b.st == .idle
  || deviceFenced b (linearOf s r.dest) && (List.range 12).any (fun p => neighbour s s.mvt.coord p == r.dest)

/-- The escape hop by the packet's bank is fenced, or there is none (R74, R76). -/
def hopFenced (s : State) (r : RouteHdr) : Bool :=
  match escapeHop s (bankOf s r.epoch) r with
  | some (p, _, _) => fenced s p
  | none => true

/-- The head flit has waited here as long as MVT_ROUTE_CFG now asks for: ESC_DELAY ticks, or DETOUR_WAIT where its escape hop is fenced
(R61, R74, R76, R88). -/
def escapeDue (s : State) (h : Held) : Bool :=
  decide (now s ≥ h.arr + (if hopFenced s h.pkt.rt then max s.mvt.detourWait s.mvt.escDelay else s.mvt.escDelay))

/-- What a request or reply asks for while it is routed in this plane. Only a packet that is on escape, or that has no open port
left, is discarded for its fenced escape hop (R31, R60 to R62, R73, R74, R76). Of several eligible detour ports it takes the first that the
table names for the first candidate: R73 does not choose (DESIGN CHOICE, log entry 13). -/
def wantRoute (s : State) (inPort : Nat) (h : Held) : Want :=
  let r := h.pkt.rt
  let b := bankOf s r.epoch
  if r.esc then wantEscape s b r
  else
    let vc := adaptiveVc r.cls
    let cs := candidates s r
    let detours := if s.mvt.detourEn && r.detours < 2 && cs.all (fun p => fenced s p) then cs.flatMap (detourPorts s b) else []
    match bestOf s vc (fmGet s.mvt.rotate inPort 0) (cs.filter (fun p => eligible s p vc)) with
    | some p => .send p vc { r with vc := vc, dir := dirHere s r }
    | none =>
      match detours.find? (fun p => eligible s p vc) with
      | some p => .send p vc { detourHdr r (dirHere s r) p with vc := vc }
      | none =>
        if !(h.escReady && escapeDue s h) then .waits
        else match wantEscape s b { r with dir := dirHere s r } with
          | .discard why => if (cs ++ detours).any (fun p => !fenced s p) then .waits else .discard why
          | w => w

/-- What a Strike packet asks for: VC 8 of its next port in dimension order (R67). -/
def wantStrike (s : State) (r : RouteHdr) : Want :=
  match orderPort r.dir s.mvt.coord r.dest with
  | none => .deliver
  | some p => if eligible s p 8 then .send p 8 { r with vc := 8 } else .waits

/-- A crossing of the twin bridge: on the channel of its kind, at most once, while the bridge is READY (R64). -/
def wantBridge (s : State) (r : RouteHdr) (vc : Nat) : Want :=
  if r.xb || fenced s 14 || !bridgeReady s then .discard .fence
  else if eligible s 14 vc then .send 14 vc { r with vc := vc, xb := true }
  else .waits

/-- The packet is delivered at this node to an engine of the twin. R63 and R64 do not say how that is known: the model takes it from the
mirror, by which the packet's context is live on the partner, while here it is free or in quarantine (R518; DESIGN CHOICE, log entry 19). -/
def toTwin (s : State) (p : Packet) : Bool :=
  let there := fun (c : Nat) =>
    let mine := (fmGet s.ctx.ctxs c {}).st
    (mine == .free || mine == .quarantine) && twinPaired s && (fmFind s.twn.mirror.conns c).isSome
  match p.tt with
  | .conn h => there h.dstCtx
  | .msg h => there h.dstCtx
  | _ => false

/-- What the head flit at input port `inPort` asks for (R29, R31, R63 to R67, R77, R78, R84). -/
def want (s : State) (inPort : Nat) (h : Held) : Want :=
  let r := h.pkt.rt
  let own := s.brd.straps.plane
  if tooOld s r then .discard .age
  else if inPort < 12 && r.plane != own then .discard .addr
  else if r.cls = 4 then
    match h.out with
    | none => .deliver
    | some p => if !linkActive s p then .discard .fence else if manageable s p then .send p 9 r else .waits
  else if !validCoord s r.dest then .discard .addr
  else if r.cls = 2 then
    match h.out with
    | some p => if fenced s p then .discard .fence else if eligible s p r.vc then .send p r.vc r else .waits
    | none => if inPort = 14 then .discard .addr else .deliver
  else if inPort = 14 && (r.vc = 1 || r.vc = 4) then
    if r.plane = own || r.dest != s.mvt.coord then .discard .addr else .deliver
  else if inPort = 14 && (r.plane != own || !(r.vc = 0 || r.vc = 3)) then .discard .addr
  else if r.plane != own then wantBridge s r (if r.cls = 1 then 3 else 0)
  else if (bankOf s r.epoch).st = .idle && inPort != 14 then .discard .fence
  else if r.dest = s.mvt.coord then
    if toTwin s h.pkt then wantBridge s r (if r.cls = 1 then 4 else 1) else .deliver
  else if noPath s r then .discard .fence
  else if r.cls = 3 then wantStrike s r
  else wantRoute s inPort h

/-! ### Oldest first (R57) -/

/-- Waiting head flits: the fronts of the buffers whose packet holds no claim, with their input port. -/
def waitingHeads (s : State) : List (Nat × Held) :=
  s.mvt.bufs.filterMap (fun kv => match kv.2 with
    | h :: _ => if h.claim.isNone then some (kv.1, h) else none
    | [] => none)

/-- Another waiting head flit asks for the same output channel and goes first: an older AGE, then the lower port (R57), and of two at one port
the lower channel, for which R57 states no order (DESIGN CHOICE, log entry 15). -/
def outranked (s : State) (key port vc : Nat) (h : Held) : Bool :=
  (waitingHeads s).any (fun kv =>
    kv.1 != key &&
    (match want s (kv.1 / 16) kv.2 with
     | .send p v _ => p == port && v == vc
     | _ => false)
    && (decide (elapsed s kv.2.pkt.rt.age > elapsed s h.pkt.rt.age)
        || (elapsed s kv.2.pkt.rt.age == elapsed s h.pkt.rt.age && decide (kv.1 < key))))

/-! ### Forwarding (R51, R55, R57) -/

/-- Flit `i` of a packet (R51): the head, or 64 bytes of payload. -/
def flitOf (p : Packet) (i : Nat) : TxFlit :=
  if i = 0 then { vc := p.rt.vc, head := some { p with payload := [] }, poison := p.poisoned }
  else { vc := p.rt.vc, data := padTo 64 ((p.payload.drop (64 * (i - 1))).take 64), poison := p.poisoned }

/-- The packet that holds a claim, with its buffer's rest, if a flit of it is here and the channel has a credit (R55). -/
def canSend (s : State) (p vc : Nat) : Option (Nat × Held × List Held) :=
  match fmFind s.mvt.claims (bufKey p vc) with
  | none => none
  | some key =>
    match bufOf s key with
    | [] => none
    | h :: l => if h.claim == some (p, vc) && decide (h.sent < h.got) && decide (credits s p vc ≥ 1) then some (key, h, l) else none

/-- The channel whose turn it is at an output port: the next after the one that sent last (R57). -/
def nextVc (s : State) (p : Nat) : Option Nat :=
  let last := fmGet s.mvt.turns p 0
  ((List.range 10).map (fun i => (last + 1 + i) % 10)).find? (fun vc => (canSend s p vc).isSome)

/-- Output channels of a fabric port that are claimed and hold no credit. -/
def stalledChannels (s : State) (p : Nat) : Nat :=
  (s.mvt.claims.filter (fun kv => kv.1 / 16 == p && credits s p (kv.1 % 16) == 0)).length

/-- One flit goes from its buffer to the port: its credit returns to its sender, and the tail releases the claim (R55, R57, R558). -/
def sendOne (s : State) (p vc key : Nat) (h : Held) (l : List Held) : State :=
  let done := h.sent + 1 ≥ h.pkt.rt.len
  let s := setBuf s key (if done then l else { h with sent := h.sent + 1, due := h.due - 1 } :: l)
  let s := { s with mvt := { s.mvt with
    turns := fmSet s.mvt.turns p vc, claims := if done then fmErase s.mvt.claims (bufKey p vc) else s.mvt.claims } }
  let s := bump (returnCredits s (key / 16) (key % 16) (min 1 h.due)) (8 + 2 * p)
  let s := modLane s p (fun x => { x with
    sentOn := fmModify x.sentOn vc 0 (· + 1), sendq := x.sendq ++ [{ flitOf h.pkt h.sent with vc := vc }] })
  if p < 12 && credits s p vc = 0 && !done then noteLevel s (170 + p) (stalledChannels s p) else s

/-- The channels of a port send one flit in turn, while one can (R57). -/
def pump (p : Nat) : Nat → State → State
  | 0, s => s
  | n + 1, s =>
    match nextVc s p with
    | none => s
    | some vc =>
      match canSend s p vc with
      | none => s
      | some (key, h, l) => pump p n (sendOne s p vc key h l)

/-- Flits here of packets that hold a claim on the port. -/
def claimedFlits (s : State) (p : Nat) : Nat :=
  (s.mvt.claims.filter (fun kv => kv.1 / 16 == p)).foldl (fun n kv =>
    match bufOf s kv.2 with | [] => n | h :: _ => n + (h.got - h.sent)) 0

/-- A port sends what its claimed packets have here, as far as its credits go (R55, R57). -/
def advance (s : State) (p : Nat) : State :=
  let n := claimedFlits s p
  if n = 0 then s else kick (pump p n s) p

/-- Every output port goes on as far as it can. -/
def advanceAll (s : State) : State := ((List.range 12) ++ [14]).foldl advance s

/-! ### Delivery (R29, R63) -/

/-- The front packet of a buffer goes to its engine once its tail is here: a management packet to the Curator, which frees its buffer at once
(R66). A packet with a poisoned flit, or of a reserved transport type, is discarded there (R29, R157, R346). -/
def deliverFront (s : State) (key : Nat) : State :=
  match bufOf s key with
  | [] => s
  | h :: l =>
    if h.got < h.pkt.rt.len then s
    else if h.pkt.poisoned then discardFront s key .fence
    else
      let s := returnCredits (setBuf s key l) (key / 16) (key % 16) h.due
      match h.pkt.tt with
      | .other _ _ => bump s 7
      | _ => if h.pkt.rt.cls = 4 then s else { s with mvt := { s.mvt with eject := s.mvt.eject ++ [h.pkt] } }

/-- Grant a head flit its output channel (R54, R57, R60, R61). -/
def grant (s : State) (key : Nat) (h : Held) (l : List Held) (p vc : Nat) (r : RouteHdr) : State :=
  let old := h.pkt.rt
  let r := if p < 12 then { r with hops := min (r.hops + 1) 255 } else r
  let h := { h with pkt := { h.pkt with rt := r }, claim := some (p, vc) }
  let s := setBuf s key (h :: l)
  let s := { s with mvt := { s.mvt with
    claims := fmSet s.mvt.claims (bufKey p vc) key,
    rotate := if r.esc then s.mvt.rotate else fmSet s.mvt.rotate (key / 16) ((p + 1) % 16) } }
  let s := bump s (9 + 2 * p)
  let s := if r.esc && !old.esc then bump s 4 else s
  let s := if r.detours > old.detours then bump s 5 else s
  let s := if p < 12 then sampleDials s 5 (fun arg => field arg 0 4 == p) (now s - h.arr) else s
  advance s p

/-- HEAD_FLIT_GRANT: the head flit at the front of a buffer is granted an output channel, delivered or discarded. -/
def headFlitGrant (s : State) (port vc : Nat) : State :=
  let key := bufKey port vc
  match bufOf s key with
  | [] => s
  | h :: l =>
    if h.claim.isSome then advance s ((h.claim.getD (0, 0)).1)
    else match want s port h with
      | .discard why => discardFront s key why
      | .deliver => deliverFront s key
      | .waits => s
      | .send p v r => if outranked s key p v h then s else grant (conformance s p r) key h l p v r

/-! ### Waits that run out -/

/-- ESC_DELAY_EXPIRY: a head flit has waited ESC_DELAY ticks here without an adaptive grant, or DETOUR_WAIT where its
escape hop is fenced (R61, R74, R76, R88). -/
def escDelayExpiry (s : State) (port vc : Nat) : State :=
  let key := bufKey port vc
  match bufOf s key with
  | [] => s
  | h :: l =>
    if h.claim.isNone && !h.pkt.rt.esc && h.pkt.rt.cls < 2 && escapeDue s h
    then setBuf s key ({ h with escReady := true } :: l) else s

/-- STRIKE_WAIT_EXPIRY: a Strike packet that has waited 64 ticks for VC 8 of its next port, or finds that port fenced,
becomes a request on escape, with no flow in its route header (R50, R59, R67). -/
def strikeWaitExpiry (s : State) (port : Nat) : State :=
  let key := bufKey port 8
  match bufOf s key with
  | [] => s
  | h :: l =>
    let r := h.pkt.rt
    match orderPort r.dir s.mvt.coord r.dest with
    | none => s
    | some p =>
      if r.cls = 3 && h.claim.isNone && (fenced s p || now s ≥ h.arr + 64) then
        let h := { h with pkt := { h.pkt with rt := { r with cls := 0, esc := true, flow := 0 } }, escReady := true }
        fault (bump (setBuf s key (h :: l)) 6) 2 r.flow
      else s

/-- AGE_CHECK: the head flit at the front of each channel buffer, VC 9 apart (R84). -/
def ageCheck (s : State) : State :=
  (waitingHeads s).foldl (fun s kv => if tooOld s kv.2.pkt.rt then discardFront s kv.1 .age else s) s

/-! ### Pace (R42 to R45) -/

/-- MVT_PACE after a window (R42, R43). -/
def setPace (s : State) (period mv : Nat) (tj : Int) : State :=
  { s with mvt := { s.mvt with
    period := period, coreMv := mv % 1024, tj := ofSigned 8 tj, paceSeq := (s.mvt.paceSeq + 1) % 65536, paceTs := stamp s } }

/-- PACE_WINDOW: a window ends with `count` handshakes, at a core rail of `mv` and a junction of `tj`. -/
def paceWindow (s : State) (count mv : Nat) (tj : Int) : State :=
  let period := if count ≤ 8 then 0xFFFF else min (524288 / count) 0xFFFF
  let (limit, en) := s.mvt.limitOld.getD (s.mvt.limit, s.mvt.limitEn)
  let s := setPace s period mv tj
  if en && period > limit then fault s 1 period else s

end Sys2Proof.Machine
end

