-- ==== Sys2Proof/Machine/JobOps.lean ====
section
/-! DEFINITION. Trigger counters and armed jobs (R364 to R367), how jobs end (R222, R321, R344, R392), what becomes of the
packets of a job that ends early (R356), and contexts that stop (R353, R358). -/

namespace Sys2Proof.Machine

/-! ### Trigger counters (R364) -/

/-- The counter is allocated to the function. -/
def counterOwned (s : State) (n fn : Nat) : Bool :=
  match fmFind s.ctx.counters n with
  | some c => c.owner == fn
  | none => false

/-- A counter field that names a counter of this device names one of the function's (R338). -/
def fieldOwned (s : State) (fn v : Nat) : Bool :=
  match cntField v with
  | some n => counterOwned s n fn
  | none => true

/-- A value has reached a threshold (R364). -/
def reached (value h : Nat) : Bool := decide ((value % 2 ^ 32 + 2 ^ 32 - h % 2 ^ 32) % 2 ^ 32 < 2 ^ 31)

/-- A job is released from the armed state now: it counts as posted no earlier (R366, R492, R570). -/
def postNow (s : State) (q : Nat) (idx : Idx) : State := modJob s q idx (fun j => { j with tPost := stamp s })

/-- Release the armed jobs whose counter has reached their threshold (R366). -/
def releaseArmed (s : State) (n value : Nat) : State :=
  let hit := fun (a : Armed) => a.counter == n && !a.released && reached value a.threshold
  let k := (s.ctx.armed.filter hit).length
  let s := (s.ctx.armed.filter hit).foldl (fun s a => postNow s a.q a.idx) s
  let s := { s with ctx := { s.ctx with armed := s.ctx.armed.map (fun a => if hit a then { a with released := true } else a) } }
  if k = 0 then s else bumpBy s 309 k

/-- Apply one counter event for a function: an event whose counter is not the function's is discarded (R364). -/
def applyCounter (s : State) (fn n v : Nat) (set : Bool) : State :=
  match fmFind s.ctx.counters n with
  | none => s
  | some c =>
    if c.owner != fn then s
    else
      let value := (if set then v else c.value + v) % 2 ^ 32
      releaseArmed { s with ctx := { s.ctx with counters := fmSet s.ctx.counters n { c with value := value } } } n value

/-- A counter event; while PAIRED it waits for its mirror record (R364, R523). -/
def counterEvent (s : State) (fn n v : Nat) (set : Bool) (job : Option (Nat × Idx)) : State :=
  if isPaired s && counterOwned s n fn then
    let old := (fmGet s.ctx.counters n { owner := fn }).value
    gateOn s (.counter n ((if set then v else old + v) % 2 ^ 32) job) (.counter fn n v set job)
  else applyCounter s fn n v set

/-- The counter field of a job that is advanced when it is done with OK; RECV's is advanced by its record (R339, R340,
R341, R377, R380, R413, R452, R467). -/
def lcntAt (opcode : Nat) : Option Nat :=
  match opcode with
  | 0x01 => some 304 | 0x02 => some 240 | 0x03 => some 304 | 0x04 => some 304 | 0x30 => some 208 | 0x40 => some 144
  | 0x50 => some 208 | 0x51 => some 208
  | _ => none

/-- The local counter field of a job, RECV's included. -/
def jobCounter (j : Job) : Nat :=
  if j.opcode = 0x31 then opnd j 208 16 else match lcntAt j.opcode with | some b => opnd j b 16 | none => 0

/-! ### Jobs that end -/

/-- A job is done with OK: it is done, and its LCNT advances by 1 (R222, R364). -/
def completeJob (s : State) (q : Nat) (idx : Idx) : State :=
  match jobOf s q idx with
  | none => s
  | some j =>
    let s := dropItem (jobDone s q idx) q (.job idx)
    match lcntAt j.opcode with
    | none => s
    | some b =>
      match cntField (opnd j b 16) with
      | some n => counterEvent s (queueOf s q).fn n 1 false (some (q, idx))
      | none => s

/-- An RDV_ID is free again (R392). -/
def freeRdv (s : State) (q : Nat) (idx : Idx) : State :=
  { s with cat := { s.cat with rdv := s.cat.rdv.filter (fun kv => !(kv.2.q == q && kv.2.idx == idx)) } }

/-- A failed job ends: it leaves what waits for injection, its stall, and its RDV_ID (R222, R223). -/
def endNow (s : State) (q : Nat) (idx : Idx) (status d0 d1 : Nat) : State :=
  let s := dropItem s q (.job idx)
  let s := { s with
    xlt := { s.xlt with stalls := s.xlt.stalls.filter (fun x => x.who != .job q idx) },
    ctx := { s.ctx with armed := s.ctx.armed.filter (fun a => !(a.q == q && a.idx == idx)) } }
  freeRdv (failJob s q idx status d0 d1) q idx

/-- The job has gone out as a frame of a flow, in its window or spilled (R107, R108). -/
def wasFrame (j : Job) : Bool := j.flow != 0 || j.spilled

/-- Some job of the queue before this one is not done. -/
def behindOthers (s : State) (q : Nat) (idx : Idx) : Bool :=
  ((queueOf s q).jobs.takeWhile (fun k => k.idx != idx)).any (fun k => !k.over)

/-- A frame of a flow waits for the earlier jobs of its queue (R113). -/
def frameBehind (s : State) (q : Nat) (idx : Idx) : Bool :=
  (match jobOf s q idx with | some j => wasFrame j | none => false) && behindOthers s q idx

/-- Where a BARRIER's failed flush went, for DETAIL0 (R321). -/
def peerDetail (s : State) (c : Nat) : Nat := (ctxOf s c).pCoord + (ctxOf s c).pPlane * 2 ^ 24

/-- The end of a job every packet of which has been built and answered, failed or abandoned (R111, R344, R392). -/
def finishOne (s : State) (q : Nat) (idx : Idx) : State :=
  match jobOf s q idx with
  | none => s
  | some j =>
    if j.st != .running || !j.built || j.pend != 0 || frameBehind s q idx || j.opcode = 0x20 then s
    else if j.status != 0 then endNow s q idx j.status j.detail0 j.detail1
    else if j.rdvId.isSome then s
    else if j.late then endNow s q idx stStrikeLate 0 0
    else completeJob s q idx

/-- Frames that waited for an earlier one end after it (R113). -/
def finishLater (s : State) (q : Nat) : State :=
  if !(queueOf s q).jobs.any wasFrame then s
  else ((queueOf s q).jobs.map (·.idx)).foldl (fun s i => finishOne s q i) s

/-- The job, and the later frames that waited for it (R113, R344). -/
def finishIfDone (s : State) (q : Nat) (idx : Idx) : State := finishLater (finishOne s q idx) q

/-- A frame that has failed while an earlier one is not done: it ends after that one (R113). -/
def holdsBack (s : State) (q : Nat) (idx : Idx) : Bool :=
  match jobOf s q idx with
  | some j => j.st == .running && (wasFrame j || (bindingOfQueue s q).isSome) && behindOthers s q idx
  | none => false

/-- A job fails: it ends, but a frame ends after the earlier ones of its flow (R113, R222, R223). -/
def endJob (s : State) (q : Nat) (idx : Idx) (status d0 d1 : Nat) : State :=
  if holdsBack s q idx then
    let s := dropItem { s with xlt := { s.xlt with stalls := s.xlt.stalls.filter (fun x => x.who != .job q idx) } } q (.job idx)
    modJob s q idx (fun j => { j with
      started := true, spilled := true, built := true, pend := 0, status := status, detail0 := d0, detail1 := d1 })
  else finishLater (endNow s q idx status d0 d1) q

/-- A packet of a job has failed: no later packet is built; the job's status is that of the failed packet that covers
the lowest offset (R344). `details` are the error record's, where the opcode's chapter takes them from the answer. -/
def noteFailure (s : State) (q : Nat) (idx : Idx) (off status d0 d1 : Nat) : State :=
  dropItem (modJob s q idx (fun j =>
    let low := match j.failOff with | some o => decide (off < o) | none => true
    if low then { j with built := true, failOff := some off, status := status, detail0 := d0, detail1 := d1 }
    else { j with built := true })) q (.job idx)

/-- The error-record details of a failed packet: R331 for a lost reservation, R344 otherwise; a message has none
(log entry 18). -/
def failDetails (status off : Nat) (psn : Psn) (j : Job) (a0 a1 : Nat) : Nat × Nat :=
  if status = stReservationLost then (a0, a1) else if j.opcode = 0x30 then (0, 0) else (off, psn.toNat)

/-- The answer to a packet of a job has come, or the packet is abandoned: one packet less is awaited. -/
def packetGone (s : State) (q : Nat) (idx : Idx) : State :=
  finishIfDone (modJob s q idx (fun j => { j with pend := j.pend - 1 })) q idx

/-! ### The barrier (R319 to R321, R643) -/

/-- A write of the queue has been early-acknowledged on a connection, be its packet abandoned since (R356, R643). -/
def markUnflushed (s : State) (q c : Nat) : State :=
  if (queueOf s q).st == .disabled || (queueOf s q).fn != (ctxOf s c).fn then s
  else modQueue s q (fun x => { x with unflushed := withMember x.unflushed c })

/-- One device read follows the local writes that a barrier covers; its flag says that the read was good. With none to declare visible there is
no read (R201, R320 step 3). -/
def declareLocal (s : State) (q : Nat) : State × Bool := declareIssued s (fun e => e.queue == some q)

/-- A BARRIER whose flushes are all over ends: with the failure of a flush, with BUS_ERROR, or with OK (R320, R321). -/
def endBarrier (s : State) (q : Nat) (idx : Idx) : State :=
  match jobOf s q idx with
  | none => s
  | some j =>
    if j.st != .running || j.opcode != 0x20 || j.flush != [] then s
    else
      let x := queueOf s q
      if !canAccess s x.fn then s else
      let (s, ok) := declareLocal s q
      if j.status != 0 then endJob s q idx j.status j.detail0 0
      else if !ok then endJob s q idx stBusError 0 0
      else completeJob s q idx

/-- A flush of a BARRIER is over, well or with a status (R320, R321, R643). -/
def flushOver (s : State) (q : Nat) (idx : Idx) (c status : Nat) : State :=
  let s := dropItem s q (.flush idx c)
  let s := if status = 0 then modQueue s q (fun x => { x with unflushed := without x.unflushed c }) else s
  let s := modJob s q idx (fun j =>
    let j := { j with flush := without j.flush c }
    if status != 0 && j.status == 0 then { j with status := status, detail0 := peerDetail s c } else j)
  endBarrier s q idx

/-! ### Deliveries -/

def modDelivery (s : State) (id : Nat) (f : Delivery → Delivery) : State :=
  { s with cat := { s.cat with deliveries := s.cat.deliveries.map (fun d => if d.id == id then f d else d) } }

/-- A delivery that ends now with a status (R396, R397). -/
def endedNow (s : State) (d : Delivery) (status : Nat) : Delivery :=
  { d with status := status, ended := true, copy := none, endTime := stamp s, endLocal := localTime s }

/-- A rendezvous delivery has failed with a status: its record is due, and MSG_FIN with RESULT 2 is owed (R392). -/
def failDelivery (s : State) (id status : Nat) : State :=
  let s := { s with xlt := { s.xlt with stalls := s.xlt.stalls.filter (fun x => x.who != .copy id) } }
  match deliveryOf s id with
  | none => s
  | some d =>
    if d.ended then s
    else
      let d' := endedNow s d status
      let s := { s with cat := { s.cat with deliveries := s.cat.deliveries.filter (fun x => x.id != id) ++ [d'] } }
      let s := dropItem s d.recv.q (.rdvGet id)
      if d.msg.rdv && !d.finSent then pushItem s d.recv.q (.fin id) else s

/-! ### Sent packets that end (R344, R356) -/

/-- Remove a sent packet from its context's unanswered ones. -/
def dropUnans (s : State) (c : Nat) (psn : Psn) : State :=
  modCtx s c (fun x => { x with unans := x.unans.filter (fun u => u.psn != psn) })

/-- The packet waits in no list any more. -/
def unqueue (s : State) (c : Nat) (u : Unans) : State :=
  if !u.queued then s
  else if u.skip then
    { s with sch := { s.sch with maint := s.sch.maint.map (fun kv => (kv.1, kv.2.filter (fun m => m != .skip c u.psn))) } }
  else dropItem s u.q (.again c u.psn)

/-- The round trip of a packet that is answered now, for the Dials (R566). -/
def roundTrip (s : State) (c : Nat) (u : Unans) : State :=
  sampleDials s 10 (fun arg => bitAt arg 16 || field arg 0 16 == c) (now s - u.first)

/-- A sent packet fails with a status: its job, barrier or delivery takes the failure. `a0`, `a1` are the answer's
details. -/
def packetFailed (s : State) (c : Nat) (u : Unans) (status a0 a1 : Nat) : State :=
  let s := dropUnans (unqueue s c u) c u.psn
  if u.skip then s
  else match u.job, u.delivery with
    | some (q, idx), _ =>
      match jobOf s q idx with
      | none => s
      | some j =>
        if j.opcode = 0x20 then flushOver s q idx c status
        else
          let d := failDetails status u.off u.psn j a0 a1
          packetGone (noteFailure s q idx u.off status d.1 d.2) q idx
    | none, some id => failDelivery s id status
    | none, none => s

/-- A sent packet is abandoned: a SKIP of its PSN takes its place, sent until it is acknowledged (R356). -/
def abandon (s : State) (c : Nat) (u : Unans) : State :=
  if u.skip then s
  else
    let s := unqueue s c u
    let s := modUnans s c u.psn (fun u => { u with
      skip := true, job := none, delivery := none, queued := false, timer := false, resendAt := none, sends := 0, naks := 0 })
    let s := match u.job with
      | some (q, idx) => modJob s q idx (fun j => { j with pend := j.pend - 1 })
      | none => s
    match (ctxOf s c).unans.find? (fun v => v.psn == u.psn) with
    | some v => sendAgain s c v
    | none => s

/-- Sent and unanswered packets of a job, with their contexts. -/
def jobUnans (s : State) (q : Nat) (idx : Idx) : List (Nat × Unans) :=
  s.ctx.ctxs.flatMap (fun kv => (kv.2.unans.filter (fun u => u.job == some (q, idx))).map (fun u => (kv.1, u)))

/-- A job fails at the initiator: its unanswered packets are abandoned (R356), and it ends. -/
def failLocal (s : State) (q : Nat) (idx : Idx) (status d0 d1 : Nat) : State :=
  let s := (jobUnans s q idx).foldl (fun s p => abandon s p.1 p.2) s
  endJob s q idx status d0 d1

/-- A packet of a job that has sent others fails before it is sent (again): as any failed packet's, its status counts if it covers the lowest
offset; the job's unanswered packets are abandoned, and it ends. A packet that was never sent has no PSN: a free value stands for it (R344,
R356; log entry 18). -/
def failPart (s : State) (q : Nat) (idx : Idx) (status off : Nat) (psn : Option Psn) : State :=
  match jobOf s q idx with
  | none => s
  | some j =>
    if j.nextOff = 0 && psn.isNone then failLocal s q idx status 0 0
    else
      let (v, s) := match psn with | some p => (p.toNat, s) | none => draw s
      let d := failDetails status off (BitVec.ofNat 24 v) j 0 0
      let s := noteFailure s q idx off status d.1 d.2
      match jobOf s q idx with
      | some j => failLocal s q idx j.status j.detail0 j.detail1
      | none => s

/-- The packet of a stalled job that its page holds up: the next to be sent, or the first unanswered one. -/
def stalledPart (s : State) (q : Nat) (idx : Idx) (j : Job) : Nat × Option Psn :=
  match j.built, leastBy (fun _ _ => true) (·.2.off) ((jobUnans s q idx).map (fun p => (p.2.psn.toNat, p))) with
  | true, some n => ((((jobUnans s q idx).find? (fun p => p.2.psn.toNat == n)).map (fun p => p.2.off)).getD 0, some (BitVec.ofNat 24 n))
  | _, _ => (j.nextOff, none)

/-! ### Contexts that stop (R353, R358, R359) -/

/-- The status that a reason stands for (R371). -/
def reasonStatus (reason : Nat) : Nat := if reason = 2 then stDestFenced else stRetryExceeded

/-- A job uses the context: it names it, or it is a SEND to the device that the peer slot joins. -/
def usesCtx (s : State) (c : Nat) (j : Job) : Bool :=
  let x := ctxOf s c
  if x.peer then j.opcode == 0x30 && sendDest j == (x.pPlane, x.pCoord)
  else (remoteAt j.opcode).isSome && j.context == c

/-- Jobs of a context that have started and are not done, as (queue, index). -/
def ctxJobs (s : State) (c : Nat) : List (Nat × Idx) :=
  s.rings.queues.flatMap (fun kv =>
    (kv.2.jobs.filter (fun j => j.st == .running && j.opcode != 0x20 && usesCtx s c j)).map (fun j => (kv.1, j.idx)))

/-- BARRIERs that still await a flush on the context, sent or not. -/
def ctxBarriers (s : State) (c : Nat) : List (Nat × Idx) :=
  s.rings.queues.flatMap (fun kv =>
    (kv.2.jobs.filter (fun j => j.st == .running && j.opcode == 0x20 && j.flush.contains c)).map (fun j => (kv.1, j.idx)))

/-- Deliveries that fetch over a peer slot. -/
def ctxDeliveries (s : State) (c : Nat) : List Nat :=
  (s.cat.deliveries.filter (fun d => d.msg.rdv && d.msg.ctx == c && d.msg.inc == (ctxOf s c).inc && !d.finSent)).map (·.id)

/-- Every unanswered packet of the context fails with the status, and every job of it with anything unsent or
outstanding (R353, R358). `d1` replaces DETAIL1 where closure by command marks it (R359). -/
def failContext (s : State) (c status : Nat) (d1 : Option Nat) (keep : Job → Bool := fun _ => false) : State :=
  let s := (ctxOf s c).unans.foldl (fun s u => packetFailed s c u status 0 0) s
  let s := (ctxBarriers s c).foldl (fun s p => flushOver s p.1 p.2 c status) s
  let s := (ctxJobs s c).foldl (fun s p =>
    match jobOf s p.1 p.2 with
    | some j =>
      if keep j then s
      else if j.opcode = 0x30 then endJob s p.1 p.2 status 0 (d1.getD 0)
      else endJob s p.1 p.2 (if j.status != 0 then j.status else status) (if j.status != 0 then j.detail0 else j.nextOff)
        (d1.getD (if j.status != 0 then j.detail1 else 0))
    | none => s) s
  (ctxDeliveries s c).foldl (fun s id =>
    let (n, s) := if status = stDestFenced then (stDestFenced, s) else draw s
    let s := failDelivery s id (if status = stDestFenced then stDestFenced else n % 256)
    match deliveryOf s id with
    | some d => dropItem (modDelivery s id (fun d => { d with finSent := true })) d.recv.q (.fin id)
    | none => s) s

/-- State codes (R335). -/
def ctxCode : CtxSt → Nat
  | .free => 0
  | .quarantine => 1
  | .ready => 2
  | .connected => 3
  | .error => 4
  | .opening => 5
  | .closing => 6

/-- A connection as the mirror carries it (R522). -/
def connCfgOf (x : Ctx) : ConnCfg :=
  { fn := x.fn, inc := x.inc, st := ctxCode x.st, reason := x.reason, plane := x.pPlane, coord := x.pCoord, ctx := x.pCtx,
    peerInc := x.pInc, retryUs := x.retryUs, retryMax := x.retryMax }

/-- A context enters ERROR with a reason, 1 RETRY_EXCEEDED or 2 DEST_FENCED (R335, R353, R358). -/
def ctxError (s : State) (c reason : Nat) : State :=
  let s := modCtx s c (fun x => { x with st := .error, reason := reason, heldFrom := none })
  let s := if (ctxOf s c).peer then s else mirror s (.conn c (connCfgOf (ctxOf s c)))
  let s := failContext s c (reasonStatus reason) none
  modCtx s c (fun x => { x with unans := [] })

/-- The reservations that a holder's connection has set are cleared, and what was counted of it (R330, R332). -/
def clearHolder (s : State) (x : Ctx) (c : Nat) : State :=
  let his := fun coord plane ctx inc => coord == x.pCoord && plane == x.pPlane && ctx == x.pCtx && inc == x.pInc
  { s with pal := { s.pal with
    rsvs := s.pal.rsvs.filter (fun r => !(his r.coord r.plane r.ctx r.inc && (fmGet s.ctx.ctxs c {}).fn == r.fn)),
    fails := s.pal.fails.filter (fun f => !his f.coord f.plane f.ctx f.inc) } }

/-- A context enters QUARANTINE: what it holds is gone (R335, R336). -/
def quarantine (s : State) (c : Nat) : State :=
  let x := ctxOf s c
  let s := clearHolder s x c
  setCtx s c { x with
    st := .quarantine, since := now s, reason := 0, unans := [], got := [], naked := [], early := [], inFlight := [],
    results := [], acks := [], heldFrom := none, openResend := none }

/-! ### Free contexts (R336) -/

/-- The context that has been FREE longest: one never used, else the one that has waited longest; of several, the lowest
(R336; log entry 17). A number that is live on the partner counts as in use (R518). -/
def freeContext (s : State) : Option Nat :=
  let theirs := fun c => onPartner s && (fmFind s.twn.mirror.conns c).isSome
  match firstFrom (fun c => (fmFind s.ctx.ctxs c).isNone && !theirs c) 65536 0 with
  | some c => some c
  | none => leastBy (fun c x => x.st == .free && !theirs c) (·.since) s.ctx.ctxs

/-- Take a free context with the next incarnation, in the given state (R336). -/
def takeContext (s : State) (c : Nat) (x : Ctx) : State :=
  setCtx s c { x with inc := ((ctxOf s c).inc + 1) % 256, used := now s }

end Sys2Proof.Machine
end

