-- ==== Sys2Proof/Machine/StrikeCmds.lean ====
section
/-! DEFINITION. Strike commands, group 0x07xx (R121, R122), and the switch and retirement of schedule epochs (R115 to
R117). -/

namespace Sys2Proof.Machine

/-- STRIKE_QUERY (R121). -/
def strikeQuery (_ : Nat) (c : Cmd) (s : State) : State × CmdOut :=
  if !zeroAt c.params 0 8 then (s, only stMalformed)
  else (s, .done stOk (leBytes 8 (stkState s) ++ leBytes 8 s.stk.epochT ++ leBytes 8 s.stk.epochR ++ leBytes 8 (stkCfg s)) 0)

/-- The device is between its ready report and R (R122). -/
def strikeBusy (s : State) : Bool := s.stk.activating || s.stk.dueT.isSome || s.stk.oldLive

/-- The idle bank with image data written into it. What has not been written since the bank was emptied reads as 0 in the checks of R102, and data
over an accepted image take its acceptance back, with LAST or without: the spec says neither (DESIGN CHOICE, log entry 35). -/
def stagedBank (s : State) (off : Nat) (data : List Byte) : StrikeBank :=
  { idleBank s with data := memWrite (idleBank s).data off data, sched := none }

/-- STRIKE_STAGE (R102, R121, R122). -/
def strikeStage (_ : Nat) (c : Cmd) (s : State) : State × CmdOut :=
  let p := c.params
  let off := numAt p 0 4
  let len := numAt p 4 2
  if off % 16 != 0 || len % 16 != 0 || len < 16 || len > 4080 || byteAt p 6 > 1 || !zeroAt p 7 9 then (s, only stMalformed)
  else if strikeBusy s || off + len > 2097152 then (s, only stNoResource)
  else
    let i := 1 - s.stk.current
    let b := stagedBank s off (p.drop 16)
    if byteAt p 6 = 0 then (setStkBank s i b, only stOk)
    else match acceptImage s b.data with
      | some x => (setStkBank s i { b with sched := some x }, only stOk)
      | none => (setStkBank s i {}, only stMalformed)

/-- STRIKE_ACTIVATE: reports ready to the epoch master and completes at this device's switch (R115, R122). Of NO_RESOURCE and MALFORMED the first
is found first, for which R122 states no order (DESIGN CHOICE, log entry 85). -/
def strikeActivate (_ : Nat) (c : Cmd) (s : State) : State × CmdOut :=
  if strikeBusy s then (s, only stNoResource)
  else match (idleBank s).sched with
    | none => (s, only stMalformed)
    | some x =>
      if x.id != numAt c.params 0 4 || x.epoch != numAt c.params 4 4 then (s, only stMalformed)
      else
        let s := { s with stk := { s.stk with activating := true } }
        (sendCur s (some s.rgl.rootCoord) (.ready (.strike (linearOf s s.mvt.coord) x.id x.epoch x.participants)), .wait .strikeSwitch)

/-- STRIKE_DISCARD (R121, R122). -/
def strikeDiscard (_ : Nat) (c : Cmd) (s : State) : State × CmdOut :=
  if !zeroAt c.params 0 8 then (s, only stMalformed)
  else if strikeBusy s then (s, only stNoResource)
  else (setStkBank s (1 - s.stk.current) {}, only stOk)

/-- STRIKE_FLOW_BIND: the lowest unused entry takes the binding, with HOLD and SPILL 0 (R104, R122, R563). -/
def strikeFlowBind (_ : Nat) (c : Cmd) (s : State) : State × CmdOut :=
  let p := c.params
  let q := numAt p 0 4
  let flow := numAt p 4 2
  if q > 262143 || flow = 0 || byteAt p 6 > 1 || byteAt p 7 != 0 then (s, only stMalformed)
  else if (queueOf s q).st = .disabled || (bindingOfQueue s q).isSome || (bindingOfFlow s flow).isSome then (s, only stMalformed)
  else match (List.range 4096).find? (fun n => (fmFind s.stk.bindings n).isNone) with
    | none => (s, only stNoResource)
    | some n => (setBinding s n { flow := flow, spill := byteAt p 6 = 1, queue := q }, only stOk)

/-- The STRIKE_LATE event of a late frame, with LATE_EVT set (R119, R235). -/
def lateEvent (s : State) (q : Nat) (j : Job) : State :=
  let x := queueOf s q
  if s.stk.lateEvt && !j.lateSeen then postEvent s x.fn x.evr 0x06 q j.idx.toNat else s

/-- The frame goes on as requests of its queue (R108, R110). -/
def spillFrame (s : State) (q : Nat) (idx : Idx) : State :=
  let s := modJob s q idx (fun j => { j with started := true, spilled := true, late := true })
  let s := match bindingOfQueue s q with
    | some (n, b) => setBinding s n { b with spills := b.spills + 1, held := false }
    | none => s
  pushItem (bump s 345) q (.job idx)

/-- A frame that spills is late (R108, R119). -/
def spillLate (s : State) (q : Nat) (idx : Idx) : State :=
  match jobOf s q idx with
  | some j => spillFrame (lateEvent s q j) q idx
  | none => s

/-- The front frame spills, and those behind it that become the front and find no window either, in posting order (R106, R110). -/
def spillFront (q : Nat) : Nat → State → State
  | 0, s => s
  | n + 1, s =>
    match frontFrame s q, bindingOfQueue s q with
    | some j, some (_, b) =>
      if injectionWindows s b.flow = [] && !isStalled s (.job q j.idx) then spillFront q n (spillLate s q j.idx) else s
    | _, _ => s

/-- Frames of a queue that wait for a window go on as requests of their queue (R104, R108, R121). -/
def spillHeld (s : State) (q : Nat) : State :=
  (((queueOf s q).jobs.filter isFrame).map (·.idx)).foldl (fun s i => spillLate s q i) s

/-- STRIKE_FLOW_UNBIND: the binding goes, and held frames spill: they go on as requests of their queue. A flow that
is not bound gives MALFORMED (R121; log entry 16). -/
def strikeFlowUnbind (_ : Nat) (c : Cmd) (s : State) : State × CmdOut :=
  let flow := numAt c.params 0 2
  if flow = 0 || !zeroAt c.params 2 6 then (s, only stMalformed)
  else match bindingOfFlow s flow with
    | none => (s, only stMalformed)
    | some (n, b) =>
      let s := spillHeld s b.queue
      ({ s with stk := { s.stk with bindings := fmErase s.stk.bindings n } }, only stOk)

/-- STRIKE_CONFIG (R119, R121). -/
def strikeConfig (_ : Nat) (c : Cmd) (s : State) : State × CmdOut :=
  let p := c.params
  let vm := byteAt p 2
  if vm > 3 || !zeroAt p 3 5 || (bitAt vm 0 && byteAt p 0 > 1) || (bitAt vm 1 && byteAt p 1 > 1) then (s, only stMalformed)
  else if vm != 0 && isExpert s 0x14 then (s, only stProtection)
  else ({ s with stk := { s.stk with
      checkEn := if bitAt vm 0 then byteAt p 0 = 1 else s.stk.checkEn,
      lateEvt := if bitAt vm 1 then byteAt p 1 = 1 else s.stk.lateEvt } }, only stOk)

/-! ### Schedule epochs (R115, R116) -/

/-- The idle schedule bank becomes the current one from the first tick at or after `t` on, the other stays live; a held frame goes on waiting (R115,
R117). -/
def turnStrike (s : State) (t : Nat) : State :=
  let i := 1 - s.stk.current
  let s := setStkBank s i { stkBank s i with from_ := (t + 3) / 4 }
  { s with stk := { s.stk with
    current := i, activating := false, oldLive := true, dueT := none } }

/-- STRIKE_EPOCH_SWITCH: at T the staged bank becomes current, and STRIKE_ACTIVATE completes (R115). The previous bank
stays until R. -/
def strikeSwitch (s : State) : State :=
  match s.stk.dueT with
  | none => s
  | some t =>
    if stamp s < t || !s.stk.activating then s
    else wakeCmds (turnStrike s t) (fun _ w => w == .strikeSwitch) stOk []

/-- STRIKE_EPOCH_RETIRE: at R the old bank is idled (R115). -/
def strikeRetire (s : State) : State :=
  match s.stk.dueR with
  | none => s
  | some r =>
    if stamp s < r || !s.stk.oldLive then s
    else
      { setStkBank s (1 - s.stk.current) {} with stk := { (setStkBank s (1 - s.stk.current) {}).stk with
        oldLive := false, dueR := none } }

/-- This device's part in a change that the master has cancelled ends with TIMEOUT; the staged bank stays (R116). -/
def cancelActivate (s : State) : State :=
  if !s.stk.activating || s.stk.dueT.isSome then s
  else wakeCmds { s with stk := { s.stk with activating := false } } (fun _ w => w == .strikeSwitch) stTimeout []

/-- STRIKE_ACTIVATE_TIMEOUT at the master: PARTICIPANTS reports have not arrived within 100 ms of the first. The change is cancelled, and every
device that reported is told (R116). -/
def strikeTimeout (s : State) : State :=
  match s.epo.strike with
  | none => s
  | some x =>
    if x.t.isSome || x.ready.length ≥ x.participants || now s < x.start + 100000000 then s
    else
      let s := { s with epo := { s.epo with strike := none } }
      x.ready.foldl (fun s n =>
        if n = linearOf s s.mvt.coord then cancelActivate s
        else sendCur s (some (coordOf s n)) (.flood (.strikeCancel x.id x.epoch))) s

end Sys2Proof.Machine
end

