-- ==== Sys2Proof/Machine/JobStart.lean ====
section
/-! DEFINITION. How jobs start: Provenance sampling (R569), FENCE (R316), the checks at the start of a connection job
(R338, R359), local operands and their stalls (R296), counter jobs (R368), the barrier (R319, R320) and NOP (R217). -/

namespace Sys2Proof.Machine

/-! ### Sampling at the start (R569) -/

/-- A job of an eligible function and opcode starts, or is armed, and is not malformed: the countdown goes on, and may choose it (R569). -/
def provenance (s : State) (q : Nat) (idx : Idx) : State :=
  match jobOf s q idx with
  | none => s
  | some j =>
    let p := s.mon.prov
    if !p.en || j.malformed || !(p.anyTenant || p.tenant == (queueOf s q).fn) || !(p.anyOpcode || p.opcode == j.opcode) then s
    else if s.mon.countdown > 1 then { s with mon := { s.mon with countdown := s.mon.countdown - 1 } }
    else
      let s := reloadCountdown s
      if tracked s ≥ 256 then bump s 402 else modJob s q idx (fun j => { j with sampled := true })

/-- The job starts: from waiting, or released from the armed state, where it was counted already (R366, R569). -/
def beginJob (s : State) (q : Nat) (idx : Idx) : State :=
  let armed : Bool := (match jobOf s q idx with | some j => j.st == .armed | none => false)
  let s := if armed then s else provenance s q idx
  let s := { s with ctx := { s.ctx with armed := s.ctx.armed.filter (fun a => !(a.q == q && a.idx == idx)) } }
  modJob s q idx (fun j => { j with st := .running, tStart := stamp s })

/-- A job that does all its work at once is done with OK. -/
def doneAtOnce (s : State) (q : Nat) (idx : Idx) : State :=
  completeJob (modJob s q idx (fun j => { j with built := true })) q idx

/-! ### FENCE (R316, R317) -/

/-- The jobs of the queue before `idx`. -/
def earlierJobs (s : State) (q : Nat) (idx : Idx) : List Job :=
  (queueOf s q).jobs.takeWhile (fun k => k.idx != idx)

/-- FENCE holds the job: an earlier job of its CONTEXT is not done. It is ignored on a BARRIER (R316, R318). -/
def fencedJob (s : State) (q : Nat) (j : Job) : Bool :=
  j.fence && j.opcode != 0x20 && (earlierJobs s q j.idx).any (fun k => k.context == j.context && k.st != .done)

/-- A barrier that is not done holds every later job of its queue (R319). -/
def behindBarrier (s : State) (q : Nat) (idx : Idx) : Bool :=
  (earlierJobs s q idx).any (fun k => k.opcode == 0x20 && !k.malformed && k.st != .done)

/-- The queue may start jobs: ACTIVE, or BLOCKED with room for error records, and not strict with a malformed job (R224, R228,
R229). -/
def mayStart (s : State) (q : Nat) : Bool :=
  let x := queueOf s q
  let gated := (s.twn.gate.filter (fun g => match g.2 with | .errRec k _ => k == q | _ => false)).length
  (x.st == .active || x.st == .blocked) && decide (x.waiting.length + gated < 8) && serves s x.fn
  && !(x.strict && x.jobs.any (·.malformed))

/-! ### Local operands (R288, R289, R296) -/

/-- Check a local operand of a job: true where the job may go on; else it has failed, or has stalled. -/
def localOperand (s : State) (q : Nat) (idx : Idx) (key off len need : Nat) : State × Bool :=
  let x := queueOf s q
  let a : Access := { key, off, len, need, sup := x.supervisor, fn := x.fn }
  match translate s a with
  | (s, .ok _ _) => (s, true)
  | (s, .fails st) => (failLocal s q idx st 0 0, false)
  | (s, .absent level va) =>
    match localFault s (.job q idx) x.fn q key (need / 2 % 2) level va with
    | (s, true) => (s, false)
    | (s, false) => (failLocal s q idx stTranslation 0 0, false)

/-- The local range of a connection job or SEND: key, offset, bytes and rights; none where it has none (R288, R339 to
R341, R326, R380). -/
def localRange (j : Job) : Option (Nat × Nat × Nat × Nat) :=
  match j.opcode with
  | 0x01 => some (opnd j 128 32, opnd j 160 48, opnd j 320 32, 1)
  | 0x03 => some (opnd j 128 32, opnd j 160 48, opnd j 320 32, 2)
  | 0x04 => if opnd j 128 32 / 256 = 0 then none else some (opnd j 128 32, opnd j 160 48, 8, 2)
  | 0x21 => some (opnd j 224 32, opnd j 256 48, 8, 2)
  | 0x30 => if opnd j 128 32 / 256 = 0 && opnd j 224 32 = 0 then none
            else some (opnd j 128 32, opnd j 160 48, opnd j 224 32, 1)
  | _ => none

/-! ### Strike frames (R105 to R110) -/

/-- A job that a check finds malformed after it was taken: it fails, and stops a strict queue (R105, R109, R228). -/
def foundMalformed (s : State) (q : Nat) (idx : Idx) : State :=
  endJob (modJob s q idx (fun j => { j with malformed := true })) q idx stMalformed 0 0

/-- The job's packets may be built: it joins what waits for injection, or waits at its flow. One that was taken before its queue was bound meets the
checks of a frame now (R105, R106, R110, R481). -/
def enqueueJob (s : State) (q : Nat) (idx : Idx) : State :=
  match bindingOfQueue s q with
  | some _ =>
    (match jobOf s q idx with
    | none => s
    | some j =>
      if strikeJobOk s q (queueOf s q) (j.entries.headD 0) then spillFront q (queueOf s q).jobs.length s
      else foundMalformed s q idx)
  | none => pushItem (modJob s q idx (fun j => { j with started := true })) q (.job idx)

/-! ### Connection jobs (R338, R359) -/

/-- A SEND joins the peer slot of its destination, and opens one where there is none (R77, R360, R361, R380). -/
def joinSlot (s : State) (q : Nat) (idx : Idx) (j : Job) : State :=
  let (plane, coord) := sendDest j
  match slotFor s plane coord with
  | some _ => enqueueJob s q idx
  | none =>
    if destFenced s plane coord then endJob s q idx stDestFenced 0 0
    else match freeContext s with
      | none => endJob s q idx stNoResource 0 0
      | some c =>
        let s := takeContext s c {
          st := .opening, peer := true, pPlane := plane, pCoord := coord, retryUs := 20, retryMax := 8, openAt := now s }
        enqueueJob (pushMaint s (fnPort s 0) (.open_ c)) q idx

/-- A started job whose local operand is good goes on. -/
def proceedJob (s : State) (q : Nat) (idx : Idx) (j : Job) : State :=
  if j.opcode = 0x30 then joinSlot s q idx j else enqueueJob s q idx

/-- The local operand of a started job is checked; then its packets may be built (R296). -/
def prepareJob (s : State) (q : Nat) (idx : Idx) : State :=
  match jobOf s q idx with
  | none => s
  | some j =>
    match localRange j with
    | none => proceedJob s q idx j
    | some (key, off, len, need) =>
      match localOperand s q idx key off len need with
      | (s, true) => proceedJob s q idx j
      | (s, false) => s

/-- PUT, PUT_IMM, GET, ATOMIC, RESERVE_LOAD and COND_STORE start (R338, R359). -/
def startConn (s : State) (q : Nat) (idx : Idx) : State :=
  match jobOf s q idx with
  | none => s
  | some j =>
    let s := beginJob s q idx
    let fn := (queueOf s q).fn
    let x := ctxOf s j.context
    if x.peer || x.fn != fn || !(x.st == .connected || x.st == .error) then endJob s q idx stProtection 0 0
    else if x.st = .error then endJob s q idx (reasonStatus x.reason) 0 0
    else if !fieldOwned s fn (jobCounter j) then endJob s q idx stProtection 0 0
    else prepareJob s q idx

/-! ### Counter jobs (R368) -/

/-- The change of a counter job has been applied: it is done (R368). -/
def counterDone (s : State) (q : Nat) (idx : Idx) : State :=
  match jobOf s q idx with
  | some j => if (j.opcode = 0x08 || j.opcode = 0x09) && j.st = .running then completeJob s q idx else s
  | none => s

/-- COUNTER_ADD and COUNTER_SET start. While PAIRED they are done when the twin has confirmed the change (R523). -/
def startCounter (set : Bool) (s : State) (q : Nat) (idx : Idx) : State :=
  match jobOf s q idx with
  | none => s
  | some j =>
    let s := modJob (beginJob s q idx) q idx (fun j => { j with built := true })
    let fn := (queueOf s q).fn
    let n := opnd j 128 13
    if !counterOwned s n fn then endJob s q idx stProtection 0 0
    else
      let paired := isPaired s
      let s := counterEvent s fn n (opnd j 160 32) set (some (q, idx))
      if paired then s else counterDone s q idx

/-- NOP: done when it is reached (R217). -/
def startNop (s : State) (q : Nat) (idx : Idx) : State := doneAtOnce (beginJob s q idx) q idx

/-! ### The barrier (R319, R320, R643) -/

/-- BARRIER: when every earlier job is done it flushes each connection that has early-acknowledged writes of the queue;
one that is found in ERROR is not flushed and gives its reason. -/
def startBarrier (s : State) (q : Nat) (idx : Idx) : State :=
  if (earlierJobs s q idx).any (fun k => k.st != .done) then s
  else
    let s := modJob (beginJob s q idx) q idx (fun j => { j with built := true })
    let cs := (queueOf s q).unflushed
    let bad := cs.find? (fun c => (ctxOf s c).st == .error)
    let good := cs.filter (fun c => (ctxOf s c).st != .error)
    let s := modJob s q idx (fun j => { j with
      flush := good,
      status := (match bad with | some c => reasonStatus (ctxOf s c).reason | none => 0),
      detail0 := (match bad with | some c => peerDetail s c | none => 0) })
    let s := good.foldl (fun s c => pushItem s q (.flush idx c)) s
    endBarrier s q idx

/-! ### Frames that start (R106 to R110, R119) -/

/-- The injection port of a queue (R28). -/
def queuePort (s : State) (q : Nat) : Nat := groupPort s (q / 4)

/-- The front frame starts now: its packets enter ahead of everything else (R106, R107). -/
def launchFrame (s : State) (n : Nat) (b : Binding) (j : Job) (d : Nat) : State :=
  let s := modJob s b.queue j.idx (fun j => { j with started := true, flow := b.flow })
  let s := setBinding s n { b with busy := tickNow s + d, held := false }
  let p := queuePort s b.queue
  bump { s with sch := { s.sch with strike := fmModify s.sch.strike p [] (· ++ [(b.queue, j.idx)]) } } 343

/-- A frame is late under hold: it stays at the front, and is counted once (R108, R119). -/
def holdFrame (s : State) (n : Nat) (b : Binding) (j : Job) : State :=
  if j.lateSeen then s
  else
    let s := modJob s b.queue j.idx (fun j => { j with lateSeen := true })
    bump (setBinding s n { b with holds := b.holds + 1, held := true }) 344

/-- STRIKE_FRAME_START: the front frame of a flow starts in a window that it fits, is held, or is spilled; one that
fits no window of the schedule is malformed under hold (R106 to R110). -/
def frameStart (s : State) (flow : Nat) : State :=
  match bindingOfFlow s flow with
  | none => s
  | some (n, b) =>
    match frontFrame s b.queue with
    | none => s
    | some j =>
      if isStalled s (.job b.queue j.idx) then s
      else
        let bank := stkBank s s.stk.current
        let ws := injectionWindows s flow
        let d := occupancy (jobLength j.opcode (j.entries.headD 0).toNat)
        let t := tickNow s
        let ends := ws.filterMap (fun w => occurrenceEnd bank w t)
        if ws = [] then spillLate s b.queue j.idx
        else if ws.all (fun w => decide (w.length < d)) then
          (if b.spill then spillLate s b.queue j.idx else foundMalformed s b.queue j.idx)
        else if t < b.busy || ends = [] || !windowOpen s j.context 0x02 then s
        else if ends.any (fun e => decide (t + d ≤ e)) then launchFrame s n b j d
        else if b.spill then spillLate s b.queue j.idx
        else holdFrame (lateEvent s b.queue j) n b j

end Sys2Proof.Machine
end

