-- ==== Sys2Proof/Machine/Grant.lean ====
section
/-! DEFINITION. The injection scheduler: what an injection port takes next (R479 to R488), how request packets are built
and sent (R339 to R347, R351, R383), policing (R490, R491), and the events that gate on the twin (R523). -/

namespace Sys2Proof.Machine

/-! ### Entering the Movement (R28, R50, R51, R490) -/

/-- The route header of a packet that this device injects: class, channel 0, 3 or 8 of the class, payload bytes. -/
def routeTo (s : State) (plane dest cls flow n : Nat) : RouteHdr :=
  { dest, src := s.mvt.coord, plane, cls, vc := (if cls = 1 then 3 else if cls = 3 then 8 else 0), epoch := currentBit s,
    age := field s.rgl.time 12 16, dir := dirBits s s.mvt.coord dest, len := 1 + (n + 63) / 64, flow }

/-- Each packet that leaves port 12 or 13 is tested by the policer of the function it is charged to (R490, R491). -/
def police (s : State) (fn : Nat) : State :=
  let f := fnSched s fn
  if !shaperOn f.pol || f.pol.tokens ≥ 1000000000 then bump (setFnSched s fn { f with pol := takeToken f.pol }) (403 + 4 * fn)
  else
    let ms := s.rgl.time / 4000000
    let s := bump (markSet (setFnSched s fn { f with exceeded := true, raisedIn := some ms }) 7 fn) (404 + 4 * fn)
    if f.raisedIn == some ms then s else fault s 176 fn

/-- A packet enters the Movement by an injection port, charged to a function: AGE and EPOCH are those of its injection, however long ago it was
built (R50, R79). -/
def inject (s : State) (port fn : Nat) (p : Packet) : State :=
  let p := { p with rt := { p.rt with age := field s.rgl.time 12 16, epoch := currentBit s } }
  let s := tapInj (bump (police s fn) (373 + port)) fn 1 p.payload.length
  let key := bufKey port p.rt.vc
  setBuf s key (bufOf s key ++ [{ pkt := p, got := p.rt.len, arr := now s }])

/-- A packet for a plane needs no crossing here, or can cross: port 14 is open and the bridge is READY (R64). -/
def crossable (s : State) (plane : Nat) : Bool := plane == s.brd.straps.plane || (!fenced s 14 && bridgeReady s)

/-- A reply waits at its port; its function is the one it is charged to (R30, R479). One that would have to cross while the bridge is fenced or
not READY is not built: its requester sends again (R64, R351; DESIGN CHOICE, log entry 138). -/
def pushReply (s : State) (port fn : Nat) (p : Packet) : State :=
  if !crossable s p.rt.plane then s else
  { s with sch := { s.sch with replies := fmModify s.sch.replies port [] (· ++ [(fn, p)]) } }

/-! ### Payload (R289, R296, R353) -/

/-- What reading a request's payload gives. -/
inductive SrcRead where
  | bytes (l : List Byte)
  | fails (status : Nat)
  | absent (level va : Nat)
  deriving DecidableEq, Repr

/-- Read a packet's payload from its source: a retransmission reads it again (R353). -/
def readSrc (s : State) : Src → State × SrcRead
  | .none => (s, .bytes [])
  | .data l => (s, .bytes l)
  | .mem q key off len =>
    let x := queueOf s q
    match translate s { key, off, len, need := 1, sup := x.supervisor, fn := x.fn } with
    | (s, .fails st) => (s, .fails st)
    | (s, .absent level va) => (s, .absent level va)
    | (s, .ok ps _) =>
      match readPieces s x.fn ps with
      | (s, some l) => (s, .bytes l)
      | (s, none) => (s, .fails stBusError)

/-- The part of a source from byte `off` on, `n` bytes long. -/
def srcPart (src : Src) (off n : Nat) : Src :=
  match src with
  | .none => .none
  | .data l => .data ((l.drop off).take n)
  | .mem q key base _ => .mem q key (base + off) n

/-- The source of a job's payload (R339, R340, R380). -/
def jobSrc (q : Nat) (j : Job) : Src :=
  match j.opcode with
  | 0x01 => .mem q (opnd j 128 32) (opnd j 160 48) (opnd j 320 32)
  | 0x02 => .data (((j.entries.flatMap (fun e => leBytes 32 (ebits e 256 256)))).take (opnd j 208 8))
  | 0x30 => if opnd j 224 32 = 0 then .none else .mem q (opnd j 128 32) (opnd j 160 48) (opnd j 224 32)
  | _ => .none

/-! ### Building a job's next packet -/

/-- Bytes that a job covers in packets: a SEND beyond EAGER_MAX travels as one MSG_RTS (R343, R381). -/
def jobTotal (s : State) (j : Job) : Nat :=
  match j.opcode with
  | 0x01 => opnd j 320 32 | 0x02 => opnd j 208 8 | 0x03 => opnd j 320 32
  | 0x30 => if opnd j 224 32 ≤ min s.cat.eagerMax 8192 then opnd j 224 32 else 0
  | _ => 0

/-- The transport header of the packet of a connection job from job offset `off`, `n` bytes (R345, R346). -/
def connPacket (x : Ctx) (fn : Nat) (bound : Bool) (j : Job) (off n : Nat) : ConnHdr :=
  let base : ConnHdr := {
    ttype := jobType j, srcCtx := 0, srcInc := x.inc, dstCtx := x.pCtx, dstInc := x.pInc, psn := x.nextPsn, srcFn := fn }
  match j.opcode with
  | 0x01 => { base with
      ttype := if bound then 0x02 else 0x01, key := opnd j 224 32, offset := opnd j 256 48 + off, length := n,
      rcntNum := opnd j 208 13, rcntEn := opnd j 223 1 = 1 }
  | 0x02 => { base with
      ttype := if bound then 0x02 else 0x01, key := opnd j 128 32, offset := opnd j 160 48, length := n,
      rcntNum := opnd j 224 13, rcntEn := opnd j 239 1 = 1 }
  | 0x03 => { base with
      key := opnd j 224 32, offset := opnd j 256 48 + off, length := n, rcntNum := opnd j 208 13,
      rcntEn := opnd j 223 1 = 1 }
  | 0x04 => { base with
      key := opnd j 224 32, offset := opnd j 256 48, aop := opnd j 208 8, operand0 := opnd j 320 64,
      operand1 := opnd j 384 64, rcntNum := opnd j 448 13, rcntEn := opnd j 463 1 = 1 }
  | 0x21 => { base with key := opnd j 128 32, offset := opnd j 160 48 }
  | 0x22 => { base with key := opnd j 128 32, offset := opnd j 160 48, operand0 := opnd j 256 64 }
  | _ => base

/-- The transport header of a SEND's packet (R380 to R384). -/
def msgPacket (s : State) (x : Ctx) (fn : Nat) (j : Job) (msn : Psn) (off n : Nat) : MsgHdr :=
  let len := opnd j 224 32
  let eager := len ≤ min s.cat.eagerMax 8192
  { ttype := if eager then 0x30 else 0x31, srcInc := x.inc, dstCtx := x.pCtx, dstInc := x.pInc, psn := x.nextPsn,
    dstEp := opnd j 281 12, srcEp := j.context % 4096, srcFn := fn, msn := msn, seg := if eager then off / 4096 else 0,
    twoSeg := eager && decide (len > 4096), comm := opnd j 304 16, msgLen := len, rdvId := if eager then 0 else j.rdvId.getD 0,
    length := n, tag := opnd j 320 64, moff := if eager then off else 0 }

/-- The mirror record that gates a first transmission while PAIRED, if one does (R523). -/
def gateRecord (c : Nat) (u : Unans) : Option MirrorRec :=
  match u.pkt.tt, u.job with
  | .conn h, some (q, idx) =>
    if h.ttype == 0x04 || h.ttype == 0x06 || h.rcntEn then some (.sent c u.psn q idx (u.off / 4096)) else none
  | .msg h, some (q, idx) =>
    if h.ttype == 0x31 || (h.ttype == 0x30 && h.seg == 0) then some (.begun q idx) else none
  | _, _ => none

/-- A request goes out for the first time: it takes the next PSN, waits for its answer, and enters by the port, or
waits for the twin (R347, R351, R523). -/
def firstSend (s : State) (port fn c : Nat) (u : Unans) (payload : List Byte) : State :=
  let s := modCtx s c (fun x => { x with
    nextPsn := if u.psn = x.nextPsn then x.nextPsn + 1 else x.nextPsn, unans := x.unans ++ [u], used := now s,
    replay := x.replay.filter (fun r => r.1 != u.psn) })
  let p := { u.pkt with payload := payload }
  match gateRecord c u with
  | some r => if isPaired s then gateOn s r (.packet port fn p) else inject s port fn p
  | none => inject s port fn p

/-- The context as a packet of an adopted connection's job sees it: a PSN that was mirrored for the packet is used again
(R528). -/
def replayed (x : Ctx) (q : Nat) (idx : Idx) (packet : Nat) : Ctx :=
  match x.replay.reverse.find? (fun r => r.2 == (q, idx, packet)) with
  | some (psn, _) => { x with nextPsn := psn }
  | none => x

/-- Build and send the next packet of a job. The flag says that a packet was taken. `strike`: in its window (R107). -/
def sendJob (s : State) (port q : Nat) (idx : Idx) (strike : Bool) : State × Bool :=
  match jobOf s q idx with
  | none => (s, false)
  | some j =>
    let fn := (queueOf s q).fn
    let isMsg := j.opcode = 0x30
    match (if isMsg then slotFor s (sendDest j).1 (sendDest j).2 else some j.context) with
    | none => (s, false)
    | some c =>
      let off := j.nextOff
      let x := replayed (ctxOf s c) q idx (off / 4096)
      let n := min 4096 (jobTotal s j - off)
      let whole := off + n ≥ jobTotal s j
      let src := if jobSrc q j = .none || (isMsg && jobTotal s j = 0) then Src.none else srcPart (jobSrc q j) off n
      match readSrc s src with
      | (s, .fails st) => (failPart s q idx st off none, false)
      | (s, .absent level va) =>
        let key := match src with | .mem _ k _ _ => k | _ => 0
        let (s, ok) := localFault s (.job q idx) fn q key 0 level va
        (if ok then s else failPart s q idx stTranslation off none, false)
      | (s, .bytes l) =>
        let msn := j.msn.getD x.nextMsn
        let tt : Transport := if isMsg then .msg { msgPacket s x fn j msn off n with srcCtx := c }
          else .conn { connPacket x fn (strike || j.spilled) j off n with srcCtx := c }
        let rt := routeTo s x.pPlane x.pCoord (if strike then 3 else 0) (if strike then j.flow else 0) l.length
        let u : Unans := {
          psn := x.nextPsn, pkt := { rt, tt }, src, q, job := some (q, idx), off, first := now s, last := now s }
        let s := if isMsg && j.msn.isNone then modCtx s c (fun x => { x with nextMsn := x.nextMsn + 1 }) else s
        let s := modJob s q idx (fun j => { j with
          nextOff := off + n, built := whole, pend := j.pend + 1, tFirst := some (j.tFirst.getD (stamp s)),
          msn := if isMsg then some msn else none })
        let s := if whole then dropItem s q (.job idx) else s
        (firstSend s port fn c u l, true)

/-! ### Requests of the device itself -/

/-- Send a packet again: its payload is read anew; a Strike packet goes as a request, and its frame is late (R111, R351,
R353). -/
def sendAgainNow (s : State) (port c : Nat) (psn : Psn) : State × Bool :=
  match (ctxOf s c).unans.find? (fun u => u.psn == psn && u.queued) with
  | none => (s, false)
  | some u =>
    let s := dropItem s u.q (.again c psn)
    let fn := (queueOf s u.q).fn
    match readSrc s u.src with
    | (s, .fails st) =>
      (match u.job, u.delivery with
        | some (q, idx), _ => failPart s q idx st u.off (some u.psn)
        | none, some id => failDelivery (abandon s c u) id st
        | none, none => abandon s c u, false)
    | (s, .absent level va) =>
      (match u.job with
        | some (q, idx) =>
          let key := match u.src with | .mem _ k _ _ => k | _ => 0
          let (s, ok) := localFault s (.job q idx) fn q key 0 level va
          if ok then pushItem s u.q (.again c psn) else failPart s q idx stTranslation u.off (some u.psn)
        | none => s, false)
    | (s, .bytes l) =>
      let x := ctxOf s c
      let n := u.total + 1
      let tt := match u.pkt.tt with
        | .conn h => .conn { h with sends := min n 33, dstCtx := x.pCtx, dstInc := x.pInc }
        | .msg h => .msg { h with sends := min n 33, dstCtx := x.pCtx, dstInc := x.pInc }
        | t => t
      let s := if u.pkt.rt.cls = 3 then
          match u.job with | some (q, idx) => modJob s q idx (fun j => { j with late := true }) | none => s
        else s
      let s := modUnans s c psn (fun u => { u with
        queued := false, timer := true, last := now s, total := n, sends := if u.counts then u.sends + 1 else u.sends,
        passed := 0, fast := false, pkt := { u.pkt with rt := { u.pkt.rt with cls := 0, flow := 0 } } })
      let s := modCtx s c (fun x => { x with used := now s })
      (inject s port fn { rt := routeTo s x.pPlane x.pCoord 0 0 l.length, tt, payload := l }, true)

/-- The FLUSH of a BARRIER on a connection (R320). -/
def sendFlush (s : State) (port q : Nat) (idx : Idx) (c : Nat) : State × Bool :=
  let x := ctxOf s c
  let fn := (queueOf s q).fn
  let h : ConnHdr := {
    ttype := 0x07, srcCtx := c, srcInc := x.inc, dstCtx := x.pCtx, dstInc := x.pInc, psn := x.nextPsn, srcFn := fn }
  let u : Unans := {
    psn := x.nextPsn, pkt := { rt := routeTo s x.pPlane x.pCoord 0 0 0, tt := .conn h }, src := .none, q,
    job := some (q, idx), first := now s, last := now s }
  let s := modJob (dropItem s q (.flush idx c)) q idx (fun j => { j with
    pend := j.pend + 1, tFirst := some (j.tFirst.getD (stamp s)) })
  (firstSend (bump s 318) port fn c u [], true)

/-- A message header on the receiving device's own direction of a peer slot (R384). -/
def backHdr (s : State) (d : Delivery) (ttype : Nat) : MsgHdr :=
  let x := ctxOf s d.msg.ctx
  { ttype, srcCtx := d.msg.ctx, srcInc := x.inc, dstCtx := x.pCtx, dstInc := x.pInc, psn := x.nextPsn,
    dstEp := d.msg.srcEp, srcEp := d.ep, srcFn := (queueOf s d.recv.q).fn, rdvId := d.msg.rdvId }

/-- Send one request of a delivery over its peer slot. -/
def sendBack (s : State) (port : Nat) (d : Delivery) (h : MsgHdr) (off : Nat) : State :=
  let x := ctxOf s d.msg.ctx
  let u : Unans := {
    psn := x.nextPsn, pkt := { rt := routeTo s x.pPlane x.pCoord 0 0 0, tt := .msg h }, src := .none, q := d.recv.q,
    delivery := some d.id, off, first := now s, last := now s }
  firstSend s port (queueOf s d.recv.q).fn d.msg.ctx u []

/-- The next MSG_RDV_GET of a rendezvous delivery, in MOFF order (R389). -/
def sendRdvGet (s : State) (port q id : Nat) : State × Bool :=
  match deliveryOf s id with
  | none => (dropItem s q (.rdvGet id), false)
  | some d =>
    let n := min 4096 (d.want - d.nextOff)
    let s := sendBack s port d { backHdr s d 0x32 with moff := d.nextOff, length := n } d.nextOff
    let s := modDelivery s id (fun d => { d with nextOff := d.nextOff + n, outstanding := d.outstanding + 1 })
    (if d.nextOff + n ≥ d.want then dropItem s q (.rdvGet id) else s, true)

/-- The MSG_FIN of a delivery: RESULT 0 delivered, 2 failed; MOFF holds the bytes fetched (R389, R392). -/
def sendFin (s : State) (port q id : Nat) : State × Bool :=
  match deliveryOf s id with
  | none => (dropItem s q (.fin id), false)
  | some d =>
    let result := if d.status = stOk || d.status = stTruncated then 0 else 2
    let s := sendBack s port d { backHdr s d 0x33 with moff := d.got, result := result } 0
    let s := if d.recorded then { s with cat := { s.cat with deliveries := s.cat.deliveries.filter (fun x => x.id != id) } }
      else modDelivery s id (fun d => { d with finSent := true })
    (dropItem s q (.fin id), true)

/-- Send what a queue has built. -/
def sendItem (s : State) (port q : Nat) : Item → State × Bool
  | .job idx => sendJob s port q idx false
  | .again c psn => sendAgainNow s port c psn
  | .flush idx c => sendFlush s port q idx c
  | .rdvGet id => sendRdvGet s port q id
  | .fin id => sendFin s port q id

/-- A connection-maintenance request (R356, R362, R363, R404, R479). -/
def sendMaint (s : State) (port : Nat) (m : Maint) : State :=
  let plain := fun (s : State) (c : Nat) (h : ConnHdr) =>
    let x := ctxOf s c
    let s := modCtx s c (fun x => { x with used := now s })
    inject s port (if x.peer then 0 else x.fn) { rt := routeTo s x.pPlane x.pCoord 0 0 0, tt := .conn h }
  match m with
  | .open_ c =>
    let x := ctxOf s c
    if x.st != .opening then s
    else
      let s := modCtx s c (fun x => { x with opens := x.opens + 1, openAt := now s })
      plain (bump s 307) c { ttype := 0x09, srcCtx := c, srcInc := x.inc, dstCtx := 0xFFFF, sends := min (x.opens + x.openNaks + 1) 33 }
  | .close c =>
    let x := ctxOf s c
    if x.st != .closing then s
    else
      let s := modCtx s c (fun x => { x with opens := x.opens + 1, openAt := now s })
      plain (bump s 308) c {
        ttype := 0x0A, srcCtx := c, srcInc := x.inc, dstCtx := x.pCtx, dstInc := x.pInc, sends := min (x.opens + 1) 33,
        offset := x.nextPsn.toNat + x.e.toNat * 2 ^ 24 }
  | .skip c psn =>
    match (ctxOf s c).unans.find? (fun u => u.psn == psn && u.skip && u.queued) with
    | none => s
    | some u =>
      let x := ctxOf s c
      let off := match u.pkt.tt with
        | .msg h => if h.ttype == 0x31 || (h.ttype == 0x30 && h.seg == 0) then h.msn.toNat + 2 ^ 24 else 0
        | _ => 0
      let s := modUnans s c psn (fun u => { u with
        queued := false, timer := true, last := now s, sends := u.sends + 1, total := u.total + 1 })
      plain (bump s 304) c {
        ttype := 0x08, srcCtx := c, srcInc := x.inc, dstCtx := x.pCtx, dstInc := x.pInc, psn := psn,
        sends := min (u.sends + 1) 33, offset := off, srcFn := if x.peer then 0 else x.fn }
  | .refuse c rdvId fn ep =>
    let x := ctxOf s c
    let h : MsgHdr := {
      ttype := 0x33, srcCtx := c, srcInc := x.inc, dstCtx := x.pCtx, dstInc := x.pInc, psn := x.nextPsn, dstEp := 0,
      srcEp := ep, srcFn := fn, rdvId := rdvId, result := 1 }
    let u : Unans := {
      psn := x.nextPsn, pkt := { rt := routeTo s x.pPlane x.pCoord 0 0 0, tt := .msg h }, src := .none, first := now s,
      last := now s }
    firstSend s port fn c u []

/-- A maintenance request may go: a RESULT 1 needs its slot's window; a fenced peer holds everything (R358, R404). -/
def maintReady (s : State) : Maint → Bool
  | .open_ c => injects s && !peerFenced s (ctxOf s c) && ejectRoom s 1
  | .close c => injects s && !peerFenced s (ctxOf s c) && ejectRoom s 1
  | .skip c _ => injects s && !peerFenced s (ctxOf s c)
  | .refuse c _ _ _ => windowOpen s c 0x33

/-! ### Deficit round robin (R481, R482) -/

/-- The slot of a group that is served next: the first after the last served that has a ready packet (R481). -/
def nextSlot (s : State) (g : Nat) : Option Nat :=
  let last := (groupSched s g).slot
  ((List.range 4).map (fun i => (last + 1 + i) % 4)).find? (fun i => queueReady s (4 * g + i))

def turnOf (s : State) (port : Nat) : Bool := if port = 12 then s.sch.turn12 else s.sch.turn13

def setTurn (s : State) (port : Nat) (b : Bool) : State :=
  { s with sch := if port = 12 then { s.sch with turn12 := b } else { s.sch with turn13 := b } }

/-- The head group's turn ends: it goes to the tail while it has a ready packet, else it leaves with deficit 0. -/
def endTurn (s : State) (port g : Nat) : State :=
  let rest := (activeList s port).drop 1
  let s := setTurn s port false
  if groupReady s g then setList s port (rest ++ [g])
  else setList (setGroup s g { groupSched s g with deficit := 0 }) port rest

/-- The head group is BLOCKED by a shaper: its turn ends and it leaves the list. -/
def blockGroup (s : State) (port g : Nat) : State :=
  let s := setGroup s g { groupSched s g with deficit := 0, blocked := true }
  bump (setTurn (setList s port ((activeList s port).drop 1)) port false) (375 + port)

/-- Grant the group's next packet, with one packet of deficit and of each shaper. -/
def grantGroup (s : State) (port g : Nat) : State :=
  match nextSlot s g with
  | none => s
  | some i =>
    let q := 4 * g + i
    match (readyOf s q).find? (itemReady s q) with
    | none => s
    | some it =>
      let s := setGroup s g { groupSched s g with slot := i }
      match sendItem s port q it with
      | (s, false) => s
      | (s, true) =>
        let fn := groupOwner s g
        let f := fnSched s fn
        let s := setFnSched s fn { f with sh0 := takeToken f.sh0, sh1 := takeToken f.sh1 }
        let x := groupSched s g
        let s := setGroup s g { x with deficit := x.deficit - 1 }
        if groupReady s g && decide (x.deficit ≥ 2) then s else endTurn s port g

/-- Serve the active list until one packet is granted, or every listed group has had its turn (R482). -/
def serveList (port : Nat) : Nat → State → State
  | 0, s => s
  | n + 1, s =>
    match activeList s port with
    | [] => s
    | g :: _ =>
      let x := groupSched s g
      let s := if turnOf s port then s
        else setTurn (setGroup s g { x with deficit := x.deficit + x.quantum }) port true
      if !groupReady s g || (groupSched s g).deficit = 0 then serveList port n (endTurn s port g)
      else if !shapersAdmit s (groupOwner s g) then serveList port n (blockGroup s port g)
      else grantGroup s port g

/-- The started Strike frames of a port that still have a packet to build and do not wait for a page. -/
def startedFrames (s : State) (port : Nat) : List (Nat × Idx) :=
  (fmGet s.sch.strike port []).filter (fun p => match jobOf s p.1 p.2 with
    | some j => j.st == .running && !j.built && !j.spilled && !isStalled s (.job p.1 p.2)
    | none => false)

/-- A frame's next packet may leave: this tick lies in a window of its flow, and its connection's window is open. A frame that has stalled past its
window goes on in the next occurrence (R107, R343; DESIGN CHOICE, log entry 148). -/
def frameReady (s : State) (p : Nat × Idx) : Bool :=
  match jobOf s p.1 p.2 with
  | some j => inWindow s j.flow (tickNow s) && windowOpen s j.context 0x02
  | none => false

/-- A frame has begun whose flow has no window any more: the rest of it spills (R110). -/
def spillStranded (s : State) (port : Nat) : State :=
  (startedFrames s port).foldl (fun s p =>
    match jobOf s p.1 p.2 with
    | some j =>
      if injectionWindows s j.flow = [] && !(s.stk.oldLive && windowsOf (idleBank s) j.flow 12 != [])
      then spillFrame (lateEvent s p.1 j) p.1 p.2 else s
    | none => s) s

/-- INJECTION_GRANT: a Strike frame, a reply, a maintenance request, or the choice of deficit round robin (R479). Nothing is injected before the
Regulator has synchronised (R85). -/
def injectionGrant (s : State) (port : Nat) : State :=
  if (port != 12 && port != 13) || !s.rgl.hadSync then s
  else
    let s := spillStranded s port
    let frames := startedFrames s port
    let s := { s with sch := { s.sch with strike := fmSet s.sch.strike port frames } }
    match frames.find? (frameReady s) with
    | some (q, idx) => (sendJob s port q idx true).1
    | none =>
      match fmGet s.sch.replies port [] with
      | (fn, p) :: l =>
        let s := { s with sch := { s.sch with replies := fmSet s.sch.replies port l } }
        if crossable s p.rt.plane then inject s port fn p else s
      | [] =>
        let ms := fmGet s.sch.maint port []
        match ms.find? (maintReady s) with
        | some m => sendMaint { s with sch := { s.sch with maint := fmSet s.sch.maint port (ms.erase m) } } port m
        | none => serveList port ((activeList s port).length + 1) s

end Sys2Proof.Machine
end

