-- ==== Sys2Proof/Machine/Replies.lean ====
section
/-! DEFINITION. What every arriving packet meets first: the context checks (R357), the classes of a request (R348), the
state of the function (R71, R186, R618), and the answers of a target with their mirror records (R349, R350, R523). -/

namespace Sys2Proof.Machine

/-! ### The packet and its context -/

/-- The packet leaves ejection staging. -/
def consume (s : State) (p : Packet) : State := { s with mvt := { s.mvt with eject := s.mvt.eject.erase p } }

/-- The plane that the packet's sender is on: a packet that crossed the bridge where it was injected comes from the other
plane (R64; log entry 19). -/
def srcPlane (s : State) (p : Packet) : Nat :=
  let own := s.brd.straps.plane
  if p.rt.plane != own then p.rt.plane else if p.rt.xb then 1 - own else own

/-- The fields of R345 that R357 checks. -/
structure CtxIds where
  srcCtx : Nat
  srcInc : Nat
  dstCtx : Nat
  dstInc : Nat
  psn : Psn
  deriving DecidableEq, Repr

def connIds (h : ConnHdr) : CtxIds := ⟨h.srcCtx, h.srcInc, h.dstCtx, h.dstInc, h.psn⟩
def msgIds (h : MsgHdr) : CtxIds := ⟨h.srcCtx, h.srcInc, h.dstCtx, h.dstInc, h.psn⟩

def idsOf : Transport → CtxIds
  | .conn h => connIds h
  | .msg h => msgIds h
  | _ => ⟨0, 0, 0, 0, 0⟩

/-- The outcome of R357. -/
inductive CtxCheck where
  | classify
  | notReady
  | quarantine
  | stale
  deriving DecidableEq, Repr

def ctxCheck (s : State) (p : Packet) (i : CtxIds) : CtxCheck :=
  let x := ctxOf s i.dstCtx
  let mine := i.dstInc == x.inc
  if (x.st == .connected || (x.st == .closing && x.peer)) && mine && i.srcCtx == x.pCtx && i.srcInc == x.pInc
     && p.rt.src == x.pCoord && srcPlane s p == x.pPlane then .classify
  else if x.st == .opening && x.peer then .notReady
  else if x.st == .quarantine && mine then .quarantine
  else if x.st == .ready then .notReady
  else .stale

/-- The classes of an arriving request (R348). -/
inductive PsnClass where
  | new
  | duplicate
  | outside
  deriving DecidableEq, Repr

def psnClass (x : Ctx) (p : Psn) : PsnClass :=
  let d := (p - x.e).toNat
  if d < 256 then (if x.got.contains p then .duplicate else .new)
  else if d ≥ 2 ^ 24 - 256 then .duplicate
  else .outside

/-! ### Replies -/

/-- A reply to an arrived packet, from this device's context (R345): type, status, and the fields that it carries. -/
def replyTo (s : State) (p : Packet) (i : CtxIds) (h : ConnHdr) (payload : List Byte) : Packet :=
  { rt := routeTo s (srcPlane s p) p.rt.src 1 0 payload.length,
    tt := .conn { h with srcCtx := i.dstCtx, srcInc := (ctxOf s i.dstCtx).inc, dstCtx := i.srcCtx, dstInc := i.srcInc },
    payload := payload }

/-- The function that a context's replies are charged to (R30): its owner; 0 for a peer slot. -/
def ctxFn (s : State) (c : Nat) : Nat := (ctxOf s c).fn

/-- An answer that marks nothing, and waits for nothing. -/
def plainReply (s : State) (fn : Nat) (p : Packet) : State := pushReply s (fnPort s fn) fn p

/-- The PSN is marked received; E passes every marked PSN (R349). `nak`: its answer is a final NAK (R644); `early`: it was
early-acknowledged. -/
def advanceE : Nat → Ctx → Ctx
  | 0, x => x
  | n + 1, x => if x.got.contains x.e then advanceE n { x with got := without x.got x.e, e := x.e + 1 } else x

def near (e p : Psn) : Bool := decide ((p - e).toNat < 256) || decide ((e - p).toNat ≤ 256)

def markPsn (psn : Psn) (nak early : Bool) (x : Ctx) : Ctx :=
  let x := advanceE 257 { x with
    got := if (psn - x.e).toNat < 256 then withMember x.got psn else x.got, inFlight := without x.inFlight psn,
    naked := if nak then withMember x.naked psn else x.naked, early := if early then withMember x.early psn else x.early }
  { x with naked := x.naked.filter (near x.e), early := x.early.filter (near x.e) }

def markReceived (s : State) (c : Nat) (psn : Psn) (nak early : Bool) : State := modCtx s c (markPsn psn nak early)

/-- The cached answer of an atomic, RESERVE_LOAD or COND_STORE (R355). -/
def cachedOf (s : State) (c : Nat) (psn : Psn) : Option ConnHdr :=
  ((ctxOf s c).results.find? (fun r => r.1 == psn)).map (·.2)

/-- The mirror record of an answer that marks its PSN received (R523). -/
def receivedRec (s : State) (c : Nat) (psn : Psn) (nak : Bool) : MirrorRec := .received c psn nak (cachedOf s c psn)

/-- An answer of the target that marks its request received; while PAIRED it waits for its record (R349, R523). -/
def finalReply (s : State) (fn c : Nat) (psn : Psn) (nak : Bool) (p : Packet) : State :=
  if isPaired s then
    gateOn (modCtx s c (fun x => { x with inFlight := withMember x.inFlight psn })) (receivedRec s c psn nak)
      (.reply (fnPort s fn) fn p c psn nak)
  else pushReply (markReceived s c psn nak false) (fnPort s fn) fn p

/-- An acknowledgement of a function's has reached its point: it is merged and sent by ACK_SEND (R350, R523). -/
def ackPoint (s : State) (fn c : Nat) (psn : Psn) (early late : Bool) : State :=
  let a : PendAck := { psn, early, late, at_ := now s, fn }
  if isPaired s then
    gateOn (modCtx s c (fun x => { x with inFlight := withMember x.inFlight psn })) (receivedRec s c psn false) (.ack c a)
  else modCtx (markReceived s c psn false early) c (fun x => { x with acks := x.acks ++ [a] })

/-- A NAK with a status (R349). -/
def nakHdr (psn : Psn) (status d0 d1 : Nat) : ConnHdr :=
  { ttype := 0x11, status, srcCtx := 0, srcInc := 0, dstCtx := 0, dstInc := 0, psn, operand0 := d0, operand1 := d1 }

/-- A final NAK (R349). -/
def finalNak (s : State) (p : Packet) (i : CtxIds) (fn status d0 d1 : Nat) : State :=
  finalReply s fn i.dstCtx i.psn true (replyTo s p i (nakHdr i.psn status d0 d1) [])

/-- A transient NAK: it marks nothing (R349). -/
def transientNak (s : State) (p : Packet) (i : CtxIds) (fn status : Nat) : State :=
  plainReply s fn (replyTo s p i (nakHdr i.psn status 0 0) [])

/-! ### The function behind the packet (R71, R186, R546, R618) -/

/-- How a function takes arrivals: at once; not yet, its packets wait for ejection; answered NO_RESOURCE; answered
DEST_FENCED. -/
inductive FnGate where
  | takes
  | waits
  | noResource
  | fenced
  deriving DecidableEq, Repr

def fnGate (s : State) (fn : Nat) : FnGate :=
  let f := fnOf s fn
  if f.fenced || f.sinceFlr then .fenced
  else if f.d3hot then .noResource
  else if !canAccess s fn then .waits
  else .takes

/-- Delivered packets that wait for a function (HIF_EJECT_WAIT, R558). -/
def heldCount (s : State) (fn : Nat) : Nat :=
  (s.mvt.heldFor.filter (fun x => x.2 == fn && s.mvt.eject.contains x.1)).length

/-- The packet waits in ejection staging; the function's ejection makes no progress from now (R71, R186). -/
def holdPacket (s : State) (fn : Nat) (p : Packet) : State :=
  let s := { s with mvt := { s.mvt with
      eject := s.mvt.eject.erase p ++ [p],
      heldFor := (s.mvt.heldFor.filter (fun x => x.1 != p && s.mvt.eject.contains x.1)) ++ [(p, fn)] } }
  let s := noteLevel s (406 + 4 * fn) (heldCount s fn)
  if (fnOf s fn).d3hot then s
  else setFn s fn (fun f => { f with stallFrom := some (f.stallFrom.getD (now s)) })

/-- A packet is delivered for the function: it leaves the Movement through the function's port (R28, R558). -/
def delivered (s : State) (fn : Nat) (p : Packet) : State :=
  let port := fnPort s fn
  setFn (bump (bump (bumpBy s (8 + 2 * port) p.rt.len) (9 + 2 * port)) (405 + 4 * fn)) fn (fun f => { f with stallFrom := none })

/-! ### Requests -/

/-- The rights that a request asks for: read 1, write 2 (R289). -/
def rightsOf (ttype : Nat) : Nat := if ttype = 0x03 || ttype = 0x05 then 1 else if ttype = 0x04 then 3 else 2

/-- The status of a duplicate whose original drew a final NAK, found without memory access (R644). -/
def dupStatus (s : State) (c : Nat) (p : Packet) : Nat × Nat :=
  match p.tt with
  | .conn h =>
    if h.ttype = 0x07 then (stDestFenced, 0)
    else
      let st := firstChecks s {
        key := h.key, off := h.offset, len := h.length, need := rightsOf h.ttype, remote := true, fn := ctxFn s c,
        atomic := isAtomicType h.ttype }
      (if st != 0 then st else stRemoteAccess, 0)
  | .msg h =>
    match fmFind s.cat.eps h.dstEp with
    | some e => if e.live && !(fnOf s e.owner).fenced && !(fnOf s e.owner).flr then (stRemoteAccess, 0) else (stDestFenced, 1)
    | none => (stDestFenced, 1)
  | _ => (stRemoteAccess, 0)

/-- The ACK of one PSN (R345, R346). -/
def ackHdr (psn : Psn) (mask emask status : Nat) : ConnHdr :=
  { ttype := 0x10, status, srcCtx := 0, srcInc := 0, dstCtx := 0, dstInc := 0, psn, key := mask, offset := emask }

/-- The ACK of a duplicate, at once (R354). -/
def dupAck (s : State) (p : Packet) (i : CtxIds) (fn : Nat) (late : Bool) : State :=
  let e := b2n ((ctxOf s i.dstCtx).early.contains i.psn)
  plainReply s fn (replyTo s p i (ackHdr i.psn 1 e (if late then stStrikeLate else 0)) [])

/-- A request that takes a PSN arrives: R357, the function's state, and R348 decide; a new one is handed to `fresh`, a
duplicate to `again` (R349, R354, R644). `cached` says that the result cache answers this duplicate. -/
def requestFor (s : State) (p : Packet) (fn : Nat) (gate : FnGate) (cached : Bool) (fresh again : State → State) : State :=
  let i := idsOf p.tt
  let c := i.dstCtx
  match ctxCheck s p i with
  | .notReady => bump (consume s p) 298
  | .stale => bump (consume s p) 299
  | .quarantine => plainReply (consume s p) (ctxFn s c) (replyTo s p i (nakHdr i.psn stDestFenced 0 0) [])
  | .classify =>
    match gate with
    | .noResource => transientNak (consume s p) p i fn stNoResource
    | .waits => holdPacket s fn p
    | g =>
      let s := delivered (modCtx (consume s p) c (fun x => { x with used := now s })) fn p
      match psnClass (ctxOf s c) i.psn with
      | .outside => bump s 297
      | .duplicate =>
        let s := bump s 302
        if (ctxOf s c).naked.contains i.psn && !cached then
          let d := dupStatus s c p
          plainReply s fn (replyTo s p i (nakHdr i.psn d.1 0 d.2) [])
        else again s
      | .new =>
        if (ctxOf s c).inFlight.contains i.psn then bump s 302
        else if g = .fenced then finalNak s p i fn stDestFenced 0 0
        else fresh s

/-- A request whose function is that of its context. -/
def request (s : State) (p : Packet) (cached : Bool) (fresh again : State → State) : State :=
  let fn := ctxFn s (idsOf p.tt).dstCtx
  requestFor s p fn (fnGate s fn) cached fresh again

/-- The lowest PSN of a result cache. -/
def lowestPsn : List (Psn × ConnHdr) → Option Psn
  | [] => none
  | (p, _) :: l => match lowestPsn l with
    | none => some p
    | some m => some (if psnBefore p m then p else m)

/-- Keep an answer in the result cache, which holds the 8 highest PSNs (R355). -/
def keepResult (psn : Psn) (h : ConnHdr) (x : Ctx) : Ctx :=
  let l := x.results.filter (fun r => r.1 != psn) ++ [(psn, h)]
  { x with results := (if l.length ≤ 8 then l else match lowestPsn l with
      | some m => l.filter (fun r => r.1 != m)
      | none => l) }

def cacheResult (s : State) (c : Nat) (psn : Psn) (h : ConnHdr) : State := modCtx s c (keepResult psn h)

/-- A remote access to the target's memory, with the counter check of R367 at step 6 (R289). -/
def remoteAccess (s : State) (fn need : Nat) (h : ConnHdr) : State × Xlat :=
  let a : Access := {
    key := h.key, off := h.offset, len := h.length, need, remote := true, atomic := isAtomicType h.ttype, fn }
  if firstChecks s a = 0 && h.rcntEn && !counterOwned s h.rcntNum fn then (s, .fails stRemoteAccess)
  else translate s a

/-- A request whose pages are not all present: nothing is read or written; it is answered PAGE_PENDING (R297). -/
def pagePending (s : State) (p : Packet) (i : CtxIds) (fn key access level va : Nat) : State :=
  transientNak (targetFault s fn p.rt.src (srcPlane s p) key access level va) p i fn stPagePending

/-- The remote counter advances by 1 once the packet has been applied (R367). -/
def advanceRcnt (s : State) (fn : Nat) (h : ConnHdr) : State :=
  if h.rcntEn then counterEvent s fn h.rcntNum 1 false none else s

end Sys2Proof.Machine
end

