-- ==== Sys2Proof/Machine/Arrivals.lean ====
section
/-! DEFINITION. Requests at their target: puts, gets, atomics and the reservation pair, FLUSH and SKIP (R311, R313, R320,
R324 to R332, R341, R342, R354 to R356, R367). -/

namespace Sys2Proof.Machine

/-! ### Puts (R112, R313, R367) -/

/-- A new put: checked, written, and acknowledged at its point. `late`: a Strike put that came as a request (R112). -/
def freshPut (p : Packet) (h : ConnHdr) (late : Bool) (s : State) : State :=
  let i := connIds h
  let fn := ctxFn s i.dstCtx
  match remoteAccess s fn 2 h with
  | (s, .fails st) => finalNak s p i fn st 0 0
  | (s, .absent level va) => pagePending s p i fn h.key 1 level va
  | (s, .ok ps early) =>
    let l := padTo h.length p.payload
    let s := if early then issuePieces s { fn, ctx := some i.dstCtx, psn := i.psn, region := h.key / 256, addr := 0, relaxed := (fnOf s fn).relaxed } ps l
      else writePieces s fn ps l
    if early then
      let s := ackPoint (tapDlv s fn 1 p.payload.length) fn i.dstCtx i.psn true late
      if h.rcntEn then
        match visible s fn ps with
        | (s, true) => advanceRcnt s fn h
        | (s, false) => s
      else s
    else match visible s fn ps with
      | (s, true) => ackPoint (tapDlv (advanceRcnt s fn h) fn 1 p.payload.length) fn i.dstCtx i.psn false late
      | (s, false) => finalNak s p i fn stBusError 0 0

/-- A new request would access a granule that another holds: it waits in ejection staging (R325). -/
def granuleWaits (s : State) (p : Packet) (h : ConnHdr) : Bool :=
  let x := ctxOf s h.dstCtx
  s.twn.gate != [] && ctxCheck s p (connIds h) == .classify && psnClass x h.psn == .new && !x.inFlight.contains h.psn
  && (match (remoteAccess s x.fn (rightsOf h.ttype) (if isAtomicType h.ttype then { h with length := 8 } else h)).2 with
      | .ok ps _ => heldAt s ps
      | _ => false)

/-- A request that writes, or that R325 serialises with writes. -/
def serialRequest (s : State) (p : Packet) (h : ConnHdr) (cached : Bool) (fresh again : State → State) : State :=
  if granuleWaits s p h then s else request s p cached fresh again

def putArrival (s : State) (p : Packet) : State :=
  match p.tt with
  | .conn h =>
    if h.ttype = 0x01 then
      serialRequest s p h false (freshPut p h false) (fun s => dupAck s p (connIds h) (ctxFn s h.dstCtx) false)
    else s
  | _ => s

def strikePutArrival (s : State) (p : Packet) : State :=
  match p.tt with
  | .conn h =>
    let late := p.rt.cls = 0
    if h.ttype = 0x02 then
      serialRequest s p h false (freshPut p h late) (fun s => dupAck s p (connIds h) (ctxFn s h.dstCtx) late)
    else s
  | _ => s

/-! ### Gets (R343, R367) -/

/-- The GET_DATA of so many bytes that answers a get (R345, R346). -/
def getDataHdr (h : ConnHdr) (n : Nat) : ConnHdr := { ttype := 0x12, psn := h.psn, offset := h.offset, length := n }

/-- A get reads its range and answers GET_DATA; a duplicate is executed again (R354). -/
def freshGet (p : Packet) (h : ConnHdr) (isNew : Bool) (s : State) : State :=
  let i := connIds h
  let fn := ctxFn s i.dstCtx
  let nak := fun s st => if isNew then finalNak s p i fn st 0 0 else plainReply s fn (replyTo s p i (nakHdr i.psn st 0 0) [])
  match remoteAccess s fn 1 h with
  | (s, .fails st) => nak s st
  | (s, .absent level va) => pagePending s p i fn h.key 0 level va
  | (s, .ok ps _) =>
    match readPieces s fn ps with
    | (s, none) => nak s stBusError
    | (s, some l) =>
      let reply := replyTo s p i (getDataHdr h l.length) l
      if isNew then finalReply (advanceRcnt s fn h) fn i.dstCtx i.psn false reply else plainReply s fn reply

def getArrival (s : State) (p : Packet) : State :=
  match p.tt with
  | .conn h =>
    if h.ttype = 0x03 then request s p false (freshGet p h true) (freshGet p h false) else s
  | _ => s

/-! ### Atomics (R341, R342) -/

/-- The new value of a word under an operation (R341). -/
def atomicNew (aop w a b : Nat) : Nat :=
  let m := 2 ^ 64
  let lt := decide (toSigned 64 w < toSigned 64 a)
  match aop with
  | 0 => (w + a) % m
  | 1 => Nat.land w a
  | 2 => Nat.lor w a
  | 3 => Nat.xor w a
  | 4 => a
  | 5 => if w = a then b else w
  | 6 => if lt then w else a
  | 7 => if lt then a else w
  | 8 => min w a
  | 9 => max w a
  | _ => addWords fp64 (Config.nanSum w a % m) w a

/-- The granule that the pieces of an 8-byte access name (R324). -/
def granule (ps : List Piece) : Nat := match ps with | q :: _ => granuleOf q | [] => 0

/-- Every reservation on a granule is cleared (R328, R330). -/
def clearGranule (s : State) (g : Nat) : State :=
  { s with pal := { s.pal with rsvs := s.pal.rsvs.filter (fun r => r.addr != g) } }

/-- An answer that the result cache keeps (R355). -/
def cachedReply (s : State) (p : Packet) (i : CtxIds) (fn : Nat) (h : ConnHdr) (nak : Bool) : State :=
  let s := if nak then s else tapDlv s fn 1 p.payload.length
  finalReply (cacheResult s i.dstCtx i.psn h) fn i.dstCtx i.psn nak (replyTo s p i h [])

/-- A refused atomic or reservation access is cached with its NAK (R355). -/
def cachedNak (s : State) (p : Packet) (i : CtxIds) (fn st d0 d1 : Nat) : State :=
  cachedReply s p i fn (nakHdr i.psn st d0 d1) true

def dataHdr (psn : Psn) (v : Nat) : ConnHdr :=
  { ttype := 0x13, srcCtx := 0, srcInc := 0, dstCtx := 0, dstInc := 0, psn, operand0 := v }

/-- An ATOMIC whose old value has been read writes, once its record is confirmed, and answers (R342, R523). -/
def writeAtomic (p : Packet) (h : ConnHdr) (ps : List Piece) (old : Nat) (s : State) : State :=
  let i := connIds h
  let fn := ctxFn s i.dstCtx
  let new := atomicNew h.aop old h.operand0 h.operand1
  let s := clearGranule s (granule ps)
  let (s, ok) := if new = old then (s, true) else visible (writePieces s fn ps (leBytes 8 new)) fn ps
  if ok then cachedReply (advanceRcnt s fn h) p i fn (dataHdr i.psn old) false
  else cachedNak s p i fn stBusError 0 0

/-- While PAIRED the write of an ATOMIC or COND_STORE waits for a record of its old and new value, and holds its granule (R325, R523). -/
def gateWrite (s : State) (p : Packet) (i : CtxIds) (ps : List Piece) (old new : Nat) : State :=
  gateOn (modCtx s i.dstCtx (fun x => { x with inFlight := withMember x.inFlight i.psn }))
    (.atomic i.dstCtx i.psn (ctxFn s i.dstCtx) (granule ps) old new) (.apply p old (ps.map (fun p => (p.local_, p.addr, p.len))))

/-- A new ATOMIC (R342, R523). -/
def freshAtomic (p : Packet) (h : ConnHdr) (s : State) : State :=
  let i := connIds h
  let fn := ctxFn s i.dstCtx
  match remoteAccess s fn 3 { h with length := 8 } with
  | (s, .fails st) => cachedNak s p i fn st 0 0
  | (s, .absent level va) => pagePending s p i fn h.key 1 level va
  | (s, .ok ps _) =>
    match readPieces s fn ps with
    | (s, none) => cachedNak s p i fn stBusError 0 0
    | (s, some l) =>
      let old := leNat l
      if isPaired s then gateWrite s p i ps old (atomicNew h.aop old h.operand0 h.operand1)
      else writeAtomic p h ps old s

/-- A duplicate of a mirrored ATOMIC or COND_STORE of an adopted connection: the mirrored new value is written again, if it
differs from the old one (R529). -/
def rewriteAdopted (s : State) (c : Nat) (psn : Psn) : State :=
  match (ctxOf s c).rewrites.find? (fun r => r.1 == psn) with
  | some (_, fn, a, old, new) => if old = new then s else hostWrite s fn a (leBytes 8 new)
  | none => s

/-- A duplicate of a request that the result cache answers; one that it no longer holds is discarded and counted (R354,
R355). -/
def dupCached (p : Packet) (h : ConnHdr) (s : State) : State :=
  let s := rewriteAdopted s h.dstCtx h.psn
  match cachedOf s h.dstCtx h.psn with
  | some r => plainReply s (ctxFn s h.dstCtx) (replyTo s p (connIds h) r [])
  | none => bump s 303

def atomicArrival (s : State) (p : Packet) : State :=
  match p.tt with
  | .conn h =>
    if h.ttype = 0x04 then
      serialRequest s p h (cachedOf s h.dstCtx h.psn).isSome (freshAtomic p h) (dupCached p h)
    else s
  | _ => s

/-! ### The reservation store (R324, R327, R330, R332) -/

/-- The holder that a packet names: coordinate, plane, connection and incarnation (R324). -/
def holderIs (s : State) (p : Packet) (h : ConnHdr) (coord plane ctx inc : Nat) : Bool :=
  coord == p.rt.src && plane == srcPlane s p && ctx == h.srcCtx && inc == h.srcInc

def failsOf (s : State) (p : Packet) (h : ConnHdr) (g : Nat) : Option RsvFail :=
  s.pal.fails.find? (fun f => f.addr == g && holderIs s p h f.coord f.plane f.ctx f.inc)

/-- Another holder is to become senior on the granule first: its count reached 8 before, and it goes on, for its last failure is less than the
64 µs of a reservation ago (log entry 156). -/
def seniorBefore (s : State) (f k : RsvFail) : Bool :=
  k != f && k.addr == f.addr && decide (now s ≤ k.at_ + 64000)
  && (match k.order, f.order with | some m, some n => decide (m < n) | some _, none => true | none, _ => false)

/-- Whether a reservation that the holder sets now, beside those of `keep`, becomes senior (R332). -/
def becomesSenior (s : State) (p : Packet) (h : ConnHdr) (keep : List Rsv) (g : Nat) : Bool :=
  match failsOf s p h g with
  | none => false
  | some f => decide (f.count ≥ 8) && !keep.any (fun r => r.addr == g && r.senior) && !s.pal.fails.any (seniorBefore s f)

/-- A holder that has become senior has had its place in the order (R332). -/
def takePlace (s : State) (p : Packet) (h : ConnHdr) (g : Nat) : State :=
  { s with pal := { s.pal with fails := s.pal.fails.map (fun f =>
    if f.addr == g && holderIs s p h f.coord f.plane f.ctx f.inc then { f with order := none } else f) } }

/-- The non-senior reservation with the earliest set time (R327). -/
def oldestRsv (l : List Rsv) : Option Rsv :=
  l.foldl (fun best r => if r.senior then best else match best with
    | none => some r
    | some b => if r.time < b.time then some r else best) none

/-- Set the holder's reservation, in place of any that it held; a full store evicts, or keeps none (R327). -/
def setReservation (s : State) (p : Packet) (h : ConnHdr) (fn g v : Nat) : State :=
  let mine := fun (r : Rsv) => holderIs s p h r.coord r.plane r.ctx r.inc
  let keep := s.pal.rsvs.filter (fun r => !mine r && rsvLive s r)
  let senior := becomesSenior s p h keep g
  let r : Rsv := {
    addr := g, fn, region := h.key / 256, coord := p.rt.src, plane := srcPlane s p, ctx := h.srcCtx, inc := h.srcInc,
    value := v, time := s.rgl.time, senior }
  let full : Bool := decide (keep.length ≥ 16384)
  match full, oldestRsv keep with
  | true, none => { s with pal := { s.pal with rsvs := keep } }
  | true, some o =>
    let s := bump (bump { s with pal := { s.pal with rsvs := keep.erase o ++ [r], rsvEvict := (s.pal.rsvEvict + 1) % 2 ^ 32 } } 311) 310
    if senior then bump (takePlace s p h g) 312 else s
  | false, _ =>
    let s := bump { s with pal := { s.pal with rsvs := keep ++ [r] } } 310
    if senior then bump (takePlace s p h g) 312 else s

/-- A new RESERVE_LOAD reads the granule, sets the reservation and returns the value (R327). -/
def freshReserve (p : Packet) (h : ConnHdr) (s : State) : State :=
  let i := connIds h
  let fn := ctxFn s i.dstCtx
  match remoteAccess s fn 1 { h with length := 8 } with
  | (s, .fails st) => cachedNak s p i fn st 0 0
  | (s, .absent level va) => pagePending s p i fn h.key 0 level va
  | (s, .ok ps _) =>
    match readPieces s fn ps with
    | (s, none) => cachedNak s p i fn stBusError 0 0
    | (s, some l) =>
      let s := setReservation s p h fn (granule ps) (leNat l)
      cachedReply (advanceRcnt s fn h) p i fn (dataHdr i.psn (leNat l)) false

def reserveLoadArrival (s : State) (p : Packet) : State :=
  match p.tt with
  | .conn h =>
    if h.ttype = 0x05 then
      serialRequest s p h (cachedOf s h.dstCtx h.psn).isSome (freshReserve p h) (dupCached p h)
    else s
  | _ => s

/-! ### COND_STORE (R328, R331, R332) -/

/-- Count one more consecutive failure of the holder on the granule; the 8th takes its place in the order (R332). -/
def countFailure (s : State) (p : Packet) (h : ConnHdr) (g : Nat) : State :=
  let next := s.pal.fails.foldl (fun n f => match f.order with | some m => max n (m + 1) | none => n) 0
  let f := (failsOf s p h g).getD {
    addr := g, coord := p.rt.src, plane := srcPlane s p, ctx := h.srcCtx, inc := h.srcInc, count := 0 }
  let f' := { f with count := f.count + 1, order := if f.count + 1 = 8 then some next else f.order, at_ := now s }
  { s with pal := { s.pal with fails := s.pal.fails.filter (fun k => k != f) ++ [f'] } }

/-- The store fails with a reason of R331. -/
def loseReservation (s : State) (p : Packet) (h : ConnHdr) (g reason d0 : Nat) : State :=
  let s := tapDlv (bump (countFailure s p h g) (313 + reason)) (ctxFn s h.dstCtx) 1 p.payload.length
  cachedNak s p (connIds h) (ctxFn s h.dstCtx) stReservationLost d0 reason

/-- The compare has succeeded: VALUE is written and visible, every reservation on the granule goes, the holder's count
starts again, and the job is acknowledged (R328, R332). -/
def storeReserved (p : Packet) (h : ConnHdr) (ps : List Piece) (s : State) : State :=
  let i := connIds h
  let fn := ctxFn s i.dstCtx
  let g := granule ps
  match visible (writePieces s fn ps (leBytes 8 h.operand0)) fn ps with
  | (s, false) => cachedNak s p i fn stBusError 0 0
  | (s, true) =>
    let s := clearGranule s g
    let s := { s with pal := { s.pal with
      fails := s.pal.fails.filter (fun f => !(f.addr == g && holderIs s p h f.coord f.plane f.ctx f.inc)) } }
    let s := cacheResult (advanceRcnt (tapDlv (bump s 313) fn 1 p.payload.length) fn h) i.dstCtx i.psn (ackHdr i.psn 1 0 0)
    ackPoint s fn i.dstCtx i.psn false false

/-- A new COND_STORE. A failure without a reason is a free choice of the device, for a reservation that is not senior (R331). -/
def freshCond (p : Packet) (h : ConnHdr) (s : State) : State :=
  let i := connIds h
  let fn := ctxFn s i.dstCtx
  match remoteAccess s fn 2 { h with length := 8 } with
  | (s, .fails st) => cachedNak s p i fn st 0 0
  | (s, .absent level va) => pagePending s p i fn h.key 1 level va
  | (s, .ok ps _) =>
    let g := granule ps
    let live := s.pal.rsvs.filter (fun r => r.addr == g && rsvLive s r)
    let mine := fun (r : Rsv) => holderIs s p h r.coord r.plane r.ctx r.inc
    if live.any (fun r => r.senior && !mine r) then loseReservation s p h g 3 0
    else match live.find? mine with
      | none => loseReservation s p h g 1 0
      | some r =>
        let (n, s) := if r.senior then (0, s) else draw s
        if n % 2 = 1 then loseReservation s p h g 4 0
        else match readPieces s fn ps with
          | (s, none) => cachedNak s p i fn stBusError 0 0
          | (s, some l) =>
            let w := leNat l
            if w != r.value then loseReservation s p h g 2 w
            else if isPaired s then gateWrite s p i ps w h.operand0
            else storeReserved p h ps s

def condStoreArrival (s : State) (p : Packet) : State :=
  match p.tt with
  | .conn h =>
    if h.ttype = 0x06 then
      serialRequest s p h (cachedOf s h.dstCtx h.psn).isSome (freshCond p h) (dupCached p h)
    else s
  | _ => s

/-- RESERVATION_EXPIRY: reservations on a granule that are 64 µs old go (R330). -/
def expireReservations (s : State) (g : Nat) : State :=
  { s with pal := { s.pal with rsvs := s.pal.rsvs.filter (fun r => r.addr != g || rsvLive s r) } }

/-! ### FLUSH and SKIP (R320, R354, R356) -/

/-- A FLUSH is answered once every write issued for the connection has been declared visible; where the read fails it is not, and the
initiator sends it again (R320; log entry 155). -/
def freshFlush (p : Packet) (h : ConnHdr) (isNew : Bool) (s : State) : State :=
  let i := connIds h
  let fn := ctxFn s i.dstCtx
  match declareIssued s (fun e => e.fn == fn && e.ctx == some i.dstCtx) with
  | (s, false) => s
  | (s, true) =>
    let reply := replyTo s p i { ttype := 0x14, psn := i.psn } []
    if isNew then finalReply s fn i.dstCtx i.psn false reply else plainReply s fn reply

def flushArrival (s : State) (p : Packet) : State :=
  match p.tt with
  | .conn h =>
    if h.ttype = 0x07 then request s p false (freshFlush p h true) (freshFlush p h false) else s
  | _ => s

/-- The message number passes every number that is skipped (R386, R393). -/
def advanceMsn : Nat → Ctx → Ctx
  | 0, x => x
  | n + 1, x => if x.skipMsn.contains x.expMsn
    then advanceMsn n { x with skipMsn := without x.skipMsn x.expMsn, expMsn := x.expMsn + 1 } else x

/-- A parked match packet of this sender and PSN goes (R356, R393). -/
def unpark (s : State) (p : Packet) (c : Nat) (psn : Psn) : State :=
  { s with cat := { s.cat with parked := s.cat.parked.filter (fun k =>
      !((idsOf k.2.tt).dstCtx == c && (idsOf k.2.tt).psn == psn && k.2.rt.src == p.rt.src)) } }

/-- A SKIP marks its PSN received without applying anything; one for a match packet skips its message number too (R356,
R393). -/
def freshSkip (p : Packet) (h : ConnHdr) (s : State) : State :=
  let s := if bitAt h.offset 24 then
      modCtx s h.dstCtx (fun x => advanceMsn 257 { x with skipMsn := withMember x.skipMsn (BitVec.ofNat 24 h.offset) })
    else s
  ackPoint (unpark s p h.dstCtx h.psn) (ctxFn s h.dstCtx) h.dstCtx h.psn false false

def skipArrival (s : State) (p : Packet) : State :=
  match p.tt with
  | .conn h =>
    if h.ttype = 0x08 then
      request s p false (freshSkip p h) (fun s => dupAck s p (connIds h) (ctxFn s h.dstCtx) false)
    else s
  | _ => s

end Sys2Proof.Machine
end

