-- ==== Sys2Proof/Machine/Catalogue.lean ====
section
/-! DEFINITION. The Catalogue and the Accession store: matching (R376, R385 to R387), SEND and RECV (R375 to R382), delivery
(R388 to R392), back-pressure (R393, R398) and receive records (R396, R397). -/

namespace Sys2Proof.Machine

/-! ### Endpoints -/

/-- The endpoint of a job exists and is its function's (R375). -/
def liveEp (s : State) (ep : Nat) : Option Endpoint :=
  match fmFind s.cat.eps ep with
  | some e => if e.live then some e else none
  | none => none

def setEp (s : State) (ep : Nat) (e : Endpoint) : State := { s with cat := { s.cat with eps := fmSet s.cat.eps ep e } }

def modEp (s : State) (ep : Nat) (f : Endpoint → Endpoint) : State :=
  match fmFind s.cat.eps ep with
  | some e => setEp s ep (f e)
  | none => s

/-- Receives in the Catalogue, headers of the Accession store (R401). -/
def postedCount (s : State) : Nat := s.cat.eps.foldl (fun n kv => n + kv.2.posted.length) 0
def headerCount (s : State) : Nat := s.cat.eps.foldl (fun n kv => n + kv.2.unexp.length) 0

/-- Blocks of 64 bytes that a stored message takes (R389). -/
def blocksOf (m : Msg) : Nat := if m.rdv then 0 else (m.len + 63) / 64

/-- Blocks of the pool that an endpoint's stored messages and running copies hold (R389, R390). -/
def epBlocks (s : State) (ep : Nat) (e : Endpoint) : Nat :=
  e.unexp.foldl (fun n u => n + blocksOf u.msg) 0
  + (s.cat.deliveries.filter (fun d => d.ep == ep && d.unexpected && !d.ended)).foldl (fun n d => n + blocksOf d.msg) 0

def blockCount (s : State) : Nat := s.cat.eps.foldl (fun n kv => n + epBlocks s kv.1 kv.2) 0

/-- The levels of the two occupancy counters of the store (R558). -/
def noteStore (s : State) : State := noteLevel (noteLevel s 333 (headerCount s)) 334 (blockCount s)

/-! ### Matching (R376, R385, R387) -/

/-- A receive matches a message of its endpoint. -/
def matchesMsg (r : Recv) (m : Msg) : Bool :=
  r.comm == m.comm && (r.anySource || (r.coord == m.coord && r.srcEp == m.srcEp)) && (r.anyTag || r.tag == m.tag)

def isExact (r : Recv) : Bool := !r.anySource && !r.anyTag

/-- The posted receive that takes a message, of the lowest PSEQ; receives are kept in PSEQ order. -/
def findRecv (e : Endpoint) (m : Msg) : Option Recv := e.posted.find? (fun r => matchesMsg r m)

/-- Wildcard entries that the search for a message examines: up to its match in their list, or to the PSEQ of the exact
match (R387, R399). -/
def wildExamined (e : Endpoint) (m : Msg) : Nat :=
  let before_ : List Recv := (match e.posted.find? (fun r => isExact r && matchesMsg r m) with
    | some x => e.posted.takeWhile (fun (r : Recv) => r.pseq != x.pseq)
    | none => e.posted)
  let wild := before_.filter (fun r => !isExact r)
  let missed := (wild.takeWhile (fun r => !matchesMsg r m)).length
  if missed < wild.length then missed + 1 else missed

/-- The stored message that a receive takes: the matching one that committed first; and the entries examined. -/
def findUnexp (e : Endpoint) (r : Recv) : Option Unexp × Nat :=
  let missed := (e.unexp.takeWhile (fun u => !matchesMsg r u.msg)).length
  (e.unexp.find? (fun u => matchesMsg r u.msg),
   if isExact r then 0 else if missed < e.unexp.length then missed + 1 else missed)

/-! ### Receive records (R396 to R398) -/

def recvBytes (seq : Idx) (r : RecvRec) : List Byte :=
  leBytes 64 (place [(0, seq.toNat), (32, r.status), (40, b2n r.unexpected), (41, b2n r.rdv), (42, b2n r.isLocal),
    (48, r.msg.comm), (64, r.msg.tag), (128, r.msg.coord), (152, r.msg.srcEp), (164, r.msg.plane), (192, r.msg.len),
    (224, r.delivered), (256, r.recv.cookie), (320, r.recv.idx.toNat), (352, r.recv.q), (384, r.time)])

/-- Re-read the consumer word when the cached copy shows the ring full. -/
def rereadRecv (s : State) (ep : Nat) (e : Endpoint) : State :=
  if ringFull e.log2 e.seq e.cached then
    match hostRead s e.owner e.cons 4 with
    | (s, some l) => modEp s ep (fun e => { e with cached := BitVec.ofNat 32 (leNat l) })
    | (s, none) => s
  else s

/-- Write one record; then LCNT advances, with OK or TRUNCATED, and then ARRIVAL (R377, R397). -/
def writeRecv (s : State) (ep : Nat) (e : Endpoint) (r : RecvRec) : State :=
  let s := hostWrite s e.owner (slotOf e.base e.log2 64 e.seq) (recvBytes e.seq r)
  let s := modEp s ep (fun e => { e with seq := e.seq + 1 })
  let s := mirror s (.endpointSeq ep (e.seq + 1))
  let s := match r.recv.lcnt with
    | some n => if r.status = stOk || r.status = stTruncated then counterEvent s e.owner n 1 false none else s
    | none => s
  match e.arrival with
  | some n => counterEvent s e.owner n 1 false none
  | none => s

/-- Write waiting records while there is room (R398). -/
def writeRecvs (s : State) (ep : Nat) : List RecvRec → State
  | [] => s
  | r :: l =>
    match liveEp s ep with
    | none => s
    | some e =>
      if ringFull e.log2 e.seq e.cached || !canAccess s e.owner then s
      else writeRecvs (writeRecv (setEp s ep { e with waiting := l }) ep { e with waiting := l } r) ep l

/-- RECEIVE_RING_REREAD (R398). -/
def recvReread (s : State) (ep : Nat) : State :=
  match liveEp s ep with
  | none => s
  | some e =>
    if e.waiting = [] then s
    else
      let s := rereadRecv s ep e
      writeRecvs s ep (match liveEp s ep with | some e => e.waiting | none => [])

/-- The receive record of a delivery (R396, R397). -/
def receiveRecord (d : Delivery) : RecvRec :=
  { status := d.status, unexpected := d.unexpected, rdv := d.msg.rdv, isLocal := d.endLocal, msg := d.msg,
    delivered := if d.status = stDestFenced then 0 else d.got, recv := d.recv, time := d.endTime }

/-- A recorded delivery goes, but for one that still owes its MSG_FIN (R392, R397). -/
def closeDelivery (s : State) (d : Delivery) : State :=
  { s with cat := { s.cat with deliveries :=
    if d.msg.rdv && !d.finSent then s.cat.deliveries.map (fun x => if x.id = d.id then { x with recorded := true } else x)
    else s.cat.deliveries.filter (fun x => x.id != d.id) } }

/-- DELIVERY_END: the oldest delivery of the endpoint that has ended gets its record, or waits for room (R397, R398). -/
def deliveryEnd (s : State) (ep id : Nat) : State :=
  match s.cat.deliveries.find? (fun d => d.ep == ep && d.ended && !d.recorded), liveEp s ep with
  | some d, some e =>
    if d.id != id then s
    else
      let s := setEp (closeDelivery s d) ep { e with waiting := e.waiting ++ [receiveRecord d] }
      let s := rereadRecv s ep e
      writeRecvs s ep (match liveEp s ep with | some e => e.waiting | none => [])
  | _, _ => s

/-! ### Deliveries (R388 to R391) -/

/-- A status that a receive record may hold; any other outcome of a check is one that R396 does not state: a free value
(log entry 21). -/
def recordStatus (s : State) (st : Nat) : State × Nat :=
  if [stOk, stTruncated, stRevoked, stTranslation, stRemoteAccess, stBusError, stDestFenced].contains st then (s, st)
  else let (n, s) := draw s; (s, n % 256)

/-- The delivery has ended: its record is due, in the order in which deliveries end (R397). -/
def endDelivery (s : State) (id status : Nat) : State :=
  match deliveryOf s id with
  | none => s
  | some d =>
    if d.ended then s
    else
      let s := if status = stTruncated then bump s 329 else s
      let d' := endedNow s d status
      noteStore { s with
        cat := { s.cat with deliveries := s.cat.deliveries.filter (fun x => x.id != id) ++ [d'] },
        xlt := { s.xlt with stalls := s.xlt.stalls.filter (fun x => x.who != .copy id) } }

/-- OK, or TRUNCATED where the message is longer than its buffer (R391). -/
def goodStatus (d : Delivery) : Nat := if d.msg.len > d.recv.len then stTruncated else stOk

/-- A local access of a receive to its buffer (R288, R378). -/
def bufAccess (s : State) (r : Recv) (off n : Nat) : Access :=
  { key := r.key, off := r.off + off, len := n, need := 2, sup := (queueOf s r.q).supervisor, fn := (queueOf s r.q).fn }

/-- Write bytes of a delivery into its buffer at an offset. -/
inductive BufWrite where
  | good
  | fails (status : Nat)
  | absent (level va : Nat)
  /-- The bytes lie in a granule that another access holds (R325). -/
  | held
  deriving DecidableEq, Repr

def writeBuf (s : State) (r : Recv) (off : Nat) (l : List Byte) : State × BufWrite :=
  if l = [] then (s, .good)
  else
    let fn := (queueOf s r.q).fn
    match translate s (bufAccess s r off l.length) with
    | (s, .fails st) => (s, .fails st)
    | (s, .absent level va) => (s, .absent level va)
    | (s, .ok ps _) =>
      if heldAt s ps then (s, .held)
      else match visible (writePieces s fn ps l) fn ps with
        | (s, true) => (s, .good)
        | (s, false) => (s, .fails stBusError)

/-- The copy of a stored eager message into the buffer of the receive that took it (R390). -/
def runCopy (s : State) (id : Nat) : State :=
  match deliveryOf s id with
  | none => s
  | some d =>
    match d.copy with
    | none => s
    | some l =>
      if d.missing != 0 || d.ended then s
      else match writeBuf s d.recv 0 (l.take d.want) with
        | (s, .good) => endDelivery (modDelivery s id (fun d => { d with got := d.want })) id (goodStatus d)
        | (s, .fails st) => let (s, st) := recordStatus s st; endDelivery s id st
        | (s, .held) => s
        | (s, .absent level va) =>
          match localFault s (.copy id) (queueOf s d.recv.q).fn d.recv.q d.recv.key 1 level va with
          | (s, true) => s
          | (s, false) => endDelivery s id stTranslation

/-- Copies that wait for a granule go on (R325). -/
def runCopies (s : State) : State := ((s.cat.deliveries.filter (fun d => d.copy.isSome)).map (·.id)).foldl runCopy s

/-- A rendezvous begins: the buffer range is translated, then the gets are built (R389). -/
def runRdv (s : State) (id : Nat) : State :=
  match deliveryOf s id with
  | none => s
  | some d =>
    if d.ended then s
    else if d.want = 0 then pushItem (endDelivery s id (goodStatus d)) d.recv.q (.fin id)
    else match translate s (bufAccess s d.recv 0 d.want) with
      | (s, .ok _ _) => pushItem s d.recv.q (.rdvGet id)
      | (s, .fails st) => let (s, st) := recordStatus s st; failDelivery s id st
      | (s, .absent level va) =>
        match localFault s (.copy id) (queueOf s d.recv.q).fn d.recv.q d.recv.key 1 level va with
        | (s, true) => s
        | (s, false) => failDelivery s id stTranslation

/-- A message and a receive have matched (R385): a delivery begins. The answer is its number. -/
def newDelivery (s : State) (ep : Nat) (r : Recv) (m : Msg) (unexpected : Bool) : State × Nat :=
  let id := s.cat.nextId
  let d : Delivery := {
    id, ep, recv := r, msg := m, unexpected, want := min m.len r.len,
    missing := if m.rdv then 0 else if m.twoSeg then 2 else 1 }
  ({ s with cat := { s.cat with nextId := id + 1, deliveries := s.cat.deliveries ++ [d] } }, id)

/-! ### RECV (R377 to R379) -/

/-- The receive that a RECV posts (R377). -/
def recvOf (q : Nat) (j : Job) : Recv :=
  { q, idx := j.idx, cookie := j.cookie, key := opnd j 128 32, off := opnd j 160 48, len := opnd j 224 32,
    lcnt := cntField (opnd j 208 16), coord := opnd j 256 24, srcEp := opnd j 280 12, anySource := opnd j 292 1 = 1,
    anyTag := opnd j 293 1 = 1, comm := opnd j 304 16, tag := opnd j 320 64 }

/-- Steps 1 to 7 of R289 on the buffer of a RECV; index 0 is allowed with LENGTH 0 (R377, R378). -/
def recvBuffer (s : State) (r : Recv) : State × Nat :=
  if r.key / 256 = 0 && r.len = 0 then (s, 0)
  else match translate s (bufAccess s r 0 r.len) with
    | (s, .fails st) => (s, if st = stBusError then 0 else st)
    | (s, _) => (s, 0)

/-- A RECV matches a stored message, or enters the Catalogue (R378, R379, R385). -/
def takeRecv (s : State) (q : Nat) (idx : Idx) (ep : Nat) (e : Endpoint) (r : Recv) : State :=
  let (u, n) := findUnexp e r
  let s := if n = 0 then s else bumpBy s 330 n
  match u with
  | some u =>
    let s := doneAtOnce (bump (setEp s ep { e with unexp := e.unexp.erase u }) 326) q idx
    let (s, id) := newDelivery s ep r u.msg true
    if u.msg.rdv then runRdv (bump s 331) id
    else noteStore (runCopy (modDelivery s id (fun d => { d with missing := u.missing, copy := some u.data })) id)
  | none =>
    if postedCount s ≥ 262144 || e.posted.length ≥ e.maxPosted then endJob s q idx stNoResource 0 0
    else
      let s := setEp s ep { e with posted := e.posted ++ [{ r with pseq := e.pseq }], pseq := e.pseq + 1 }
      doneAtOnce (bump s 324) q idx

/-- RECV starts: not while its endpoint is BLOCKED, nor before an earlier RECV of its queue (R378, R398). -/
def startRecv (s : State) (q : Nat) (idx : Idx) : State :=
  match jobOf s q idx with
  | none => s
  | some j =>
    let ep := j.context
    let fn := (queueOf s q).fn
    let blocked := match liveEp s ep with | some e => e.owner == fn && e.waiting != [] | none => false
    if blocked || (earlierJobs s q idx).any (fun k => k.opcode == 0x31 && k.st == .waiting && !k.malformed) then s
    else
      let s := beginJob s q idx
      match liveEp s ep with
      | none => endJob s q idx stProtection 0 0
      | some e =>
        if e.owner != fn || !fieldOwned s fn (jobCounter j) then endJob s q idx stProtection 0 0
        else
          let r := recvOf q j
          match recvBuffer s r with
          | (s, 0) => takeRecv s q idx ep e r
          | (s, st) => endJob s q idx st 0 0

/-! ### SEND (R380, R381, R392) -/

/-- The SEND is a rendezvous: longer than EAGER_MAX (R381, R400). -/
def isRdv (s : State) (j : Job) : Bool := decide (opnd j 224 32 > min s.cat.eagerMax 8192)

/-- SEND starts: a rendezvous waits while every RDV_ID is in use (R392). -/
def startSend (s : State) (q : Nat) (idx : Idx) : State :=
  match jobOf s q idx with
  | none => s
  | some j =>
    let fn := (queueOf s q).fn
    let id := firstFrom (fun n => (fmFind s.cat.rdv n).isNone) 65536 0
    if isRdv s j && id.isNone then s
    else
      let s := beginJob s q idx
      match liveEp s j.context with
      | none => endJob s q idx stProtection 0 0
      | some e =>
        if e.owner != fn || !fieldOwned s fn (jobCounter j) then endJob s q idx stProtection 0 0
        else
          let s := match isRdv s j, id with
            | true, some n =>
              modJob { s with cat := { s.cat with rdv := fmSet s.cat.rdv n { q, idx } } } q idx
                (fun j => { j with rdvId := some n })
            | _, _ => s
          prepareJob s q idx

/-! ### Match packets (R385, R386, R388, R389, R393) -/

/-- The message that a match packet carries. -/
def msgOf (s : State) (p : Packet) (h : MsgHdr) : Msg :=
  { coord := p.rt.src, plane := srcPlane s p, srcEp := h.srcEp, srcFn := h.srcFn, comm := h.comm, tag := h.tag,
    len := h.msgLen, rdv := h.ttype = 0x31, rdvId := h.rdvId, ctx := h.dstCtx, inc := h.dstInc, msn := h.msn, twoSeg := h.twoSeg }

/-- The message number is passed: it has committed, or never will (R386, R393). -/
def passMsn (s : State) (c : Nat) (msn : Psn) : State :=
  modCtx s c (fun x => advanceMsn 257 { x with skipMsn := withMember x.skipMsn msn })

/-- A match packet is not committed: its slot's later ones wait, and it may come again. -/
def notCommitted (s : State) (c : Nat) (psn : Psn) : State := modCtx s c (fun x => { x with inFlight := without x.inFlight psn })

/-- The packet commits: it is counted, and its number is passed (R385, R566). -/
def commit (s : State) (h : MsgHdr) (since : Nat) : State :=
  let s := sampleDials s 7 (fun arg => bitAt arg 12 || field arg 0 12 == h.dstEp) (now s - since)
  passMsn (bump s 323) h.dstCtx h.msn

/-- The packet is parked until its turn comes (R386). -/
def park (s : State) (p : Packet) (h : MsgHdr) : State :=
  bump (modCtx { s with cat := { s.cat with parked := s.cat.parked ++ [(now s, p)] } } h.dstCtx
    (fun x => { x with inFlight := withMember x.inFlight h.psn })) 327

/-- An eager message meets a posted receive: its first segment is written; where the buffer's granule is held it waits, parked (R325, R388). -/
def matchEager (s : State) (p : Packet) (h : MsgHdr) (e : Endpoint) (r : Recv) (m : Msg) (since : Nat) : State :=
  let i := msgIds h
  let want := min m.len r.len
  let part := (padTo h.length p.payload).take want
  let took := fun (s : State) =>
    let s := bump (setEp s h.dstEp { e with posted := e.posted.erase r }) 325
    newDelivery (commit s h since) h.dstEp r m false
  let ack := fun (s : State) => ackPoint (tapDlv s e.owner 1 p.payload.length) e.owner h.dstCtx h.psn false false
  match (if want = 0 && r.key / 256 = 0 then (s, Xlat.ok [] false) else translate s (bufAccess s r 0 want)) with
  | (s, .absent level va) => pagePending (notCommitted s h.dstCtx h.psn) p i e.owner r.key 1 level va
  | (s, .fails st) =>
    let (s, id) := took s
    let (s, st) := recordStatus s st
    ack (endDelivery s id st)
  | (s, .ok ps _) =>
    if heldAt s ps then park s p h
    else
    let (s, id) := took s
    match writeBuf s r 0 part with
    | (s, .good) =>
      let s := modDelivery s id (fun d => { d with got := part.length, missing := d.missing - 1 })
      ack (if m.twoSeg then s else endDelivery s id (if m.len > r.len then stTruncated else stOk))
    | (s, .fails st) => let (s, st) := recordStatus s st; ack (endDelivery s id st)
    | (s, .absent _ _) => s
    | (s, .held) => s

/-- A message that no receive takes would pass a limit of the store (R393). -/
def storeFull (s : State) (ep : Nat) (e : Endpoint) (m : Msg) : Bool :=
  decide (headerCount s ≥ 131072) || decide (e.unexp.length ≥ e.maxUnexp)
  || decide (blockCount s + blocksOf m > 262144) || decide ((epBlocks s ep e + blocksOf m) * 64 > e.maxEagerKib * 1024)

/-- A match packet whose turn it is: it takes a receive, enters the store, or is turned away (R385, R388, R389, R393,
R398). `since` is the tick of its arrival. -/
def commitPacket (s : State) (p : Packet) (h : MsgHdr) (e : Endpoint) (since : Nat) : State :=
  let i := msgIds h
  let m := msgOf s p h
  let ack := fun (s : State) => ackPoint (tapDlv s e.owner 1 p.payload.length) e.owner h.dstCtx h.psn false false
  let busy := fun (s : State) => transientNak (bump (notCommitted s h.dstCtx h.psn) 328) p i e.owner stNoResource
  if e.waiting != [] then busy s
  else
    let n := wildExamined e m
    let s := if n = 0 then s else bumpBy s 330 n
    match findRecv e m with
    | some r =>
      if m.rdv then
        let s := bump (bump (setEp s h.dstEp { e with posted := e.posted.erase r }) 325) 331
        let (s, id) := newDelivery (commit s h since) h.dstEp r m false
        ack (runRdv s id)
      else matchEager s p h e r m since
    | none =>
      if storeFull s h.dstEp e m then busy s
      else
        let u : Unexp := {
          msg := m, data := if m.rdv then [] else (padTo h.length p.payload).take m.len, missing := if m.twoSeg then 1 else 0 }
        let s := setEp s h.dstEp { e with unexp := e.unexp ++ [u] }
        let s := if m.rdv then s else bump s 332
        ack (noteStore (commit s h since))

/-- The second segment of an eager message whose first has committed (R386, R388, R389). -/
def secondSegment (s : State) (p : Packet) (h : MsgHdr) (e : Endpoint) : State :=
  let i := msgIds h
  let mine := fun (m : Msg) => m.ctx == h.dstCtx && m.inc == h.dstInc && m.msn == h.msn
  let ack := fun (s : State) => ackPoint (tapDlv s e.owner 1 p.payload.length) e.owner h.dstCtx h.psn false false
  let l := padTo h.length p.payload
  match e.unexp.find? (fun u => mine u.msg) with
  | some u =>
    ack (setEp s h.dstEp { e with unexp := e.unexp.map (fun v => if v = u then { v with data := (v.data ++ l).take v.msg.len, missing := 0 } else v) })
  | none =>
    match s.cat.deliveries.find? (fun d => d.ep == h.dstEp && mine d.msg && !d.ended) with
    | none => ack s
    | some d =>
      if d.copy.isSome then
        ack (runCopy (modDelivery s d.id (fun d => { d with copy := d.copy.map (fun b => b ++ l), missing := 0 })) d.id)
      else
        let part := l.take (d.want - h.moff)
        match writeBuf s d.recv h.moff part with
        | (s, .good) =>
          let s := modDelivery s d.id (fun d => { d with got := d.got + part.length, missing := 0 })
          ack (endDelivery s d.id (goodStatus d))
        | (s, .fails st) => let (s, st) := recordStatus s st; ack (endDelivery s d.id st)
        | (s, .held) => park s p h
        | (s, .absent level va) => pagePending (notCommitted s h.dstCtx h.psn) p i e.owner d.recv.key 1 level va

/-- The endpoint of a message packet, where R394 does not refuse it. -/
def msgEndpoint (s : State) (ep : Nat) : Option Endpoint :=
  match liveEp s ep with
  | some e => if (fnOf s e.owner).fenced || (fnOf s e.owner).flr then none else some e
  | none => none

/-- The function that a message packet is charged to: the owner of its endpoint, for one that R394 refuses too; of an endpoint that no
function has owned, function 0 (log entry 159). -/
def epOwner (s : State) (ep : Nat) : Nat := match fmFind s.cat.eps ep with | some e => e.owner | none => 0

/-- Bytes of flits that a packet takes in staging (R50). -/
def stagedBytes (p : Packet) : Nat := 64 * (1 + (p.payload.length + 63) / 64)

/-- No staging space is free for one more parked packet (R47, R386; log entry 125). -/
def parkFull (s : State) (p : Packet) : Bool :=
  decide (s.cat.parked.foldl (fun n k => n + stagedBytes k.2) (stagedBytes p) > min Config.parkSpace (2 ^ 24))

/-- A packet that must wait is parked, or turned away where no staging space is free (R386). -/
def parkOrNak (s : State) (p : Packet) (h : MsgHdr) (e : Endpoint) : State :=
  if parkFull s p then transientNak (bump s 328) p (msgIds h) e.owner stNoResource else park s p h

/-- A new MSG_EAGER or MSG_RTS (R386, R394). -/
def freshMsg (p : Packet) (h : MsgHdr) (s : State) : State :=
  let x := ctxOf s h.dstCtx
  let isMatch := h.ttype = 0x31 || h.seg = 0
  match msgEndpoint s h.dstEp with
  | none =>
    let s := if isMatch then passMsn s h.dstCtx h.msn else s
    finalNak s p (msgIds h) (epOwner s h.dstEp) stDestFenced 0 1
  | some e =>
    if isMatch then
      if h.msn = x.expMsn then commitPacket s p h e (now s)
      else if psnBefore x.expMsn h.msn then parkOrNak s p h e
      else s
    else if psnBefore h.msn x.expMsn then secondSegment s p h e
    else parkOrNak s p h e

/-- Whose function a message packet is for, and how it takes arrivals (R394, R618). -/
def msgGate (s : State) (ep : Nat) : Nat × FnGate :=
  match msgEndpoint s ep with
  | some e => (e.owner, fnGate s e.owner)
  | none => (epOwner s ep, .takes)

/-- The ACK of a duplicate message packet (R354, R384). -/
def dupMsg (p : Packet) (h : MsgHdr) (fn : Nat) (s : State) : State := dupAck s p (msgIds h) fn false

def msgArrival (s : State) (p : Packet) (ttype : Nat) : State :=
  match p.tt with
  | .msg h =>
    if h.ttype = ttype then
      let g := msgGate s h.dstEp
      requestFor s p g.1 g.2 false (freshMsg p h) (dupMsg p h g.1)
    else s
  | _ => s

/-- PARKED_PACKET_COMMIT: the parked packets of a slot and message number whose turn has come (R386). -/
def parkedCommit (s : State) (c : Nat) (msn : Psn) : State :=
  let mine := s.cat.parked.filter (fun k => match k.2.tt with | .msg h => h.dstCtx == c && h.msn == msn | _ => false)
  mine.foldl (fun s k =>
    match k.2.tt with
    | .msg h =>
      let x := ctxOf s c
      let isMatch := h.ttype = 0x31 || h.seg = 0
      let ready := if isMatch then h.msn == x.expMsn else psnBefore h.msn x.expMsn
      if !ready || h.dstInc != x.inc || x.st != .connected then s
      else
        let s := { s with cat := { s.cat with parked := s.cat.parked.erase k } }
        match msgEndpoint s h.dstEp with
        | none =>
          let s := if isMatch then passMsn s c h.msn else s
          finalNak s k.2 (msgIds h) (epOwner s h.dstEp) stDestFenced 0 1
        | some e => if isMatch then commitPacket s k.2 h e k.1 else secondSegment s k.2 h e
    | _ => s) s

/-! ### Rendezvous at the sender (R392) -/

/-- The SEND that holds an RDV_ID, where the peer slot joins its destination. -/
def rdvSend (s : State) (c id : Nat) : Option (RdvSend × Job) :=
  match fmFind s.cat.rdv id with
  | none => none
  | some r =>
    match jobOf s r.q r.idx with
    | some j => if sendDest j = ((ctxOf s c).pPlane, (ctxOf s c).pCoord) then some (r, j) else none
    | none => none

/-- The function that a rendezvous get or a MSG_FIN is for: that of the SEND which it names, else the owner of the endpoint, where
there is one (R392). -/
def rdvOwner (s : State) (h : MsgHdr) : Nat :=
  match rdvSend s h.dstCtx h.rdvId with
  | some (r, _) => (queueOf s r.q).fn
  | none => (msgGate s h.dstEp).1

/-- Whether that function takes the get (R186, R618). -/
def rdvGate (s : State) (h : MsgHdr) : FnGate := if (rdvSend s h.dstCtx h.rdvId).isSome then fnGate s (rdvOwner s h) else .takes

/-- The GET_DATA of so many bytes that answers a rendezvous get (R384, R392). -/
def rdvDataHdr (h : MsgHdr) (n : Nat) : ConnHdr := { ttype := 0x12, psn := h.psn, offset := h.moff, length := n }

/-- MSG_RDV_GET reads the SEND's range with its queue's rights; a duplicate is executed again (R354, R392). -/
def rdvGet (p : Packet) (h : MsgHdr) (isNew : Bool) (s : State) : State :=
  let i := msgIds h
  let fn := rdvOwner s h
  let nak := fun s st => if isNew then finalNak s p i fn st 0 0 else plainReply s fn (replyTo s p i (nakHdr i.psn st 0 0) [])
  match rdvSend s h.dstCtx h.rdvId with
  | none => nak s stRemoteAccess
  | some (r, j) =>
    if h.moff + h.length > opnd j 224 32 then nak s stRemoteAccess
    else
      let fails := fun (s : State) st =>
        nak { s with cat := { s.cat with rdv := fmSet s.cat.rdv h.rdvId { r with failed := st } } } st
      match readSrc s (srcPart (jobSrc r.q j) h.moff h.length) with
      | (s, .fails st) => fails s (if st = stProtection then stRemoteAccess else st)
      | (s, .absent level va) => pagePending s p i fn (opnd j 128 32) 0 level va
      | (s, .bytes l) =>
        let s := if isNew then tapDlv s fn 1 p.payload.length else s
        let d := rdvDataHdr h l.length
        if isNew then finalReply s fn i.dstCtx i.psn false (replyTo s p i d l) else plainReply s fn (replyTo s p i d l)

def rdvGetArrival (s : State) (p : Packet) : State :=
  match p.tt with
  | .msg h =>
    if h.ttype = 0x32 then
      requestFor s p (rdvOwner s h) (rdvGate s h) false (rdvGet p h true) (rdvGet p h false)
    else s
  | _ => s

/-- MSG_FIN ends the SEND with its result, and is acknowledged (R384, R392). -/
def freshFin (p : Packet) (h : MsgHdr) (s : State) : State :=
  let s := ackPoint s (rdvOwner s h) h.dstCtx h.psn false false
  match rdvSend s h.dstCtx h.rdvId with
  | none => s
  | some (r, _) =>
    let s := tapDlv s (queueOf s r.q).fn 1 p.payload.length
    let s := freeRdv (modJob s r.q r.idx (fun j => { j with rdvId := none })) r.q r.idx
    if h.result = 0 then completeJob s r.q r.idx
    else if h.result = 1 then endJob s r.q r.idx stDestFenced 0 0
    else endJob s r.q r.idx (if r.failed = 0 then stRemoteAccess else r.failed) 0 0

def finArrival (s : State) (p : Packet) : State :=
  match p.tt with
  | .msg h =>
    if h.ttype = 0x33 then requestFor s p (rdvOwner s h) .takes false (freshFin p h) (dupMsg p h (rdvOwner s h)) else s
  | _ => s

end Sys2Proof.Machine
end

