-- ==== Sys2Proof/Machine/Answers.lean ====
section
/-! DEFINITION. Answers at their initiator: ACK, NAK, data and FLUSH_DONE (R320, R322, R344, R349, R350, R352), the timers of
sent packets (R298, R351, R353, R358), acknowledgements that are sent (R350), and peer slots (R360 to R363). -/

namespace Sys2Proof.Machine

/-! ### Replies and their context (R357) -/

/-- The sent packet that a reply answers. -/
def unansOf (s : State) (c : Nat) (psn : Psn) : Option Unans := (ctxOf s c).unans.find? (fun u => u.psn == psn)

/-- The ejection space that was kept for the reply of an aborted job is released (R229). -/
def releaseKept (s : State) (c : Nat) (psn : Psn) : State :=
  { s with ctx := { s.ctx with kept := s.ctx.kept.filter (fun k => !(k.1 == c && k.2.1 == psn)) } }

/-- A reply arrives: R357 applies; one for a function whose memory is out of reach waits, unless the function is fenced or
the context is a peer slot, which is no function's (R186, R618). -/
def replyArrival (s : State) (p : Packet) (h : ConnHdr) (waits : Option Nat) (act : State → State) : State :=
  let i := connIds h
  match ctxCheck s p i with
  | .notReady => bump (consume s p) 298
  | .stale => bump (consume s p) 299
  | .quarantine => consume s p
  | .classify =>
    match waits with
    | some fn =>
      if !canAccess s fn then holdPacket s fn p
      else act (modCtx (delivered (consume s p) fn p) h.dstCtx (fun x => { x with used := now s }))
    | none => act (modCtx (consume s p) h.dstCtx (fun x => { x with used := now s }))

/-- The function whose memory the answer of a sent packet touches. -/
def answerFn (s : State) (c : Nat) (psn : Psn) : Option Nat :=
  if !(ctxOf s c).peer then some (ctxOf s c).fn
  else match unansOf s c psn with
    | some u => (if u.delivery.isSome || u.job.isSome then some (queueOf s u.q).fn else none)
    | none => none

/-- As `answerFn`, for the answers that touch no memory. -/
def ownerFn (s : State) (c : Nat) : Option Nat := if (ctxOf s c).peer then none else some (ctxOf s c).fn

/-! ### ACK (R111, R350, R352) -/

/-- The PSNs that an ACK names, each with its early mark (R345, R346). -/
def ackedPsns (h : ConnHdr) : List (Psn × Bool) :=
  ((List.range 32).filter (bitAt h.key)).map (fun i => (h.psn + BitVec.ofNat 24 i, bitAt h.offset i))

/-- A request whose answer is an ACK (R346, R384). -/
def ackAnswers (u : Unans) : Bool :=
  u.skip || [0x01, 0x02, 0x06, 0x30, 0x31, 0x33].contains (ttypeOf u.pkt.tt)

/-- One PSN is acknowledged. -/
def acked (c : Nat) (late : Bool) (s : State) (a : Psn × Bool) : State :=
  match unansOf s c a.1 with
  | none => s
  | some u =>
    if !ackAnswers u then s
    else
      let s := roundTrip (dropUnans (unqueue s c u) c u.psn) c u
      let s := if a.2 then markUnflushed s u.q c else s
      match u.skip, u.job with
      | false, some (q, idx) =>
        packetGone (if late then modJob s q idx (fun j => { j with late := true }) else s) q idx
      | _, _ => s

/-- The first send of `v` came after the latest send of `u` (R352). -/
def sentAfter (v u : Unans) : Bool :=
  decide (v.first > u.last) || (v.first == u.last && u.total == 1 && psnBefore u.psn v.psn)

/-- Early retransmission: 16 later PSNs have been acknowledged since the latest send (R352). -/
def fastRetransmit (s : State) (c : Nat) (new : List Unans) : State :=
  if !s.ctx.fastRetx then s
  else
    let s := modCtx s c (fun x => { x with unans := x.unans.map (fun u =>
      { u with passed := u.passed + (new.filter (fun v => sentAfter v u)).length }) })
    (ctxOf s c).unans.foldl (fun s u =>
      if u.passed ≥ 16 && !u.fast && u.timer && !u.queued && u.sends ≤ (ctxOf s c).retryMax then
        let s := bump (modCtx s c (fun x => { x with retx := x.retx + 1 })) 301
        sendAgain (modUnans s c u.psn (fun u => { u with fast := true })) c u
      else s) s

/-- The sent packets that an ACK answers (R352). -/
def newlyAcked (s : State) (c : Nat) (h : ConnHdr) : List Unans :=
  (ctxOf s c).unans.filter (fun u => ackAnswers u && (ackedPsns h).any (fun a => a.1 == u.psn))

def ackArrival (s : State) (p : Packet) : State :=
  match p.tt with
  | .conn h =>
    if h.ttype = 0x10 then
      replyArrival s p h (ownerFn s h.dstCtx) (fun s =>
        let c := h.dstCtx
        fastRetransmit ((ackedPsns h).foldl (acked c (h.status = stStrikeLate)) s) c (newlyAcked s c h))
    else s
  | _ => s

/-! ### NAK (R298, R331, R344, R349, R358, R393, R394) -/

/-- The wait before re-send k, in ticks (R298). -/
def resendWait (k : Nat) : Nat := min (2 ^ min k 8) 256 * 1000

/-- The packet draws a transient NAK: its timer stops, and it is sent again after the wait (R298, R349). -/
def waitResend (s : State) (c : Nat) (u : Unans) (page : Bool) : State :=
  modUnans s c u.psn (fun u => { u with
    naks := u.naks + 1, pageNaks := u.pageNaks + b2n page, timer := false,
    resendAt := if u.queued then u.resendAt else some (now s + resendWait (u.naks + 1)) })

/-- The operation of a packet fails for want of an answer other than a transient one: the packet is abandoned (R298, R349,
R356). A FLUSH that does so has exhausted its retransmission (R321; log entry 157). -/
def giveUp (s : State) (c : Nat) (u : Unans) (status : Nat) : State :=
  match u.job, u.delivery with
  | some (q, idx), _ =>
    match jobOf s q idx with
    | none => abandon s c u
    | some j =>
      if j.opcode = 0x20 then ctxError (flushOver (dropUnans (unqueue s c u) c u.psn) q idx c stRetryExceeded) c 1
      else
      let d := failDetails status u.off u.psn j 0 0
      let s := abandon (noteFailure s q idx u.off status d.1 d.2) c u
      finishIfDone s q idx
  | none, some id => failDelivery (abandon s c u) id status
  | none, none => abandon s c u

/-- A transient NAK: PAGE_PENDING or NO_RESOURCE. -/
def transientArrival (s : State) (c : Nat) (u : Unans) (status : Nat) : State :=
  let s := bump s 305
  let page := status = stPagePending
  let isMsg := match u.pkt.tt with | .msg _ => true | _ => false
  let limit := if isMsg then page && decide (u.pageNaks ≥ 31) else decide (u.naks ≥ 31)
  if limit && !u.skip then giveUp s c u (if page then stTranslation else stNoResource)
  else waitResend s c u page

/-- A final NAK: the packet's job fails; DEST_FENCED stops the context too, unless it is for an endpoint (R358, R394). -/
def finalArrival (s : State) (c : Nat) (u : Unans) (h : ConnHdr) : State :=
  let s := packetFailed (roundTrip s c u) c u h.status h.operand0 h.operand1
  let endpoint := (match u.pkt.tt with | .msg _ => true | _ => false) && h.operand1 = 1
  if h.status = stDestFenced && !endpoint then ctxError s c 2 else s

def nakArrival (s : State) (p : Packet) : State :=
  match p.tt with
  | .conn h =>
    if h.ttype = 0x11 then
      replyArrival s p h (ownerFn s h.dstCtx) (fun s =>
        match unansOf s h.dstCtx h.psn with
        | none => releaseKept s h.dstCtx h.psn
        | some u =>
          let s := releaseKept s h.dstCtx h.psn
          if h.status = stPagePending || h.status = stNoResource then transientArrival s h.dstCtx u h.status
          else finalArrival s h.dstCtx u h)
    else s
  | _ => s

/-! ### Data replies (R296, R322, R344, R389) -/

/-- Write a reply's bytes into a local range of a job: true when they are written; false when the packet failed or the page
is not present and the reply waits. -/
def writeLocal (s : State) (p : Packet) (c : Nat) (u : Unans) (q : Nat) (idx : Idx) (key off : Nat) (l : List Byte)
    (wantVisible : Bool) : State × Bool :=
  let x := queueOf s q
  let fail := fun (s : State) st => (packetFailed (roundTrip s c u) c u st 0 0, false)
  match translate s { key, off, len := l.length, need := 2, sup := x.supervisor, fn := x.fn } with
  | (s, .fails st) => fail s st
  | (s, .absent level va) =>
    if isStalled s (.job q idx) then (holdPacket s x.fn p, false)
    else match localFault s (.job q idx) x.fn q key 1 level va with
      | (s, true) => (holdPacket s x.fn p, false)
      | (s, false) => fail s stTranslation
  | (s, .ok ps _) =>
    let s := tapDlv (notePieces (writePieces s x.fn ps l) x.fn q key ps) x.fn 1 p.payload.length
    if wantVisible then
      match visible s x.fn ps with
      | (s, true) => (s, true)
      | (s, false) => fail s stBusError
    else (s, true)

/-- The reply of a packet of a job has been taken. -/
def answered (s : State) (c : Nat) (u : Unans) (q : Nat) (idx : Idx) : State :=
  packetGone (dropUnans (roundTrip (unqueue s c u) c u) c u.psn) q idx

/-- GET_DATA of a rendezvous: the bytes are written into the receive's buffer; the last ends the delivery (R389). -/
def rdvData (s : State) (p : Packet) (c : Nat) (u : Unans) (id : Nat) : State :=
  let s' := dropUnans (roundTrip (unqueue s c u) c u) c u.psn
  match deliveryOf s id with
  | none => s'
  | some d =>
    if d.ended then s'
    else match writeBuf s d.recv u.off p.payload with
      | (s, .absent level va) =>
        if isStalled s (.copy id) then holdPacket s (queueOf s d.recv.q).fn p
        else match localFault s (.copy id) (queueOf s d.recv.q).fn d.recv.q d.recv.key 1 level va with
          | (s, true) => holdPacket s (queueOf s d.recv.q).fn p
          | (s, false) => failDelivery (dropUnans (roundTrip (unqueue s c u) c u) c u.psn) id stTranslation
      | (s, .held) => holdPacket s (queueOf s d.recv.q).fn p
      | (s, .fails st) =>
        let (s, st) := recordStatus s st
        failDelivery (dropUnans (roundTrip (unqueue s c u) c u) c u.psn) id st
      | (s, .good) =>
        let s := dropUnans (roundTrip (unqueue s c u) c u) c u.psn
        let s := tapDlv s (queueOf s d.recv.q).fn 1 p.payload.length
        let s := modDelivery s id (fun d => { d with got := d.got + p.payload.length, outstanding := d.outstanding - 1 })
        if d.got + p.payload.length ≥ d.want then pushItem (endDelivery s id (goodStatus d)) d.recv.q (.fin id) else s

def getDataArrival (s : State) (p : Packet) : State :=
  match p.tt with
  | .conn h =>
    if h.ttype = 0x12 then
      replyArrival s p h (answerFn s h.dstCtx h.psn) (fun s =>
        let c := h.dstCtx
        let s := releaseKept s c h.psn
        match unansOf s c h.psn with
        | none => s
        | some u =>
          match u.skip, u.job, u.delivery with
          | false, some (q, idx), _ =>
            (match jobOf s q idx, ttypeOf u.pkt.tt with
            | some j, 0x03 =>
              (match writeLocal s p c u q idx (opnd j 128 32) (opnd j 160 48 + u.off) p.payload false with
              | (s, true) => answered s c u q idx
              | (s, false) => s)
            | _, _ => s)
          | false, none, some id => if ttypeOf u.pkt.tt = 0x32 then rdvData s p c u id else s
          | _, _, _ => s)
    else s
  | _ => s

/-- ATOMIC_DATA: the old value goes to LKEY, unless an ATOMIC names none; a RESERVE_LOAD waits for its visibility (R327,
R341, R344). -/
def atomicDataArrival (s : State) (p : Packet) : State :=
  match p.tt with
  | .conn h =>
    if h.ttype = 0x13 then
      replyArrival s p h (answerFn s h.dstCtx h.psn) (fun s =>
        let c := h.dstCtx
        let s := releaseKept s c h.psn
        match unansOf s c h.psn with
        | none => s
        | some u =>
          match u.skip, u.job with
          | false, some (q, idx) =>
            (match jobOf s q idx, ttypeOf u.pkt.tt with
            | some j, 0x04 =>
              if opnd j 128 32 / 256 = 0 then answered s c u q idx
              else (match writeLocal s p c u q idx (opnd j 128 32) (opnd j 160 48) (leBytes 8 h.operand0) false with
              | (s, true) => answered s c u q idx
              | (s, false) => s)
            | some j, 0x05 =>
              (match writeLocal s p c u q idx (opnd j 224 32) (opnd j 256 48) (leBytes 8 h.operand0) true with
              | (s, true) => answered s c u q idx
              | (s, false) => s)
            | _, _ => s)
          | _, _ => s)
    else s
  | _ => s

/-- FLUSH_DONE clears the mark, or fails the flush and stops the connection (R320, R321, R643). -/
def flushDoneArrival (s : State) (p : Packet) : State :=
  match p.tt with
  | .conn h =>
    if h.ttype = 0x14 then
      replyArrival s p h (answerFn s h.dstCtx h.psn) (fun s =>
        let c := h.dstCtx
        match unansOf s c h.psn with
        | none => s
        | some u =>
          match u.skip, u.job with
          | false, some (q, idx) =>
            if ttypeOf u.pkt.tt != 0x07 then s
            else
              let s := dropUnans (roundTrip (unqueue s c u) c u) c u.psn
              if h.status = stOk then flushOver s q idx c 0
              else ctxError (flushOver s q idx c stDestFenced) c 2
          | _, _ => s)
    else s
  | _ => s

/-! ### Acknowledgements (R112, R350) -/

/-- The lowest PSN of some acknowledgements. -/
def ackBase : List PendAck → Option Psn
  | [] => none
  | a :: l => match ackBase l with
    | none => some a.psn
    | some m => some (if psnBefore a.psn m then a.psn else m)

/-- The pending acknowledgements that one ACK from this base on carries: of one kind and one function, and at most 32 PSNs (R28, R347,
R350). -/
def ackedBy (s : State) (x : Ctx) (a : PendAck) (base : Psn) : List PendAck :=
  x.acks.filter (fun b => b.late == a.late && b.fn == a.fn && decide ((b.psn - base).toNat < (if s.ctx.ackDelay = 0 then 1 else 32)))

/-- The bits that these PSNs have in an ACK of this base (R347). -/
def ackBits (base : Psn) (l : List PendAck) : Nat := l.foldl (fun n b => Nat.lor n (2 ^ (b.psn - base).toNat)) 0

/-- The ACK that carries these acknowledgements of a context (R347, R350; log entry 22). -/
def mergedAck (c : Nat) (x : Ctx) (a : PendAck) (base : Psn) (l : List PendAck) : ConnHdr :=
  { ackHdr base (ackBits base l) (ackBits base (l.filter (·.early))) (if a.late then stStrikeLate else 0) with
    srcCtx := c, srcInc := x.inc, dstCtx := x.pCtx, dstInc := x.pInc }

/-- ACK_SEND: one ACK leaves for the pending acknowledgements from BASE to BASE + 31, by the port of the function that they are charged
to; late ones, whose STATUS is STRIKE_LATE, and those of other functions apart. With no coalescing each goes alone (R28, R30, R350,
R369; log entry 22). -/
def ackSend (s : State) (c : Nat) : State :=
  let x := ctxOf s c
  match x.acks with
  | [] => s
  | a :: _ =>
    match (if s.ctx.ackDelay = 0 then some a.psn else ackBase (x.acks.filter (fun b => b.late == a.late && b.fn == a.fn))) with
    | none => s
    | some base =>
      let l := ackedBy s x a base
      let s := setCtx s c { x with acks := x.acks.filter (fun b => !l.contains b), used := now s }
      pushReply s (fnPort s a.fn) a.fn { rt := routeTo s x.pPlane x.pCoord 1 0 0, tt := .conn (mergedAck c x a base l) }

/-! ### Opening and closing peer slots (R361 to R363) -/

/-- A SEND to a device that has started and not sent its match packet. -/
def heldSend (plane coord : Nat) (j : Job) : Bool :=
  j.opcode == 0x30 && j.st == .running && j.msn.isNone && !j.built && sendDest j == (plane, coord)

/-- Held SENDs to a device, as (queue, index). -/
def heldSends (s : State) (plane coord : Nat) : List (Nat × Idx) :=
  s.rings.queues.flatMap (fun kv => (kv.2.jobs.filter (heldSend plane coord)).map (fun j => (kv.1, j.idx)))

/-- Held SENDs open a new slot for their device, or fail (R361, R363). -/
def reopenSlot (s : State) (plane coord : Nat) : State :=
  let l := heldSends s plane coord
  if l = [] || (slotFor s plane coord).isSome then s
  else
    let fail := fun (s : State) st => l.foldl (fun s p => endJob s p.1 p.2 st 0 0) s
    if destFenced s plane coord then fail s stDestFenced
    else match freeContext s with
      | none => fail s stNoResource
      | some c =>
        pushMaint (takeContext s c {
          st := .opening, peer := true, pPlane := plane, pCoord := coord, retryUs := 20, retryMax := 8, openAt := now s })
          (fnPort s 0) (.open_ c)

/-- The slot has something unanswered or held (R363). -/
def slotBusy (s : State) (c : Nat) : Bool :=
  (ctxOf s c).unans != [] || ctxJobs s c != [] || ctxDeliveries s c != []
  || s.cat.parked.any (fun k => (idsOf k.2.tt).dstCtx == c)
  || s.sch.maint.any (fun kv => kv.2.any (fun m => match m with | .refuse d _ _ _ => d == c | _ => false))

/-- An answer to a PEER_OPEN or PEER_CLOSE, from a slot. -/
def slotReply (s : State) (p : Packet) (h : ConnHdr) (ttype status srcCtx srcInc : Nat) : State :=
  let r : ConnHdr := { ttype, status, srcCtx, srcInc, dstCtx := h.srcCtx, dstInc := h.srcInc }
  pushReply s (fnPort s 0) 0 { rt := routeTo s (srcPlane s p) p.rt.src 1 0 0, tt := .conn r }

/-- The slot that a PEER_OPEN opens (R362). -/
def openedSlot (s : State) (p : Packet) (h : ConnHdr) : Ctx :=
  { st := .connected, peer := true, pPlane := srcPlane s p, pCoord := p.rt.src, pCtx := h.srcCtx, pInc := h.srcInc,
    bound := true, retryUs := 20, retryMax := 8 }

/-- A slot whose PEER_OPEN is answered is joined to the slot that the answer names (R362). -/
def boundSlot (s : State) (x : Ctx) (h : ConnHdr) : Ctx :=
  { x with st := .connected, pCtx := h.srcCtx, pInc := h.srcInc, bound := true, used := now s, openResend := none }

/-- A fresh slot for the sender of a PEER_OPEN, CONNECTED and answered; without a free context the answer is NO_RESOURCE,
and the slot that it would carry is not stated: a free value (R362; log entry 23). -/
def acceptOpen (s : State) (p : Packet) (h : ConnHdr) : State :=
  match freeContext s with
  | none =>
    let (n, s) := draw s
    slotReply s p h 0x15 stNoResource (n % 65536) (n / 65536 % 256)
  | some c =>
    let s := takeContext s c (openedSlot s p h)
    slotReply s p h 0x15 stOk c (ctxOf s c).inc

/-- PEER_OPEN (R362). A slot that is closed because the sender's is new fails its unanswered messages as R357 says of a
recreated peer. -/
def peerOpenArrival (s : State) (p : Packet) : State :=
  match p.tt with
  | .conn h =>
    if h.ttype != 0x09 then s
    else
      let s := consume s p
      match slotFor s (srcPlane s p) p.rt.src with
      | none => acceptOpen s p h
      | some c =>
        let x := ctxOf s c
        if x.st = .opening then
          let s := setCtx s c (boundSlot s x h)
          slotReply s p h 0x15 stOk c x.inc
        else if x.pCtx = h.srcCtx && x.pInc = h.srcInc then slotReply s p h 0x15 stOk c x.inc
        else
          let s := quarantine (failContext s c stRetryExceeded none (fun j => j.msn.isNone && !j.built)) c
          reopenSlot (acceptOpen s p h) (srcPlane s p) p.rt.src
  | _ => s

/-- The slot and its peer are those that a packet names. -/
def slotMatches (s : State) (p : Packet) (h : ConnHdr) (x : Ctx) : Bool :=
  x.peer && h.dstInc == x.inc && x.pCoord == p.rt.src && x.pPlane == srcPlane s p

/-- PEER_CLOSE (R357, R363). -/
def peerCloseArrival (s : State) (p : Packet) : State :=
  match p.tt with
  | .conn h =>
    if h.ttype != 0x0A then s
    else
      let s := consume s p
      let c := h.dstCtx
      let x := ctxOf s c
      let bound := slotMatches s p h x && h.srcCtx == x.pCtx && h.srcInc == x.pInc
      if x.st = .quarantine && h.dstInc = x.inc then slotReply s p h 0x16 stOk c x.inc
      else if x.st = .closing && bound then slotReply s p h 0x16 stOk c x.inc
      else if x.st = .connected && bound then
        if !slotBusy s c && x.e.toNat = field h.offset 0 24 then quarantine (slotReply s p h 0x16 stOk c x.inc) c
        else slotReply s p h 0x16 stNoResource c x.inc
      else if x.st = .ready || (x.st = .opening && x.peer) then bump s 298
      else bump s 299
  | _ => s

/-- The opening has failed: held messages fail with the status, and the slot returns to QUARANTINE (R362). -/
def openFailed (s : State) (c status : Nat) : State := quarantine (failContext s c status none) c

/-- PEER_OPEN_ACK (R357, R362). -/
def peerOpenAckArrival (s : State) (p : Packet) : State :=
  match p.tt with
  | .conn h =>
    if h.ttype != 0x15 then s
    else
      let s := consume s p
      let c := h.dstCtx
      let x := ctxOf s c
      if x.st = .opening && slotMatches s p h x then
        if h.status = stOk then
          setCtx s c (boundSlot s x h)
        else
          let s := bump s 305
          if x.openNaks ≥ 31 then openFailed s c stNoResource
          else setCtx s c { x with openNaks := x.openNaks + 1, openResend := some (now s + resendWait (x.openNaks + 1)) }
      else if x.st = .connected && slotMatches s p h x && h.srcCtx = x.pCtx && h.srcInc = x.pInc then s
      else if x.st = .ready then bump s 298
      else if x.st = .quarantine && h.dstInc = x.inc then s
      else bump s 299
  | _ => s

/-- PEER_CLOSE_ACK (R357, R363). -/
def peerCloseAckArrival (s : State) (p : Packet) : State :=
  match p.tt with
  | .conn h =>
    if h.ttype != 0x16 then s
    else
      let s := consume s p
      let c := h.dstCtx
      let x := ctxOf s c
      if x.st = .closing && slotMatches s p h x && h.srcCtx = x.pCtx && h.srcInc = x.pInc then
        if h.status = stOk then reopenSlot (quarantine s c) x.pPlane x.pCoord
        else setCtx s c { x with st := .connected, used := now s }
      else if x.st = .quarantine && h.dstInc = x.inc then s
      else if x.st = .ready || (x.st = .opening && x.peer) then bump s 298
      else if x.st = .connected && slotMatches s p h x then s
      else bump s 299
  | _ => s

/-! ### Timers (R298, R336, R351, R353, R358, R363) -/

/-- The wait after send k, in ticks (R351). -/
def retryWait (x : Ctx) (k : Nat) : Nat := min (x.retryUs * 2 ^ min (k - 1) 10) 1024 * 1000

/-- The request waits already at a port. -/
def maintWaits (s : State) (m : Maint) : Bool := s.sch.maint.any (fun kv => kv.2.contains m)

/-- The timer of a PEER_OPEN or PEER_CLOSE (R351, R353, R362). -/
def slotTimeout (s : State) (c : Nat) (x : Ctx) (m : Maint) : State :=
  if maintWaits s m || x.openResend.isSome || x.opens = 0 || now s < x.openAt + retryWait x x.opens then s
  else if x.opens ≤ x.retryMax then
    pushMaint (bump (setCtx s c { x with retx := x.retx + 1 }) 300) (fnPort s 0) m
  else
    let s := bump s 306
    if x.st = .opening then openFailed s c stRetryExceeded else ctxError s c 1

/-- RETRANSMIT_TIMEOUT: the packet whose timer has run out is sent again, or fails with its context after its last send
(R351, R353). -/
def retransmitTimeout (s : State) (c : Nat) (psn : Psn) : State :=
  let x := ctxOf s c
  if peerFenced s x then s
  else if x.st = .opening then slotTimeout s c x (.open_ c)
  else if x.st = .closing && (unansOf s c psn).isNone then slotTimeout s c x (.close c)
  else if x.st != .connected then s
  else match unansOf s c psn with
    | none => s
    | some u =>
      if !u.timer || u.queued || u.resendAt.isSome || now s < u.last + retryWait x u.sends then s
      else if u.sends ≤ x.retryMax then
        sendAgain (bump (modCtx s c (fun x => { x with retx := x.retx + 1 })) 300) c u
      else ctxError (bump s 306) c 1

/-- PAGE_PENDING_RESEND: the wait before a re-send is over (R298, R349). -/
def resend (s : State) (c : Nat) (psn : Psn) : State :=
  let x := ctxOf s c
  match x.st, x.openResend with
  | .opening, some t =>
    if now s < t then s
    else pushMaint (setCtx s c { x with openResend := none, opens := x.opens - 1 }) (fnPort s 0) (.open_ c)
  | _, _ =>
    match unansOf s c psn with
    | none => s
    | some u =>
      match u.resendAt with
      | none => s
      | some t =>
        if now s < t || u.queued || x.st != .connected then s
        else modUnans (sendAgain s c u) c psn (fun u => { u with counts := false })

/-- FENCED_HOLD_EXPIRY: the peer has stayed fenced for 100 µs (R358). -/
def fencedHoldExpiry (s : State) (c : Nat) : State :=
  let x := ctxOf s c
  match x.heldFrom with
  | none => s
  | some t => if now s < t + 100000 || !peerFenced s x then s else ctxError s c 2

/-- PEER_IDLE_EXPIRY (R363). -/
def peerIdleExpiry (s : State) (c : Nat) : State :=
  let x := ctxOf s c
  if x.st != .connected || !x.peer || slotBusy s c || now s < x.used + max 1 s.ctx.peerIdle * 1000000 then s
  else pushMaint (setCtx s c { x with st := .closing, opens := 0, openNaks := 0, openAt := now s }) (fnPort s 0) (.close c)

/-- CONTEXT_QUARANTINE_END (R336). -/
def contextFree (s : State) (c : Nat) : State :=
  let x := ctxOf s c
  if x.st != .quarantine || now s < x.since + 4000000 then s
  else setCtx s c { st := .free, inc := x.inc, since := now s }

/-- EJECTION_RESERVE_TIMEOUT (R229). -/
def reserveTimeout (s : State) (c : Nat) (psn : Psn) : State :=
  { s with ctx := { s.ctx with kept := s.ctx.kept.filter (fun k => !(k.1 == c && k.2.1 == psn && decide (k.2.2 + 4000000 ≤ now s))) } }

end Sys2Proof.Machine
end

