-- ==== Sys2Proof/Machine/CarData.lean ====
section
/-! DEFINITION. The arithmetic of collective operations (R415, R420 to R424) and the wire form of partials (R426, R427). -/

namespace Sys2Proof.Machine

/-- Bytes of an element as the host sees it (R413). -/
def typeBytes (type : Nat) : Nat := if type ≤ 2 then 8 else if type = 3 then 4 else 2

/-- A native bf16 sum is kept in fp32 (R422). -/
def wideSum (p : CarParams) : Bool := p.type == 4 && p.rop == 0

/-- The format that a floating-point operation computes in. -/
def workFmt (p : CarParams) : Fmt := if wideSum p then fp32 else fmtOf p.type

/-- Bytes of an element of a native partial (R422; log entry 24). -/
def workBytes (p : CarParams) : Nat := if wideSum p then 4 else typeBytes p.type

/-- Two elements under ROP (R415, R420 to R422). -/
def combineWord (p : CarParams) (a b : Nat) : Nat :=
  if p.type ≤ 1 then
    match p.rop with
    | 0 => (a + b) % 2 ^ 64
    | 1 => if p.type = 0 then (if toSigned 64 a ≤ toSigned 64 b then a else b) else min a b
    | 2 => if p.type = 0 then (if toSigned 64 a ≤ toSigned 64 b then b else a) else max a b
    | 3 => Nat.land a b
    | 4 => Nat.lor a b
    | _ => Nat.xor a b
  else
    let f := workFmt p
    match p.rop with
    | 0 => addWords f (nanWord f) a b
    | 1 => minMaxWords f false a b
    | _ => minMaxWords f true a b

/-- Every NaN that an operation produces is the canonical one (R421). -/
def canonWord (f : Fmt) (w : Nat) : Nat := if fval f w = .nan then nanWord f else w

/-- One element of a contribution as the vertex keeps it. -/
def workWord (p : CarParams) (w : Nat) : Nat := if wideSum p then convert bf16 fp32 w else w

/-- One element of a native result (R421, R422). -/
def resultWord (p : CarParams) (w : Nat) : Nat :=
  if p.type ≤ 1 then w else if wideSum p then convert fp32 bf16 w else canonWord (fmtOf p.type) w

/-! ### Exact sums (R423, R424) -/

def exactOf (f : Fmt) (w : Nat) : ExactAcc :=
  match fval f w with
  | .nan => { nan := true, negz := false }
  | .inf neg => { pinf := !neg, ninf := neg, negz := false }
  | .fin neg m => { sum := signedOf neg m, negz := neg && m == 0 }

def exactAdd (a b : ExactAcc) : ExactAcc :=
  { sum := a.sum + b.sum, nan := a.nan || b.nan, pinf := a.pinf || b.pinf, ninf := a.ninf || b.ninf, negz := a.negz && b.negz }

/-- The result of one element (R424). -/
def exactWord (f : Fmt) (a : ExactAcc) : Nat :=
  if a.nan || (a.pinf && a.ninf) then nanWord f
  else if a.pinf then infWord f false
  else if a.ninf then infWord f true
  else if a.sum = 0 then place [(f.fbits + f.ebits, b2n a.negz)]
  else roundWord f (decide (a.sum < 0)) a.sum.natAbs

/-! ### Whole contributions -/

/-- Elements of a byte string, `n` bytes each. -/
def elems (n : Nat) : Nat → List Byte → List Nat
  | 0, _ => []
  | k + 1, l => leNat (l.take n) :: elems n k (l.drop n)

/-- A member's contribution from its source bytes (R416, R429). -/
def contribution (p : CarParams) (l : List Byte) : CarData :=
  if p.op = 0 || p.op = 3 then .none
  else
    let ws := elems (typeBytes p.type) p.count l
    if p.exact then .exact (ws.map (exactOf (fmtOf p.type))) else .words (ws.map (workWord p))

/-- Two contributions combined, in order of arrival (R422, R423). -/
def combine (p : CarParams) : CarData → CarData → CarData
  | .none, b => b
  | a, .none => a
  | .words a, .words b => .words (List.zipWith (combineWord p) a b)
  | .exact a, .exact b => .exact (List.zipWith exactAdd a b)
  | a, _ => a

/-- The bytes of a result (R424, R429). -/
def resultBytes (p : CarParams) : CarData → List Byte
  | .none => []
  | .words l => l.flatMap (fun w => leBytes (typeBytes p.type) (resultWord p w))
  | .exact l => l.flatMap (fun a => leBytes (typeBytes p.type) (exactWord (fmtOf p.type) a))

/-! ### The wire (R426, R427) -/

/-- Cut bytes into packets of at most 4,096; at least one packet. -/
def chunks : Nat → List Byte → List (List Byte)
  | 0, l => [l]
  | n + 1, l => if l.length ≤ 4096 then [l] else l.take 4096 :: chunks n (l.drop 4096)

def packetBytes (l : List Byte) : List (List Byte) := chunks (l.length / 4096 + 1) l

/-- The trimmed long sum of one element (R426). -/
def exactRecord (i : Nat) (a : ExactAcc) : List Byte :=
  let m := a.sum.natAbs
  let js := (List.range 34).filter (fun j => field m (64 * j) 64 != 0)
  leBytes 8 (place [(0, i % 512), (9, b2n (decide (a.sum < 0))), (10, b2n a.nan), (11, b2n a.pinf), (12, b2n a.ninf),
    (13, b2n a.negz), (26, js.foldl (fun n j => n + 2 ^ j) 0)])
  ++ js.flatMap (fun j => leBytes 8 (field m (64 * j) 64))

/-- Whole records, packed into packets in order (R426). -/
def packRecords : List Byte → List (List Byte) → List (List Byte)
  | acc, [] => [acc]
  | acc, r :: l => if acc.length + r.length ≤ 4096 then packRecords (acc ++ r) l else acc :: packRecords r l

/-- The packets of a partial, or of a SCAN prefix (R426, R429). -/
def wirePackets (p : CarParams) : CarData → List (List Byte)
  | .none => [[]]
  | .words l => packetBytes (l.flatMap (leBytes (workBytes p)))
  | .exact l => packRecords [] ((l.zipIdx).map (fun x => exactRecord x.2 x.1))

/-- The limbs that MAP names, put together (R426). -/
def limbs (map : Nat) : List Nat → Nat → List Byte → Nat × List Byte
  | [], acc, l => (acc, l)
  | j :: js, acc, l =>
    if bitAt map j then limbs map js (acc + leNat (l.take 8) * 2 ^ (64 * j)) (l.drop 8) else limbs map js acc l

/-- Read the records of exact partials into their elements. -/
def readRecords : Nat → List Byte → FMap ExactAcc → FMap ExactAcc
  | 0, _, m => m
  | n + 1, l, m =>
    if l.length < 8 then m
    else
      let d := leNat (l.take 8)
      let (mag, rest) := limbs (field d 26 34) (List.range 34) 0 (l.drop 8)
      readRecords n rest (fmSet m (field d 0 9) {
        sum := signedOf (bitAt d 9) mag, nan := bitAt d 10, pinf := bitAt d 11, ninf := bitAt d 12, negz := bitAt d 13 })

/-- A partial, or a SCAN prefix, from its packets in order. One that bears no data stands for no contribution. -/
def readWire (p : CarParams) (pkts : List (List Byte)) : CarData :=
  if pkts.all (fun b => b == []) then .none
  else if p.exact then
    .exact ((pkts.foldl (fun m b => readRecords (b.length / 8) b m) ([] : FMap ExactAcc)).map (·.2))
  else .words (elems (workBytes p) p.count pkts.flatten)

end Sys2Proof.Machine
end

