-- ==== Sys2Proof/Machine/CarTree.lean ====
section
/-! DEFINITION. The trees of a collective group: which device is the root, which vertices and edges a tree has, and the part
of it that this device holds (R409, R410). -/

namespace Sys2Proof.Machine

/-! ### Paths from the root (R409) -/

/-- The hops of the dimension-order path between two coordinates, as (linear number, port). -/
def orderWalk (s : State) (dir dst : Nat) : Nat → Nat → List (Nat × Nat)
  | 0, _ => []
  | fuel + 1, here =>
    match orderPort dir here dst with
    | none => []
    | some p => (linearOf s here, p) :: orderWalk s dir dst fuel (neighbour s here p)

/-- The parent port of a vertex in the shortest-path tree: the lowest whose open link leads one hop nearer the root. -/
def nearerPort (s : State) (m : FaultMap) (lv : FMap Nat) (n : Nat) : Option Nat :=
  match fmFind lv n with
  | none => none
  | some k => (List.range 12).find? (fun p => linkOpen s m n p && (match fmFind lv (across s n p) with
      | some j => j + 1 == k
      | none => false))

/-- The hops from the root down to a vertex of the shortest-path tree. -/
def shortWalk (s : State) (m : FaultMap) (lv : FMap Nat) : Nat → Nat → List (Nat × Nat)
  | 0, _ => []
  | fuel + 1, n =>
    match nearerPort s m lv n with
    | none => []
    | some p => shortWalk s m lv fuel (across s n p) ++ [(across s n p, Nat.xor p 1)]

/-- A tree before it is seen from one vertex: its root, and the path from the root to each member's device that it
reaches, by rank. -/
structure Paths where
  root : Nat
  paths : List (Nat × List (Nat × Nat))
  deriving DecidableEq, Repr

/-- The paths of a tree (R409). Members on fenced devices have none. -/
def treePaths (s : State) (root : Nat) (members : List (Nat × Nat)) (m : FaultMap) : Paths :=
  let r := linearOf s root
  let live := (members.zipIdx).filter (fun x => !m.devices.contains (linearOf s x.1.1))
  if m.links = [] && m.devices = [] then
    { root := r, paths := live.map (fun x => (x.2, orderWalk s (dirBits s root x.1.1) x.1.1 20 root)) }
  else
    let lv := levelLayers s m (nodeCount s) 0 [r] [(r, 0)]
    { root := r,
      paths := (live.filter (fun x => (fmFind lv (linearOf s x.1.1)).isSome)).map (fun x =>
        (x.2, shortWalk s m lv (nodeCount s) (linearOf s x.1.1))) }

/-- The root of a group's tree: the device of the lowest-ranked member whose device is not fenced (R409). -/
def groupRoot (s : State) (members : List (Nat × Nat)) (m : FaultMap) : Option Nat :=
  (members.find? (fun x => !m.devices.contains (linearOf s x.1))).map (·.1)

/-- Every vertex of a tree, by linear number. -/
def treeVertices (s : State) (t : Paths) : List Nat :=
  (t.root :: t.paths.flatMap (fun x => x.2.map (fun h => across s h.1 h.2))).eraseDups

/-! ### One vertex's part (R409, R410) -/

/-- The hops of a path up to a vertex, if the path passes it or ends there. -/
def pathTo (s : State) (root n : Nat) : List (Nat × Nat) → Option (List (Nat × Nat))
  | [] => if root = n then some [] else none
  | h :: l =>
    if root = n then some []
    else match pathTo s (across s h.1 h.2) n l with
      | some r => some (h :: r)
      | none => none

/-- Lexicographic order of port lists: the depth-first preorder of R410. -/
def lexBefore : List Nat → List Nat → Bool
  | [], [] => false
  | [], _ :: _ => true
  | _ :: _, [] => false
  | a :: l, b :: r => decide (a < b) || (a == b && lexBefore l r)

/-- The tree as the vertex of linear number `n` holds it; none where it is no vertex. -/
def vertexTree (s : State) (epoch : Nat) (t : Paths) (n : Nat) : Option CarTree :=
  match t.paths.findSome? (fun x => pathTo s t.root n x.2) with
  | none => if t.root = n then some { epoch, parent := none, children := [], depth := 0, scanPos := 0, path := [] } else none
  | some path =>
    let below := fun p => (t.paths.filter (fun x => x.2.contains (n, p))).map (·.1)
    let ports := path.map (·.2)
    some {
      epoch, path, depth := path.length, parent := path.getLast?.map (fun h => Nat.xor h.2 1),
      children := ((List.range 12).map (fun p => (p, below p))).filter (fun c => c.2 != []),
      scanPos := (t.paths.filter (fun x => lexBefore (x.2.map (·.2)) ports)).length }

/-- The tree of an install message, as this device holds it. -/
def installTree (s : State) (m : TreeInstall) : Option CarTree :=
  vertexTree s m.epoch (treePaths s m.root m.members m.map) (linearOf s s.mvt.coord)

/-- A path has a fenced device or link in a fault map (R435). -/
def pathCut (s : State) (m : FaultMap) (path : List (Nat × Nat)) : Bool := path.any (fun h => !linkOpen s m h.1 h.2)

/-- A change of the fault map touches a tree of the group, or repairs what its tree of an empty map would use (R434). -/
def mapTouches (s : State) (g : CarGroup) (old new : FaultMap) : Bool :=
  let now_ := treePaths s g.root g.list g.map
  let plain := treePaths s g.root g.list {}
  let hops := fun (t : Paths) => t.paths.flatMap (·.2)
  let fresh := (hops now_).any (fun h => linkOpen s old h.1 h.2 && !linkOpen s new h.1 h.2)
  let mended := (hops plain).any (fun h => !linkOpen s old h.1 h.2 && linkOpen s new h.1 h.2)
  let lost := g.list.any (fun x => new.devices.contains (linearOf s x.1) != old.devices.contains (linearOf s x.1))
  fresh || mended || lost

end Sys2Proof.Machine
end

