-- ==== Sys2Proof/Machine/Carillon.lean ====
section
/-! DEFINITION. The Carillon's vertex engine: edge buffers and their credits (R411, R412), operations of a group (R417,
R418), the passes up and down a tree (R427 to R430), broadcasts, lost members and edges (R431 to R433), and the end of an
operation at a member (R419). -/

namespace Sys2Proof.Machine

/-! ### Groups, trees and operations -/

def carTree (g : CarGroup) (bank : Nat) : Option CarTree := if bank = 0 then g.tree0 else g.tree1

/-- The handle of a GROUP_ID that is resident here. -/
def carHandle (s : State) (id : Nat) : Option Nat :=
  (s.car.groups.find? (fun kv => kv.2.id == id && kv.2.st != .quarantine)).map (·.1)

def carOp (g : CarGroup) (n : Nat) : Option CarOp := g.ops.find? (fun o => o.opnum == n)

def modOp (s : State) (h n : Nat) (f : CarOp → CarOp) : State :=
  modCar s h (fun g => { g with ops := g.ops.map (fun o => if o.opnum == n then f o else o) })

/-- The operation has ended at this vertex. -/
def opEnded (g : CarGroup) (n : Nat) : Bool := decide (n < g.floor) || g.ended.contains n

/-- An OPNUM of 32 bits, as the count nearest to those that the vertex has met. -/
def fullOp (g : CarGroup) (n : Nat) : Nat :=
  let d := (n + 2 ^ 32 - g.highOp % 2 ^ 32) % 2 ^ 32
  if d < 2 ^ 31 || g.highOp + d < 2 ^ 32 then g.highOp + d else g.highOp + d - 2 ^ 32

/-- Ended operations move the floor up. -/
def raiseFloor : Nat → CarGroup → CarGroup
  | 0, g => g
  | k + 1, g => if g.ended.contains g.floor then raiseFloor k { g with floor := g.floor + 1, ended := without g.ended g.floor } else g

/-- The operation ends at this vertex (R443: CAR_OPS, CAR_EXACT). -/
def endOp (s : State) (h n : Nat) : State :=
  let g := carGroup s h
  match carOp g n with
  | none => s
  | some o =>
    let s := bump s 335
    let s := if (match o.params with | some p => p.exact | none => false) then bump s 341 else s
    setCar s h (raiseFloor (g.ended.length + 1) { g with
      ops := g.ops.filter (fun x => x.opnum != n), ended := withMember g.ended n })

/-- This device's member takes part: it is not lost (R431). -/
def liveMember (g : CarGroup) : Bool := g.member && !g.selfLost

/-- The vertex meets an operation: it awaits its own member's part, where it has one that is not lost. -/
def openOp (s : State) (h bank n : Nat) : State :=
  let g := carGroup s h
  if (carOp g n).isSome then s
  else
    let o : CarOp := { opnum := n, bank, ownIn := !liveMember g, jobOver := !g.member, lost := g.member && g.selfLost }
    setCar s h { g with ops := g.ops ++ [o], highOp := max g.highOp (n + 1) }

/-! ### Sending on an edge (R65, R411, R412) -/

/-- A Carillon packet enters the Movement for the tree edge of a port. -/
def injectCar (s : State) (port vc : Nat) (h : CarHdr) (payload : List Byte) : State :=
  let rt : RouteHdr := {
    dest := neighbour s s.mvt.coord port, src := s.mvt.coord, plane := s.brd.straps.plane, cls := 2, vc,
    epoch := currentBit s, age := field s.rgl.time 12 16, dir := dirBits s s.mvt.coord (neighbour s s.mvt.coord port),
    len := 1 + (payload.length + 63) / 64 }
  let key := bufKey 15 vc
  setBuf s key (bufOf s key ++ [{
    pkt := { rt, tt := .car { h with length := payload.length }, payload := payload }, got := rt.len, arr := now s,
    out := some port }])

/-- A slot of this vertex's receive buffers is free again: its credit returns, on the channel of the other direction
(R412). -/
def freeCarSlot (s : State) (h bank port vc : Nat) : State :=
  injectCar s port (13 - vc) { ttype := 0x44, groupId := (carGroup s h).id, tepoch := bank } []

/-- A received packet keeps its slot until what is done with it has been done. -/
def newHold (s : State) (h bank port vc : Nat) : State × Nat :=
  let g := carGroup s h
  (setCar s h { g with holds := fmSet g.holds g.nextHold ⟨1, bank, port, vc⟩, nextHold := g.nextHold + 1 }, g.nextHold)

def addHold (s : State) (h id : Nat) : State :=
  modCar s h (fun g => match fmFind g.holds id with
    | some x => { g with holds := fmSet g.holds id { x with left := x.left + 1 } }
    | none => g)

def releaseHold (s : State) (h : Nat) (id : Option Nat) : State :=
  match id with
  | none => s
  | some i =>
    let g := carGroup s h
    match fmFind g.holds i with
    | none => s
    | some x =>
      if x.left ≤ 1 then freeCarSlot (setCar s h { g with holds := fmErase g.holds i }) h x.bank x.port x.vc
      else setCar s h { g with holds := fmSet g.holds i { x with left := x.left - 1 } }

/-- A packet waits for a credit of its edge. -/
def queueCar (s : State) (h bank port vc : Nat) (hdr : CarHdr) (payload : List Byte) (hold : Option Nat) : State :=
  let s := match hold with | some i => addHold s h i | none => s
  modCar s h (fun g => { g with sends := g.sends ++ [⟨bank, port, vc, hdr, payload, hold⟩] })

/-- The edge of a port is fenced, or the device at its other end is (R432). -/
def edgeFenced (s : State) (p : Nat) : Bool :=
  fenced s p || (currentBank s).map.devices.contains (linearOf s (neighbour s s.mvt.coord p))

/-- Send what waits, in order, as far as credits go; what would go over a fenced edge is dropped (R411, R432). -/
def pumpSends (s : State) (h : Nat) : State :=
  let step := fun (s : State) (x : CarSend) =>
    let g := carGroup s h
    let key := x.bank * 16 + x.port
    if edgeFenced s x.port then releaseHold s h x.hold
    else if fmGet g.used key 0 < (if g.slots2 then 2 else 1) then
      releaseHold (injectCar (setCar s h { g with used := fmModify g.used key 0 (· + 1) }) x.port x.vc x.hdr x.payload) h x.hold
    else setCar s h { g with sends := g.sends ++ [x] }
  (carGroup s h).sends.foldl step (modCar s h (fun g => { g with sends := [] }))

/-- The header of a packet of an operation (R427). -/
def opHdr (g : CarGroup) (o : CarOp) (ttype status contrib : Nat) : CarHdr :=
  let p := o.params.getD ⟨0, 0, 0, false, 0, 0⟩
  { ttype, status, groupId := g.id, tepoch := o.bank, exact := p.exact, op := p.op, type := p.type, rop := p.rop,
    opnum := o.opnum % 2 ^ 32, contrib, count := p.count, peerRank := p.peer }

/-- Packets of one partial or prefix wait for an edge (R426, R429). -/
def queueAll (s : State) (h bank port vc : Nat) (hdr : CarHdr) (pkts : List (List Byte)) (hold : Option Nat) : State :=
  (pkts.zipIdx).foldl (fun s x =>
    queueCar s h bank port vc { hdr with pktIndex := x.2, pktCount := pkts.length % 2 ^ 20 } x.1 hold) s

/-! ### Contributions (R418, R429, R431, R432) -/

def opParams (o : CarOp) : CarParams := o.params.getD ⟨0, 0, 0, false, 0, 0⟩

/-- The operation is a BROADCAST, as far as the vertex knows; one whose vertices disagree is not run as one. -/
def isBroadcast (o : CarOp) : Bool :=
  (match o.params with | some p => p.op == 0 | none => false) && o.parts.all (fun x => x.params.isNone) && !o.mismatch

/-- The child's partial is here. -/
def partIn (o : CarOp) (p : Nat) : Bool := o.parts.any (fun x => x.src == some p)

/-- Everything that the vertex holds of an operation, combined in order of arrival (R418, R422). -/
def gather (o : CarOp) : CarPart :=
  let differ := o.parts.any (fun x => x.params.isSome && x.params != o.params)
  let bad := o.mismatch || differ || o.parts.any (·.mismatch)
  { src := none, params := o.params, lost := o.lost || o.parts.any (·.lost), mismatch := bad,
    contrib := o.parts.foldl (fun n x => n + x.contrib) 0,
    data := if bad then .none else o.parts.foldl (fun d x => combine (opParams o) d x.data) .none }

/-- What has become of the operation's members and edges since: a fenced child edge is missing unless its partial is here;
a lost member's part is taken out while it has not gone up; a job that has ended contributes nothing more (R431, R432). -/
def noteLosses (s : State) (g : CarGroup) (t : CarTree) (o : CarOp) : CarOp :=
  let gone := (t.children.map (·.1)).filter (fun p => edgeFenced s p && !partIn o p && !o.missing.contains p)
  let o := if gone = [] then o else {
    o with missing := o.missing ++ gone, lost := true, ins := o.ins.filter (fun i => !gone.contains i.port) }
  let isOver : Bool := (match o.job with
    | some idx => (match jobOf s g.queue idx with | some j => j.over | none => true)
    | none => !g.member)
  let o := if isOver && !o.ownIn then { o with ownIn := true, lost := true } else o
  let o := if g.member && g.selfLost && !o.sentUp && o.final.isNone
    then { o with ownIn := true, lost := true, parts := o.parts.filter (fun x => x.src.isSome) } else o
  { o with jobOver := o.jobOver || isOver }

/-- The vertex holds every partial of its subtree (R429). -/
def subtreeIn (t : CarTree) (o : CarOp) : Bool :=
  o.ownIn && t.children.all (fun c => o.missing.contains c.1 || partIn o c.1)

/-- The root's result: status, CONTRIB, and whether it bears data (R418, R433). -/
def rootResult (g : CarGroup) (o : CarOp) (x : CarPart) : Nat × Nat × Bool × List (List Byte) :=
  let p := opParams o
  if x.mismatch then (stMalformed, x.contrib, false, [])
  else if x.contrib = 0 then (stMemberLost, 0, false, [])
  else
    let st := if x.contrib < g.size then stMemberLost else stOk
    if (st != stOk && g.abort_) || p.op = 3 then (st, x.contrib, false, [])
    else (st, x.contrib, true, if p.op = 4 then [[]] else [resultBytes p x.data])

/-- The partial goes to the parent, or the root forms the result (R429 steps 2 and 3). -/
def goUp (s : State) (h : Nat) (g : CarGroup) (t : CarTree) (o : CarOp) : State :=
  let x := gather o
  let s := if x.lost then bump s 337 else s
  let s := if x.mismatch && !o.parts.any (·.mismatch) then bump s 338 else s
  match t.parent with
  | some p =>
    let hdr := { opHdr g o 0x40 0 x.contrib with lost := x.lost, mismatch := x.mismatch }
    let s := queueAll s h o.bank p 6 hdr (if x.contrib = 0 then [[]] else wirePackets (opParams o) x.data) none
    modOp s h o.opnum (fun o => { o with sentUp := true })
  | none => modOp s h o.opnum (fun o => { o with sentUp := true, final := some (rootResult g o x) })

/-! ### Down the tree (R429 step 4) -/

/-- A prefix of everything before a child, or before the own member, in scan order (R410, R429). -/
def prefixBefore (o : CarOp) (before_ : CarPart → Bool) (given : CarData) : CarData :=
  let order := fun (x : CarPart) => match x.src with | none => 0 | some p => p + 1
  let parts := (List.range 13).filterMap (fun k => o.parts.find? (fun x => order x == k && before_ x))
  parts.foldl (fun d x => combine (opParams o) d x.data) given

/-- The result, prefixes and ends go to the children. -/
def goDown (s : State) (h : Nat) (g : CarGroup) (t : CarTree) (o : CarOp) (r : Nat × Nat × Bool × List (List Byte)) : State :=
  let (st, contrib, bears, pkts) := r
  let p := opParams o
  let s := t.children.foldl (fun s c =>
    if o.missing.contains c.1 then s
    else if isBroadcast o && !o.dead && !c.2.contains p.peer then s
    else if bears && (p.op = 2 || (p.op = 1 && c.2.contains p.peer)) then
      queueAll s h o.bank c.1 7 (opHdr g o 0x41 st contrib) pkts o.hold
    else if bears && p.op = 4 then
      let d := prefixBefore o (fun x => match x.src with | none => true | some q => decide (q < c.1)) (readWire p pkts)
      queueAll s h o.bank c.1 7 (opHdr g o 0x41 st contrib) (wirePackets p d) o.hold
    else queueCar s h o.bank c.1 7 { opHdr g o 0x43 st contrib with pktCount := 1 } [] o.hold) s
  modOp s h o.opnum (fun o => { o with passed := true })

/-! ### The member (R416, R419) -/

/-- The region of a held translation has been revoked (R416). -/
def heldRevoked (s : State) (key : Nat) : Bool :=
  (fmFind s.xlt.regions (key / 256)).isNone || genOf s (key / 256) != key % 256

/-- Bytes `off` to `off + n - 1` of held pieces. -/
def slicePieces : Nat → Nat → List (Bool × Nat × Nat) → List Piece
  | _, _, [] => []
  | off, n, (l, a, len) :: r =>
    if n = 0 then []
    else if len ≤ off then slicePieces (off - len) n r
    else
      let k := min n (len - off)
      { local_ := l, addr := a + off, len := k } :: slicePieces 0 (n - k) r

def dstLength (o : CarOp) : Nat := o.dst.foldl (fun n x => n + x.2.2) 0

/-- The member's job ends with the operation's status (R419, R433). -/
def endMember (s : State) (g : CarGroup) (idx : Idx) (status contrib : Nat) : State :=
  if status = stOk then completeJob s g.queue idx
  else if status = stMalformed then endJob s g.queue idx stMalformed 0 2
  else endJob s g.queue idx status contrib 0

/-- The member writes its result and makes it visible; then its job ends. A member that receives nothing only ends. -/
def deliver (s : State) (h : Nat) (g : CarGroup) (o : CarOp) (r : Nat × Nat × Bool × List (List Byte)) : State :=
  match o.job with
  | none => s
  | some idx =>
    let (st, contrib, bears, pkts) := r
    let p := opParams o
    let gets := bears && !g.selfLost && (p.op == 2 || p.op == 4 || (p.op == 1 && p.peer == g.rank))
    if gets && !canAccess s g.tenant then s
    else
      let ended := fun (s : State) => modOp s h o.opnum (fun o => { o with jobOver := true })
      if !gets then ended (endMember s g idx st contrib)
      else if heldRevoked s o.dkey then ended (endJob s g.queue idx stRevoked 0 0)
      else
        let bytes := if p.op = 4 then resultBytes p (prefixBefore o (fun x => x.src.isNone) (readWire p pkts)) else pkts.flatten
        let ps := slicePieces 0 bytes.length o.dst
        let s := writePieces s g.tenant ps bytes
        match visible s g.tenant ps with
        | (s, true) => ended (endMember (tapDlv s g.tenant ((bytes.length + 4095) / 4096) bytes.length) g idx st contrib)
        | (s, false) => ended (endJob s g.queue idx stBusError 0 0)

/-! ### Broadcasts (R428, R429, R432, R433) -/

/-- This member receives the data, as far as the vertex knows. -/
def receives (g : CarGroup) (o : CarOp) : Bool := liveMember g && !o.jobOver && (opParams o).peer != g.rank

/-- One packet of a broadcast is dealt with: copies for every other edge, and the own member's bytes. -/
def dealBlock (s : State) (h n : Nat) (t : CarTree) (b : CarBlock) : State :=
  let g := carGroup s h
  match carOp g n with
  | none => s
  | some o =>
    if receives g o && (o.job.isNone || !canAccess s g.tenant) then s
    else
      let hdr := { opHdr g o 0x41 0 0 with pktIndex := b.index, pktCount := (o.total.getD 1) % 2 ^ 20 }
      let s := match t.parent with
        | some p => if b.port = some p then s else queueCar s h o.bank p 6 { hdr with ttype := 0x40 } b.bytes b.hold
        | none => s
      let s := t.children.foldl (fun s c =>
        if b.port = some c.1 || o.missing.contains c.1 then s else queueCar s h o.bank c.1 7 hdr b.bytes b.hold) s
      let s :=
        if !receives g o then s
        else if heldRevoked s o.dkey then
          (match o.job with | some idx => endJob s g.queue idx stRevoked 0 0 | none => s)
        else
          let ps := slicePieces (4096 * b.index) b.bytes.length o.dst
          notePieces (writePieces s g.tenant ps b.bytes) g.tenant g.queue o.dkey ps
      let s := modOp s h n (fun o => { o with dealt := o.dealt + 1, blocks := o.blocks.filter (fun x => x != b) })
      releaseHold s h b.hold

/-- All of the data has passed this vertex. -/
def dataPassed (o : CarOp) : Bool := o.total == some o.dealt

/-- The receiver's data becomes visible and its job is done (R419). -/
def receiveDone (s : State) (h : Nat) (g : CarGroup) (o : CarOp) : State :=
  match o.job with
  | none => s
  | some idx =>
    if !canAccess s g.tenant then s
    else match visible s g.tenant (slicePieces 0 (dstLength o) o.dst) with
      | (s, true) => modOp (completeJob (tapDlv s g.tenant ((dstLength o + 4095) / 4096) (dstLength o)) g.queue idx) h o.opnum (fun o => { o with seen := true, jobOver := true })
      | (s, false) => modOp (endJob s g.queue idx stBusError 0 0) h o.opnum (fun o => { o with jobOver := true })

/-- Receivers of this vertex's subtree whose data is visible. -/
def receivers (o : CarOp) : Nat := o.acks.foldl (fun n kv => n + kv.2) 0 + b2n o.seen

/-- Nothing can come from the source any more, as this vertex sees it: its edge toward the source is missing, or told so;
or its own member was to be the source and is lost or has failed. -/
def sourceGone (g : CarGroup) (t : CarTree) (o : CarOp) : Bool :=
  let p := opParams o
  let toward := t.children.find? (fun c => c.2.contains p.peer)
  !dataPassed o && (match toward with
    | some c => o.missing.contains c.1 || partIn o c.1
    | none => (g.member && g.rank == p.peer && (g.selfLost || o.jobOver))
              || (t.parent.isNone && !(g.member && g.rank == p.peer)))

/-- One step of a broadcast at a vertex. -/
def broadcastStep (s : State) (h n : Nat) (t : CarTree) : State :=
  let g := carGroup s h
  let get := fun (s : State) => (carOp (carGroup s h) n).getD { opnum := n, bank := 0 }
  let s := (get s).blocks.foldl (fun s b => dealBlock s h n t b) s
  let o := get s
  let s := if dataPassed o && receives g o && !o.seen then receiveDone s h g o else s
  let o := get s
  let acked := t.children.all (fun c => o.missing.contains c.1 || (fmFind o.acks c.1).isSome)
  let s :=
    if dataPassed o && !receives g o && acked && !o.ackSent then
      let s := modOp s h n (fun o => { o with ackSent := true })
      match t.parent with
      | some p => queueCar s h o.bank p 6 { opHdr g o 0x42 0 (receivers o) with pktCount := 1 } [] none
      | none =>
        let k := receivers o
        modOp s h n (fun o => { o with final := some (if k + 1 < g.size then stMemberLost else stOk, k, false, []) })
    else s
  let o := get s
  if sourceGone g t o && !o.sentUp then
    let s := modOp s h n (fun o => { o with sentUp := true })
    match t.parent with
    | some p => queueCar s h o.bank p 6 { opHdr g o 0x40 0 0 with lost := true, pktCount := 1 } [] none
    | none => modOp s h n (fun o => { o with dead := true, final := some (stMemberLost, 0, false, []) })
  else s

/-! ### One operation at one vertex -/

/-- Nothing of the operation is left to do here. -/
def opFinished (g : CarGroup) (t : CarTree) (o : CarOp) : Bool :=
  let memberOver := o.jobOver || !g.member || (g.selfLost && o.job.isNone)
  if isBroadcast o && !o.dead then
    let onPath := g.member && g.rank == (opParams o).peer || t.children.any (fun c => c.2.contains (opParams o).peer)
    o.ackSent && memberOver && (o.passed || (!onPath && t.parent.isSome))
  else o.passed && memberOver

/-- An operation goes as far as it can: up, down, to its member, and out (R429). -/
def opStep (s : State) (h n : Nat) : State :=
  let g := carGroup s h
  match carOp g n with
  | none => s
  | some o =>
    match carTree g o.bank with
    | none => s
    | some t =>
      let o := noteLosses s g t o
      let s := modOp s h n (fun _ => o)
      let s := if isBroadcast o then broadcastStep s h n t
        else if !o.sentUp && o.final.isNone && subtreeIn t o then goUp s h g t o else s
      let get := fun (s : State) => (carOp (carGroup s h) n).getD o
      let s := match (get s).final with
        | none => s
        | some r =>
          let s := if (get s).passed then s else goDown s h g t (get s) r
          let o := get s
          let s := if o.jobOver then s else deliver s h g o r
          let o := get s
          if (o.jobOver || (liveMember g && o.job.isNone)) && o.hold.isSome
          then modOp (releaseHold s h o.hold) h n (fun o => { o with hold := none }) else s
      if opFinished g t (get s) then endOp s h n else s

/-! ### The COLLECTIVE job (R407, R416, R417) -/

/-- What a member reads and writes: bytes of its source and of its destination (R414). -/
def carRanges (g : CarGroup) (p : CarParams) : Nat × Nat :=
  let n := if p.op = 0 then p.count else p.count * typeBytes p.type
  match p.op with
  | 0 => if p.peer = g.rank then (n, 0) else (0, n)
  | 1 => (n, if p.peer = g.rank then n else 0)
  | 3 => (0, 0)
  | _ => (n, n)

/-- Check one range of a started collective job; it fails, stalls, or gives the held pieces (R416). -/
def carOperand (s : State) (q : Nat) (idx : Idx) (key off len need : Nat) : State × Option (List Piece) :=
  if len = 0 then (s, some [])
  else
    let x := queueOf s q
    match translate s { key, off, len, need, sup := x.supervisor, fn := x.fn } with
    | (s, .ok ps _) => (s, some ps)
    | (s, .fails st) => (endJob s q idx st 0 0, none)
    | (s, .absent level va) =>
      match localFault s (.job q idx) x.fn q key (need / 2 % 2) level va with
      | (s, true) => (s, none)
      | (s, false) => (endJob s q idx stTranslation 0 0, none)

/-- The member's own part enters the operation: its source has been read whole (R414, R418, R429 step 1). -/
def contribute (s : State) (h : Nat) (g : CarGroup) (n : Nat) (p : CarParams) (bytes : List Byte) (dkey : Nat) (dst : List Piece) :
    State :=
  modOp s h n (fun o =>
    let differ := (match o.params with | some x => x != p | none => false)
    let part : CarPart := { src := none, params := some p, data := contribution p bytes, contrib := 1 }
    let o := { o with
      ownIn := true, params := some (o.params.getD p), mismatch := o.mismatch || differ, dkey := dkey,
      dst := dst.map (fun x => (x.local_, x.addr, x.len)) }
    if p.op != 0 then { o with parts := o.parts ++ [part] }
    else if p.peer = g.rank && !differ then
      let pkts := packetBytes bytes
      { o with total := some pkts.length, blocks := (pkts.zipIdx).map (fun x => { port := none, index := x.2, bytes := x.1 }) }
    else o)

/-- A started collective job checks its ranges, and contributes; it does so again once a stall is resolved (R416). -/
def joinCollective (s : State) (q : Nat) (idx : Idx) : State :=
  match jobOf s q idx with
  | none => s
  | some j =>
    let h := j.context
    let g := carGroup s h
    match g.ops.find? (fun o => o.job == some idx && !o.ownIn) with
    | none => s
    | some o =>
      let p := carParams (j.entries.headD 0)
      let (rd, wr) := carRanges g p
      match carOperand s q idx (opnd j 160 32) (opnd j 192 48) rd 1 with
      | (s, none) => s
      | (s, some src) =>
        match carOperand s q idx (opnd j 256 32) (opnd j 288 48) wr 2 with
        | (s, none) => s
        | (s, some dst) =>
          match readPieces s g.tenant src with
          | (s, none) => endJob s q idx stBusError 0 0
          | (s, some l) => contribute (tapInj s g.tenant ((l.length + 4095) / 4096) l.length) h g o.opnum p l (opnd j 256 32) dst

/-- A member starts no new operation between its ready report and T (R434). -/
def changeHolds (g : CarGroup) : Bool := g.change.isSome

/-- The bank that an operation of this member runs on (R434 step 5). -/
def bankFor (g : CarGroup) (n : Nat) : Nat := if g.oldLive && n < g.n then 1 - g.bit else g.bit

/-- Collective jobs of the member in progress here (R417). -/
def memberOps (g : CarGroup) : Nat := (g.ops.filter (fun o => o.job.isSome && !o.jobOver)).length

/-- The member's next operation is open, with this job in it (R416, R417). -/
def enterOp (s : State) (h : Nat) (g : CarGroup) (idx : Idx) : State :=
  let s := openOp s h (bankFor g g.nextOp) g.nextOp
  let s := modCar s h (fun x => { x with nextOp := g.nextOp + 1 })
  modOp s h g.nextOp (fun o => { o with job := some idx })

/-- COLLECTIVE starts: it is the member's part in its next operation (R407, R417). -/
def startCollective (s : State) (q : Nat) (idx : Idx) : State :=
  match jobOf s q idx with
  | none => s
  | some j =>
    let h := j.context
    let fn := (queueOf s q).fn
    let g := carGroup s h
    let held := (fmFind s.car.groups h).isSome && g.st == .active && g.member && g.tenant == fn && g.queue == q
    if !held then endJob (beginJob s q idx) q idx stProtection 0 0
    else if g.selfLost then
      let (n, s) := draw (beginJob s q idx)
      endJob s q idx stMemberLost (n % 2 ^ 18) 0
    else if changeHolds g || memberOps g ≥ 2
         || (earlierJobs s q idx).any (fun k => k.opcode == 0x40 && !k.malformed && k.context == h
              && (k.st == .waiting || k.st == .armed)) then s
    else
      let s := beginJob s q idx
      let n := g.nextOp
      if n < g.cutTo then
        let (d, s) := draw (setCar s h { g with nextOp := n + 1, highOp := max g.highOp (n + 1) })
        endJob s q idx stMemberLost (d % 2 ^ 18) 1
      else
        let s := enterOp s h g idx
        if !fieldOwned s fn (jobCounter j) then endJob s q idx stProtection 0 0
        else
          let broken := (match carOp (carGroup s h) n with
            | some o => (match o.params with
              | some x => x.op == 0 && x != carParams (j.entries.headD 0)
              | none => false)
            | none => false)
          if broken then endJob s q idx stMalformed 0 2 else joinCollective s q idx

/-! ### Arrivals (R428 to R430) -/

/-- A packet of a resident group on a tree that it has here, by the edge that it may use; any other is discarded and
counted (R430). -/
def carArrival (s : State) (p : Packet) (ttype : Nat) (edge : CarTree → Bool)
    (f : State → Nat → CarHdr → State) : State :=
  match p.tt with
  | .car hd =>
    if hd.ttype != ttype then s
    else
      let s := consume s p
      match carHandle s hd.groupId with
      | none => bump s 339
      | some h =>
        match carTree (carGroup s h) hd.tepoch with
        | none => bump s 339
        | some t => if edge t then f s h hd else bump s 339
  | _ => s

def hdrParams (hd : CarHdr) : CarParams := ⟨hd.op, hd.type, hd.rop, hd.exact, hd.count, hd.peerRank⟩

def isChild (port : Nat) (t : CarTree) : Bool := t.children.any (fun c => c.1 == port)
def isParent (port : Nat) (t : CarTree) : Bool := t.parent == some port

/-- A broadcast packet is held until the vertex has dealt with it. -/
def holdBlock (s : State) (h n port vc : Nat) (hd : CarHdr) (bytes : List Byte) : State :=
  let (s, id) := newHold s h hd.tepoch port vc
  modOp s h n (fun o => { o with
    params := some (o.params.getD (hdrParams hd)), total := some (if hd.pktCount = 0 then 2 ^ 20 else hd.pktCount),
    blocks := o.blocks ++ [{ port := some port, index := hd.pktIndex, bytes := bytes, hold := some id }] })

/-- A packet of a child's partial: when the last is here the partial is a contribution (R429, R430). -/
def addPartial (s : State) (h n port : Nat) (hd : CarHdr) (bytes : List Byte) : State :=
  match carOp (carGroup s h) n with
  | none => s
  | some o =>
    if o.missing.contains port || partIn o port then s
    else
      let i := (o.ins.find? (fun i => i.port == port)).getD { port, pkts := [] }
      let pkts := fmSet i.pkts hd.pktIndex bytes
      let rest := o.ins.filter (fun i => i.port != port)
      if pkts.length < hd.pktCount then modOp s h n (fun o => { o with ins := rest ++ [{ port, pkts }] })
      else
        let ps := hdrParams hd
        let none_ := hd.contrib == 0
        let part : CarPart := {
          src := some port, params := if none_ then none else some ps, contrib := hd.contrib, lost := hd.lost,
          mismatch := hd.mismatch, data := if none_ || hd.mismatch then .none else readWire ps (pkts.map (·.2)) }
        modOp (bump s 336) h n (fun o => { o with
          ins := rest, parts := o.parts ++ [part], params := if none_ then o.params else some (o.params.getD ps) })

/-- A partial from a child: it joins what the child sends, or is a block of a broadcast on its way up; one of an ended operation is counted (R411, R429). -/
def upPacket (port : Nat) (bytes : List Byte) (s : State) (h : Nat) (hd : CarHdr) : State :=
  let n := fullOp (carGroup s h) hd.opnum
  if opEnded (carGroup s h) n then freeCarSlot (bump s 339) h hd.tepoch port 6
  else
    let s := openOp s h hd.tepoch n
    if hd.op = 0 && !(hd.lost && hd.contrib = 0) then holdBlock s h n port 6 hd bytes
    else freeCarSlot (addPartial s h n port hd bytes) h hd.tepoch port 6

/-- CAR_UP: a partial's packet is added and its slot is free; data that rises in a broadcast is held (R412, R429). -/
def carUp (s : State) (port : Nat) (p : Packet) : State :=
  carArrival s p 0x40 (isChild port) (upPacket port p.payload)

/-- A packet of a result, a prefix or a broadcast from the parent (R411, R429). -/
def downPacket (port : Nat) (bytes : List Byte) (s : State) (h : Nat) (hd : CarHdr) : State :=
  let n := fullOp (carGroup s h) hd.opnum
  if opEnded (carGroup s h) n then freeCarSlot (bump s 339) h hd.tepoch port 7
  else
    let s := openOp s h hd.tepoch n
    if hd.op = 0 then holdBlock s h n port 7 hd bytes
    else
      let s := modOp s h n (fun o => { o with
        params := some (o.params.getD (hdrParams hd)), down := fmSet o.down hd.pktIndex bytes })
      match carOp (carGroup s h) n with
      | none => s
      | some o =>
        let whole := o.down.length ≥ hd.pktCount
        let r := (hd.status, hd.contrib, true, o.down.map (·.2))
        if hd.pktCount > 1 then
          freeCarSlot (if whole then modOp s h n (fun o => { o with final := some r }) else s) h hd.tepoch port 7
        else
          let (s, id) := newHold s h hd.tepoch port 7
          modOp s h n (fun o => { o with final := some r, hold := some id })

/-- CAR_DOWN: a result, a prefix, or broadcast data (R412, R429). -/
def carDown (s : State) (port : Nat) (p : Packet) : State :=
  carArrival s p 0x41 (isParent port) (downPacket port p.payload)

/-- A CAR_ACK from a child: its subtree has the broadcast (R423, R429). -/
def ackPacket (port : Nat) (s : State) (h : Nat) (hd : CarHdr) : State :=
  let n := fullOp (carGroup s h) hd.opnum
  let s := freeCarSlot s h hd.tepoch port 6
  if opEnded (carGroup s h) n then bump s 339
  else
    modOp (openOp s h hd.tepoch n) h n (fun o => { o with
      params := some (o.params.getD (hdrParams hd)), acks := fmSet o.acks port hd.contrib })

/-- CAR_ACK: receivers of a child's subtree whose data is visible (R428). -/
def carAck (s : State) (port : Nat) (p : Packet) : State :=
  carArrival s p 0x42 (isChild port) (ackPacket port)

/-- A CAR_END from the parent: the operation ends here with its status (R419, R429). -/
def endPacket (port : Nat) (s : State) (h : Nat) (hd : CarHdr) : State :=
  let n := fullOp (carGroup s h) hd.opnum
  if opEnded (carGroup s h) n then freeCarSlot (bump s 339) h hd.tepoch port 7
  else
    let s := openOp s h hd.tepoch n
    let (s, id) := newHold s h hd.tepoch port 7
    modOp s h n (fun o => { o with
      params := some (o.params.getD (hdrParams hd)), final := some (hd.status, hd.contrib, false, []), hold := some id,
      dead := o.dead || (hd.op == 0 && !dataPassed o) })

/-- CAR_END: the final status and CONTRIB (R419, R429). -/
def carEnd (s : State) (port : Nat) (p : Packet) : State :=
  carArrival s p 0x43 (isParent port) (endPacket port)

/-- A CAR_SLOT gives back one slot of an edge (R411, R412). -/
def slotPacket (port : Nat) (s : State) (h : Nat) (hd : CarHdr) : State :=
  modCar s h (fun g => { g with used := fmModify g.used (hd.tepoch * 16 + port) 0 (· - 1) })

/-- CAR_SLOT: one credit of an edge returns (R412). -/
def carSlot (s : State) (port : Nat) (p : Packet) : State :=
  carArrival s p 0x44 (fun t => isChild port t || isParent port t) (slotPacket port)

/-! ### The engine at the end of a step -/

/-- A lost member's vertex that is not the root takes part with nothing in its member's next operations, two at a time
(R417, R431; log entry 25). -/
def lostOps (s : State) (h : Nat) : State :=
  let one := fun (s : State) =>
    let g := carGroup s h
    let t := carTree g g.bit
    if g.member && g.selfLost && !changeHolds g && (match t with | some t => t.parent.isSome | none => false)
       && (g.ops.filter (fun o => o.final.isNone)).length < 2 then
      modCar (if opEnded g g.nextOp then s else openOp s h (bankFor g g.nextOp) g.nextOp) h (fun g => { g with nextOp := g.nextOp + 1 })
    else s
  one (one s)

/-- Members are lost whose queue has stopped as strict, or is no longer there (R431). -/
def lostQueues (s : State) : State :=
  s.car.groups.foldl (fun s kv =>
    let st := (queueOf s kv.2.queue).st
    if kv.2.st == .active && liveMember kv.2 && (st == .stopped || st == .draining || st == .disabled) then loseMember s kv.1 else s) s

/-- Every operation of every group goes as far as it can. -/
def carPump (s : State) : State :=
  let s := lostQueues s
  s.car.groups.foldl (fun s kv =>
    if kv.2.st != .active then s
    else
      let s := lostOps s kv.1
      let s := (carGroup s kv.1).ops.foldl (fun s o => opStep s kv.1 o.opnum) s
      pumpSends s kv.1) s

end Sys2Proof.Machine
end

