-- ==== Sys2Proof/Machine/ConnCmds.lean ====
section
/-! DEFINITION. Connection and counter commands 0x0200 to 0x0220 (R359, R373, R374), messaging commands 0x0400 to 0x0403
(R403, R404), scheduler commands 0x0E00 to 0x0E06 (R498, R499), and queue samples (R492, R493). -/

namespace Sys2Proof.Machine

/-! ### Registers (R369 to R372, R400 to R402, R494 to R497) -/

def ctxCfg (s : State) : Nat := place [(0, s.ctx.ackDelay), (8, s.ctx.peerIdle), (16, b2n s.ctx.fastRetx)]

/-- The context is neither FREE nor in QUARANTINE. -/
def ctxLive (x : Ctx) : Bool := x.st != .free && x.st != .quarantine

def ctxStatus (s : State) : Nat :=
  place [(0, (s.ctx.ctxs.filter (fun kv => ctxLive kv.2 && !kv.2.peer)).length),
    (17, (s.ctx.ctxs.filter (fun kv => ctxLive kv.2 && kv.2.peer)).length), (34, (s.ctx.armed.filter (fun a => !a.released)).length)]

def ctxState (s : State) (c : Nat) : Nat :=
  let x := ctxOf s c
  place [(0, ctxCode x.st), (3, b2n x.peer), (4, if x.peer then 0 else x.fn), (12, x.inc), (20, x.nextPsn.toNat),
    (44, x.unans.length), (53, x.reason)]

def ctxCounter (s : State) (n : Nat) : Nat :=
  match fmFind s.ctx.counters n with
  | none => 0
  | some c => place [(0, c.value), (32, c.owner), (40, 1), (41, (s.ctx.armed.filter (fun a => a.counter == n && !a.released)).length)]

def catCfg (s : State) : Nat := s.cat.eagerMax
def catStatus (s : State) : Nat := place [(0, postedCount s), (19, headerCount s), (37, blockCount s)]

def catEp (s : State) (ep : Nat) : Nat :=
  match fmFind s.cat.eps ep with
  | none => 0
  | some e => place [(0, if !e.live then 3 else if e.waiting = [] then 1 else 2), (2, e.owner), (10, e.posted.length),
      (29, e.unexp.length), (47, min e.waiting.length 15)]

def schCfg (s : State) : Nat := place [(0, s.sch.defaultQuantum), (8, b2n s.sch.sampleEn)]

/-- Functions with a BLOCKED group. -/
def blockedFns (s : State) : List Nat :=
  ((s.sch.groups.filter (fun kv => kv.2.blocked)).map (fun kv => groupOwner s kv.1)).eraseDups

def schStatus (s : State) : Nat :=
  place [(0, s.sch.list12.length), (17, s.sch.list13.length), (34, (blockedFns s).length)]

def schGroup (s : State) (g : Nat) : Nat :=
  let x := groupSched s g
  let p := groupPort s g
  place [(0, x.quantum), (8, x.deficit % 256), (16, b2n ((activeList s p).contains g)), (17, b2n x.blocked), (18, p - 12),
    (20, groupOwner s g)]

def shaperCfg (x : Shaper) (reset : Bool) : Nat :=
  place [(0, x.rate), (32, x.burst), (48, b2n x.en), (49, b2n (reset && x.resetFull))]

/-- The seven registers of a function, in offset order (R497). -/
def schFn (s : State) (fn : Nat) : List Nat :=
  let f := fnSched s fn
  [shaperCfg f.sh0 true, f.sh0.tokens, shaperCfg f.sh1 true, f.sh1.tokens, shaperCfg f.pol false, f.pol.tokens, b2n f.exceeded]

/-! ### Connections (R359, R374) -/

/-- The tenant field is good for the issuer (R374). -/
def tenantOk (s : State) (fn t : Nat) : Bool := if fn = 0 then enabledFn s t else t == fn

/-- CONN_CREATE. -/
def connCreate (fn : Nat) (c : Cmd) (s : State) : State × CmdOut :=
  let t := byteAt c.params 0
  if !zeroAt c.params 1 7 then (s, only stMalformed)
  else if !tenantOk s fn t then (s, only stProtection)
  else match freeContext s with
    | none => (s, only stNoResource)
    | some n =>
      let s := takeContext s n { st := .ready, fn := t }
      let s := mirror s (.conn n (connCfgOf (ctxOf s n)))
      (s, .done stOk (leBytes 2 n ++ leBytes 1 (ctxOf s n).inc ++ leBytes 5 0) 0)

/-- The connection that a command names may be used by its issuer (R374). -/
def connOk (s : State) (fn c : Nat) : Bool :=
  let x := ctxOf s c
  !x.peer && ctxLive x && (fn == 0 || x.fn == fn)

/-- A context as CONN_CONNECT leaves it; 0 selects the default of a retry field (R359, R374). -/
def connectedCtx (s : State) (x : Ctx) (p : List Byte) : Ctx :=
  { st := .connected, fn := x.fn, inc := x.inc, pPlane := byteAt p 7 % 2, pCoord := numAt p 4 3, pCtx := numAt p 8 2,
    pInc := byteAt p 2, retryUs := if numAt p 10 2 = 0 then 20 else numAt p 10 2,
    retryMax := if byteAt p 12 = 0 then 8 else byteAt p 12, used := now s }

/-- CONN_CONNECT. -/
def connConnect (fn : Nat) (c : Cmd) (s : State) : State × CmdOut :=
  let p := c.params
  let n := numAt p 0 2
  if byteAt p 3 != 0 || numAt p 4 4 / 2 ^ 25 != 0 || numAt p 10 2 > 1000 || byteAt p 12 > 15 || !zeroAt p 13 3
     || !validCoord s (numAt p 4 3) then (s, only stMalformed)
  else if !connOk s fn n then (s, only stProtection)
  else if (ctxOf s n).st != .ready then (s, only stNoResource)
  else
    let s := setCtx s n (connectedCtx s (ctxOf s n) p)
    (mirror s (.conn n (connCfgOf (ctxOf s n))), only stOk)

/-- Jobs that name a connection and are not done, as (queue, index): started ones, waiting, held by FENCE and armed ones (R359). -/
def namingJobs (s : State) (n : Nat) : List (Nat × Idx) :=
  s.rings.queues.flatMap (fun kv => (kv.2.jobs.filter (fun j => !j.over && !j.malformed && usesCtx s n j)).map (fun j => (kv.1, j.idx)))

/-- A job is closed by command: DETAIL0 is the offset of its first packet that has failed, is unanswered or unsent (R344, R359). -/
def closeJob (s : State) (p : Nat × Idx) : State :=
  match jobOf s p.1 p.2 with
  | none => s
  | some j =>
    let offs := (jobUnans s p.1 p.2).map (fun u => u.2.off) ++ j.failOff.toList
    endJob s p.1 p.2 stRetryExceeded (offs.foldl min j.nextOff) (2 ^ 64 - 1)

/-- A connection is closed by command: its jobs fail, its packets are abandoned without SKIP, its marks of early writes and
the reservations of its holder go (R330, R359, R643). -/
def closeConn (s : State) (n : Nat) : State :=
  let jobs := namingJobs s n
  let s := jobs.foldl closeJob s
  let s := (ctxBarriers s n).foldl (fun s p => flushOver s p.1 p.2 n stRetryExceeded) s
  let s := (ctxOf s n).unans.foldl (fun s u => unqueue s n u) s
  let s := modCtx s n (fun x => { x with unans := [], acks := [] })
  { s with rings := { s.rings with queues := s.rings.queues.map (fun kv =>
      (kv.1, { kv.2 with unflushed := without kv.2.unflushed n })) } }

/-- CONN_DESTROY. -/
def connDestroy (fn : Nat) (c : Cmd) (s : State) : State × CmdOut :=
  let n := numAt c.params 0 2
  if !zeroAt c.params 2 6 then (s, only stMalformed)
  else if !connOk s fn n then (s, only stProtection)
  else
    let s := quarantine (closeConn s n) n
    (mirror s (.connGone n (ctxOf s n).inc), only stOk)

/-- CONN_RESET: READY again, with the next incarnation. -/
def connReset (fn : Nat) (c : Cmd) (s : State) : State × CmdOut :=
  let n := numAt c.params 0 2
  if !zeroAt c.params 2 6 then (s, only stMalformed)
  else if !connOk s fn n then (s, only stProtection)
  else
    let s := closeConn s n
    let x := ctxOf s n
    let s := clearHolder s x n
    let s := setCtx s n { st := .ready, fn := x.fn, inc := (x.inc + 1) % 256 }
    (mirror s (.conn n (connCfgOf (ctxOf s n))), .done stOk (leBytes 8 ((x.inc + 1) % 256)) 0)

/-- CONN_QUERY. A virtual function names only its own contexts. -/
def connQuery (fn : Nat) (c : Cmd) (s : State) : State × CmdOut :=
  let n := numAt c.params 0 2
  let x := ctxOf s n
  if !zeroAt c.params 2 6 then (s, only stMalformed)
  else if fn != 0 && (x.peer || x.st == .free || x.fn != fn) then (s, only stProtection)
  else (s, .done stOk (leBytes 8 (ctxState s n) ++ leBytes 4 (x.pCoord + x.pPlane * 2 ^ 24) ++ leBytes 2 x.pCtx
    ++ leBytes 2 x.pInc ++ leBytes 4 x.e.toNat ++ leBytes 4 x.retx ++ leBytes 8 0) 0)

/-! ### Counters (R374) -/

/-- A counter is free, here and on the partner (R518). -/
def counterFreeAt (s : State) (n : Nat) : Bool :=
  (fmFind s.ctx.counters n).isNone && !(onPartner s && (fmFind s.twn.mirror.counters n).isSome)

/-- The lowest run of `k` free counters: `run` free ones end before `n`. -/
def lowestRun (s : State) (k : Nat) : Nat → Nat → Nat → Option Nat
  | 0, _, _ => none
  | fuel + 1, n, run =>
    if run = k then some (n - k)
    else if n < 8192 && counterFreeAt s n then lowestRun s k fuel (n + 1) (run + 1)
    else lowestRun s k fuel (n + 1) 0

/-- Counters `n` to `n + k - 1` are given to a tenant, with value 0 (R374). -/
def allocCounters (s : State) (n k t : Nat) : State :=
  (List.range k).foldl (fun s i =>
    mirror { s with ctx := { s.ctx with counters := fmSet s.ctx.counters (n + i) { owner := t } } } (.counterCfg (n + i) t)) s

/-- Counters are freed (R374). -/
def freeCounters (s : State) (range : List Nat) : State :=
  range.foldl (fun s i =>
    mirror { s with ctx := { s.ctx with counters := fmErase s.ctx.counters i } } (.counterGone i)) s

/-- The counter is allocated, and the function may free it (R374). -/
def mayFree (s : State) (fn i : Nat) : Bool := match fmFind s.ctx.counters i with | some x => fn == 0 || x.owner == fn | none => false

/-- COUNTER_ALLOC. -/
def counterAlloc (fn : Nat) (c : Cmd) (s : State) : State × CmdOut :=
  let p := c.params
  let k := numAt p 0 2
  let t := byteAt p 2
  if k = 0 || k > 8192 || !zeroAt p 3 5 then (s, only stMalformed)
  else if !tenantOk s fn t then (s, only stProtection)
  else match lowestRun s k 8193 0 0 with
    | none => (s, only stNoResource)
    | some n => (allocCounters s n k t, .done stOk (leBytes 8 n) 0)

/-- COUNTER_FREE. -/
def counterFree (fn : Nat) (c : Cmd) (s : State) : State × CmdOut :=
  let p := c.params
  let n := numAt p 0 2
  let k := numAt p 2 2
  let range := (List.range k).map (n + ·)
  if k = 0 || k > 8192 || n + k > 8192 || !zeroAt p 4 4 then (s, only stMalformed)
  else if !range.all (mayFree s fn) then (s, only stProtection)
  else if s.ctx.armed.any (fun a => range.contains a.counter && !a.released) then (s, only stNoResource)
  else (freeCounters s range, only stOk)

/-- COUNTER_QUERY. -/
def counterQuery (fn : Nat) (c : Cmd) (s : State) : State × CmdOut :=
  let n := numAt c.params 0 2
  if n ≥ 8192 || !zeroAt c.params 2 6 then (s, only stMalformed)
  else if fn != 0 && !counterOwned s n fn then (s, only stProtection)
  else (s, .done stOk (leBytes 8 (ctxCounter s n)) 0)

/-- CTX_CONFIG (R263, R369). -/
def ctxConfig (_ : Nat) (c : Cmd) (s : State) : State × CmdOut :=
  let p := c.params
  let vm := byteAt p 3
  if vm > 7 || !zeroAt p 4 4 || (bitAt vm 2 && byteAt p 2 > 1) then (s, only stMalformed)
  else if vm != 0 && isExpert s 0x0C then (s, only stProtection)
  else ({ s with ctx := { s.ctx with
      ackDelay := if bitAt vm 0 then byteAt p 0 else s.ctx.ackDelay,
      peerIdle := if bitAt vm 1 then byteAt p 1 else s.ctx.peerIdle,
      fastRetx := if bitAt vm 2 then byteAt p 2 == 1 else s.ctx.fastRetx } }, only stOk)

/-! ### Endpoints (R404) -/

/-- An endpoint as the mirror carries it (R522). -/
def epCfgOf (e : Endpoint) : EpCfg :=
  { owner := e.owner, log2 := e.log2, base := e.base, cons := e.cons, arrival := e.arrival, maxUnexp := e.maxUnexp,
    maxEagerKib := e.maxEagerKib, maxPosted := e.maxPosted }

/-- The field ranges, alignments and reserved bytes of ENDPOINT_CREATE (R404). -/
def endpointCreateOk (p : List Byte) : Bool :=
  decide (numAt p 0 2 < 4096) && decide (6 ≤ byteAt p 3) && decide (byteAt p 3 ≤ 16) && field (numAt p 4 2) 13 2 == 0 && zeroAt p 6 2
  && decide (1 ≤ numAt p 8 4) && decide (numAt p 8 4 ≤ 131072) && decide (numAt p 12 2 ≤ 16384) && zeroAt p 14 2
  && decide (1 ≤ numAt p 16 4) && decide (numAt p 16 4 ≤ 262144) && zeroAt p 20 4
  && numAt p 24 8 % 4096 == 0 && numAt p 32 8 % 4 == 0

/-- The endpoint that ENDPOINT_CREATE makes (R404). -/
def newEndpoint (p : List Byte) : Endpoint :=
  { owner := byteAt p 2, log2 := byteAt p 3, base := numAt p 24 8, cons := numAt p 32 8, arrival := cntField (numAt p 4 2),
    maxUnexp := numAt p 8 4, maxEagerKib := numAt p 12 2, maxPosted := numAt p 16 4 }

/-- The receive ring's records and its consumer word are initialised; the flag says that R201 declared the writes visible
(R226, R404). -/
def initReceiveRing (s : State) (e : Endpoint) : State × Bool :=
  let s := hostWrite s e.owner e.base (freshRing e.log2 64 (2 ^ e.log2))
  let s := hostWrite s e.owner e.cons (leBytes 4 0)
  let (s, ok) := hostRead s e.owner e.cons 4
  (s, ok.isSome)

/-- ENDPOINT_CREATE (R226, R404). -/
def endpointCreate (fn : Nat) (c : Cmd) (s : State) : State × CmdOut :=
  let p := c.params
  let ep := numAt p 0 2
  let e := newEndpoint p
  if !endpointCreateOk p then (s, only stMalformed)
  else if !tenantOk s fn e.owner || !fieldOwned s e.owner (numAt p 4 2) then (s, only stProtection)
  else if (fmFind s.cat.eps ep).isSome || (onPartner s && (fmFind s.twn.mirror.eps ep).isSome) then (s, only stNoResource)
  else
    let (s, ok) := initReceiveRing s e
    if !ok then (s, only stBusError) else (mirror (setEp s ep e) (.endpoint ep (epCfgOf e)), only stOk)

/-- A matched or stored rendezvous of a destroyed endpoint is refused, if its slot still lives (R404). -/
def refuseRdv (s : State) (ep : Nat) (owner : Nat) (m : Msg) : State :=
  if slotLive s m then pushMaint s (fnPort s owner) (.refuse m.ctx m.rdvId owner ep) else s

/-- An endpoint is destroyed: its receives, messages, deliveries and records go (R404). -/
def destroyEp (s : State) (ep : Nat) (e : Endpoint) : State :=
  let mine := s.cat.deliveries.filter (fun d => d.ep == ep)
  let s := (e.unexp.filter (·.msg.rdv)).foldl (fun s u => refuseRdv s ep e.owner u.msg) s
  let s := (mine.filter (fun d => d.msg.rdv && !d.finSent)).foldl (fun s d => refuseRdv s ep e.owner d.msg) s
  let s := mine.foldl (fun s d =>
    let s := dropItem (dropItem s d.recv.q (.rdvGet d.id)) d.recv.q (.fin d.id)
    { s with xlt := { s.xlt with stalls := s.xlt.stalls.filter (fun x => x.who != .copy d.id) } }) s
  let s := { s with cat := { s.cat with deliveries := s.cat.deliveries.filter (fun d => d.ep != ep) } }
  noteStore (mirror (setEp s ep { e with live := false, since := now s, posted := [], unexp := [], waiting := [] }) (.endpointGone ep))

/-- The endpoint that a command names, or the status of the failing check. -/
def namedEp (s : State) (fn : Nat) (p : List Byte) : (Nat × Endpoint) ⊕ Nat :=
  let ep := numAt p 0 2
  if ep ≥ 4096 || !zeroAt p 2 6 then .inr stMalformed
  else match liveEp s ep with
    | some e => if fn != 0 && e.owner != fn then .inr stProtection else .inl (ep, e)
    | none => .inr stProtection

/-- ENDPOINT_DESTROY. -/
def endpointDestroy (fn : Nat) (c : Cmd) (s : State) : State × CmdOut :=
  match namedEp s fn c.params with
  | .inr st => (s, only st)
  | .inl (ep, e) =>
    let mine := s.cat.deliveries.filter (fun d => d.ep == ep)
    let rdv := (e.unexp.filter (·.msg.rdv)).length + (mine.filter (fun d => d.msg.rdv && !d.finSent)).length
    let dropped := e.waiting.length + (mine.filter (fun d => d.ended && !d.recorded)).length
    (destroyEp s ep e, .done stOk (leBytes 4 e.posted.length ++ leBytes 4 (e.unexp.filter (fun u => !u.msg.rdv)).length
      ++ leBytes 4 rdv ++ leBytes 4 dropped) 0)

/-- ENDPOINT_QUERY: the physical function may ask about any endpoint. -/
def endpointQuery (fn : Nat) (c : Cmd) (s : State) : State × CmdOut :=
  let ep := numAt c.params 0 2
  if ep ≥ 4096 || !zeroAt c.params 2 6 then (s, only stMalformed)
  else match fmFind s.cat.eps ep with
    | none => if fn = 0 then (s, .done stOk (leBytes 32 0) 0) else (s, only stProtection)
    | some e =>
      if fn != 0 && e.owner != fn then (s, only stProtection)
      else (s, .done stOk (leBytes 8 (catEp s ep) ++ leBytes 4 e.pseq.toNat ++ leBytes 4 e.seq.toNat
        ++ leBytes 4 e.cached.toNat ++ leBytes 12 0) 0)

/-- CAT_CONFIG (R263, R400). -/
def catConfig (_ : Nat) (c : Cmd) (s : State) : State × CmdOut :=
  let p := c.params
  let vm := byteAt p 2
  if vm > 1 || !zeroAt p 3 5 || (bitAt vm 0 && numAt p 0 2 > 8192) then (s, only stMalformed)
  else if vm != 0 && isExpert s 0x0E then (s, only stProtection)
  else if vm = 0 then (s, only stOk)
  else ({ s with cat := { s.cat with eagerMax := numAt p 0 2 } }, only stOk)

/-- ENDPOINT_QUARANTINE_END (R404). -/
def endpointFree (s : State) (ep : Nat) : State :=
  match fmFind s.cat.eps ep with
  | some e => if e.live || now s < e.since + 4000000 then s else { s with cat := { s.cat with eps := fmErase s.cat.eps ep } }
  | none => s

/-! ### Scheduler commands (R498, R499) -/

/-- The group that a scheduler command names. -/
def schedGroup (s : State) (fn g : Nat) : Nat ⊕ Nat :=
  if fn = 0 then (if g > 65535 then .inr stMalformed else .inl g) else groupOf s fn g

/-- SCHED_GROUP_QUERY. -/
def schedGroupQuery (fn : Nat) (c : Cmd) (s : State) : State × CmdOut :=
  if !zeroAt c.params 4 4 then (s, only stMalformed)
  else match schedGroup s fn (numAt c.params 0 4) with
    | .inr st => (s, only st)
    | .inl g => (s, .done stOk (leBytes 8 (schGroup s g)) 0)

/-- SCHED_GROUP_QUANTUM (R484). -/
def schedGroupQuantum (fn : Nat) (c : Cmd) (s : State) : State × CmdOut :=
  let p := c.params
  if !zeroAt p 5 3 then (s, only stMalformed)
  else match schedGroup s fn (numAt p 0 4) with
    | .inr st => (s, only st)
    | .inl g =>
      if isExpert s 0x24 then (s, only stProtection)
      else (setGroup s g { groupSched s g with quantum := byteAt p 4 }, only stOk)

/-- One field of a command, if VALID_MASK selects it. -/
def pick {α : Type} (vm bit : Nat) (new old : α) : α := if bitAt vm bit then new else old

/-- A shaper with the settings that SCHED_SHAPER_CONFIG's VALID_MASK selects (R488, R498). -/
def shaperSet (x : Shaper) (p : List Byte) : Shaper :=
  let vm := byteAt p 3
  changeShaper x (pick vm 0 (bitAt (byteAt p 2) 0) x.en) (pick vm 2 (numAt p 4 4) x.rate)
    (pick vm 3 (numAt p 8 2) x.burst) (pick vm 1 (bitAt (byteAt p 2) 1) x.resetFull)

/-- A policer with the settings that SCHED_POLICER_CONFIG's VALID_MASK selects (R490, R498). -/
def policerSet (x : Shaper) (p : List Byte) : Shaper :=
  let vm := byteAt p 3
  changeShaper x (pick vm 0 (bitAt (byteAt p 2) 0) x.en) (pick vm 1 (numAt p 4 4) x.rate) (pick vm 2 (numAt p 8 2) x.burst) true

/-- SCHED_SHAPER_CONFIG (R488). -/
def schedShaperConfig (_ : Nat) (c : Cmd) (s : State) : State × CmdOut :=
  let p := c.params
  let t := byteAt p 0
  let vm := byteAt p 3
  if byteAt p 1 > 1 || byteAt p 2 > 3 || vm > 15 || (bitAt vm 3 && numAt p 8 2 = 0) || !zeroAt p 10 6
  then (s, only stMalformed)
  else if !enabledFn s t || (vm != 0 && isExpert s 0x24) then (s, only stProtection)
  else
    let f := fnSched s t
    let x := shaperSet (if byteAt p 1 = 0 then f.sh0 else f.sh1) p
    (setFnSched s t (if byteAt p 1 = 0 then { f with sh0 := x } else { f with sh1 := x }), .done stOk (leBytes 8 (shaperCfg x true)) 0)

/-- SCHED_POLICER_CONFIG (R490). -/
def schedPolicerConfig (_ : Nat) (c : Cmd) (s : State) : State × CmdOut :=
  let p := c.params
  let t := byteAt p 0
  let vm := byteAt p 3
  if byteAt p 1 != 0 || byteAt p 2 > 1 || vm > 7 || (bitAt vm 2 && numAt p 8 2 = 0) || !zeroAt p 10 6
  then (s, only stMalformed)
  else if !enabledFn s t || (vm != 0 && isExpert s 0x24) then (s, only stProtection)
  else
    let x := policerSet (fnSched s t).pol p
    (setFnSched s t { fnSched s t with pol := x }, .done stOk (leBytes 8 (shaperCfg x false)) 0)

/-- SCHED_FN_QUERY. -/
def schedFnQuery (fn : Nat) (c : Cmd) (s : State) : State × CmdOut :=
  let t := byteAt c.params 0
  if !zeroAt c.params 1 7 then (s, only stMalformed)
  else if !enabledFn s t || (fn != 0 && t != fn) then (s, only stProtection)
  else (s, .done stOk ((schFn s t).flatMap (leBytes 8)) 0)

/-- SCHED_QUEUE_SAMPLE. -/
def schedQueueSample (fn : Nat) (c : Cmd) (s : State) : State × CmdOut :=
  let p := c.params
  if byteAt p 4 > 3 || !zeroAt p 5 3 then (s, only stMalformed)
  else match schedGroup s fn (numAt p 0 4) with
    | .inr st => (s, only st)
    | .inl g =>
      let q := 4 * g + byteAt p 4
      if (queueOf s q).st = .disabled then (s, only stMalformed)
      else
        let x := fmGet s.sch.samples q (0, 0, 0)
        (s, .done stOk (leBytes 4 x.1 ++ leBytes 4 x.2.1 ++ leBytes 8 x.2.2 ++ leBytes 8 0) 0)

/-- SCHED_CONFIG (R494). -/
def schedConfig (_ : Nat) (c : Cmd) (s : State) : State × CmdOut :=
  let p := c.params
  let vm := byteAt p 2
  if vm > 3 || !zeroAt p 3 5 || (bitAt vm 1 && byteAt p 1 > 1) then (s, only stMalformed)
  else if vm != 0 && isExpert s 0x24 then (s, only stProtection)
  else ({ s with sch := { s.sch with
      defaultQuantum := pick vm 0 (byteAt p 0) s.sch.defaultQuantum,
      sampleEn := pick vm 1 (byteAt p 1 == 1) s.sch.sampleEn } }, only stOk)

/-! ### Queue samples (R492, R493) -/

/-- The scheduler has nothing of the job left to grant: it is done, all its packets have been built, or it injects none and
has started. -/
def fullyGranted (s : State) (q : Nat) (j : Job) : Bool :=
  j.over ||
  (j.st == .running && (j.built && !(readyOf s q).any (fun i => match i with | .flush idx _ => idx == j.idx | _ => false)
    || [0x31, 0x40, 0x50, 0x51, 0x52].contains j.opcode))

/-- The head job of a queue: the index of its first entry, and since when it waits. -/
def headJob (s : State) (q : Nat) : Option (Idx × Nat) :=
  let x := queueOf s q
  let skipped := fun (j : Job) =>
    (j.st == .armed && !s.ctx.armed.any (fun a => a.q == q && a.idx == j.idx && a.released)) || isStalled s (.job q j.idx)
  match x.jobs.find? (fun j => !fullyGranted s q j && !skipped j) with
  | some j => some (j.idx, j.tPost)
  | none =>
    if x.cons = x.last then none
    else some (x.cons, ((x.posts.find? (fun p => before x.cons p.1)).map (·.2)).getD (stamp s))

/-- The sample of one queue. -/
def sampleQueue (s : State) (q : Nat) : State :=
  let x := queueOf s q
  let (depth, delay) := match headJob s q with
    | some (i, t) => ((x.last - i).toNat, (stamp s - t) / 4)
    | none => (0, 0)
  let s := { s with sch := { s.sch with samples := fmSet s.sch.samples q (depth, min delay (2 ^ 32 - 1), stamp s) } }
  let s := sampleDials s 1 (fun arg => field arg 0 18 == q) depth
  sampleDials s 2 (fun arg => field arg 0 18 == q) delay

/-- QUEUE_SAMPLE: at a tick whose number is a multiple of 1,000 (R493). -/
def queueSample (s : State) : State :=
  if !s.sch.sampleEn || tickNow s % 1000 != 0 then s
  else (s.rings.queues.filter (fun kv => kv.2.st == .active || kv.2.st == .blocked || kv.2.st == .stopped)).foldl
    (fun s kv => sampleQueue s kv.1) s

end Sys2Proof.Machine
end

