-- ==== Sys2Proof/Machine/CarCmds.lean ====
section
/-! DEFINITION. Tree epochs (R434, R435), the creation and the destruction of groups (R437, R439), the Carillon's registers
(R441 to R443) and its commands 0x0500 to 0x0504 (R444 to R446). -/

namespace Sys2Proof.Machine

/-! ### Resources and registers (R411, R426, R441 to R443) -/

def treeEdges (t : Option CarTree) : Nat := match t with | some t => t.children.length + b2n t.parent.isSome | none => 0

/-- Edge buffers that a group reserves here: those of each resident and staged tree (R411). -/
def groupSlots (g : CarGroup) : Nat :=
  (treeEdges g.tree0 + treeEdges g.tree1 + (match g.change with | some c => treeEdges c.tree | none => 0)) * (if g.slots2 then 2 else 1)

def edgeBuffers (s : State) : Nat := s.car.groups.foldl (fun n kv => n + groupSlots kv.2) 0

def accumulators (s : State) : Nat :=
  s.car.groups.foldl (fun n kv => if kv.2.st == .quarantine then n else n + 2 * kv.2.exactMax) 0

def carCfg (s : State) : Nat := place [(0, s.car.createTimeout), (8, b2n s.car.lostNotify)]

def carStatus (s : State) : Nat :=
  place [(0, (s.car.groups.filter (fun kv => kv.2.st != .quarantine)).length), (10, edgeBuffers s), (22, accumulators s)]

def carStCode : CarSt → Nat
  | .staging => 1
  | .active => 2
  | .quarantine => 3

/-- The next OPNUM to start at this vertex: that of a live member's next job, else the one after the highest that has come (R443). -/
def nextOpnum (g : CarGroup) : Nat := if liveMember g then g.nextOp else max g.nextOp g.highOp

/-- CAR_GROUP of a handle: its two words (R443). -/
def carWords (s : State) (h : Nat) : List Nat :=
  match fmFind s.car.groups h with
  | none => [0, 0]
  | some g =>
    [place [(0, carStCode g.st), (2, b2n g.member), (3, b2n g.abort_), (4, b2n g.oldLive), (5, b2n (g.lost != [])),
       (6, b2n g.slots2), (7, g.bit), (8, if g.member then g.tenant else 0), (32, g.id)],
     place [(0, if g.member then g.rank else 0), (32, nextOpnum g % 2 ^ 32)]]

/-- CREATE_TIMEOUT in ticks (R441). -/
def createTicks (s : State) : Nat := min (max s.car.createTimeout 1) 200 * 1000000

/-! ### Installs and reports at a vertex (R434, R437) -/

def selfNumber (s : State) : Nat := linearOf s s.mvt.coord

/-- The lowest free handle (R406). -/
def freeHandle (s : State) : Option Nat := firstFrom (fun h => (fmFind s.car.groups h).isNone) 512 0

/-- The GROUP_CREATE that waits here for a group, with the function that issued it. -/
def createOf (s : State) (id : Nat) : Option (Nat × CarCreate) := s.car.creates.find? (fun kv => kv.2.join.group == id)

/-- This device's answer to an install: it stages the tree and is ready, it lacks resources, or it does not answer. -/
inductive Staged where
  | ready (s : State) (highest : Nat)
  | refused
  | silent

/-- A vertex stages a tree in the idle bank of a group that is resident here (R434 step 2). -/
def stageTree (s : State) (h : Nat) (m : TreeInstall) : Staged :=
  let g := carGroup s h
  let t := installTree s m
  let now_ := match carTree g g.bit with | some t => t.epoch | none => 0
  let due := match g.change with | some c => c.t.isSome | none => false
  if m.epoch ≤ now_ || g.oldLive || due then .silent
  else if edgeBuffers (setCar s h { g with change := none }) + treeEdges t * (if g.slots2 then 2 else 1) > 2048 then .refused
  else
    .ready (setCar s h { g with
      change := some { epoch := m.epoch, tree := t, root := m.root, map := m.map },
      lost := m.lost.foldl withMember g.lost }) (max g.highOp g.nextOp)

/-- A vertex that does not hold the group takes a tree slot: a member whose GROUP_CREATE waits, or a relay (R406, R437). -/
def stageGroup (s : State) (m : TreeInstall) : Staged :=
  let t := installTree s m
  let listed := m.epoch == 1 && m.members.any (fun x => x.1 == s.mvt.coord)
  let mine := if m.epoch = 1 then createOf s m.group else none
  let g : CarGroup := {
    st := .staging, id := m.group, abort_ := m.abort_, slots2 := m.slots2, exactMax := m.exactMax, size := m.size, list := m.members,
    lost := m.lost, root := m.root, map := m.map, bit := 1 - m.epoch % 2,
    change := some { epoch := m.epoch, tree := t, root := m.root, map := m.map } }
  let g := match mine with
    | some (fn, c) => { g with member := true, tenant := fn, rank := c.join.rank, queue := c.queue }
    | none => g
  match t, freeHandle s with
  | none, _ => .silent
  | some _, none => .refused
  | some _, some h =>
    if listed && mine.isNone then .silent
    else
      let s' := setCar s h g
      if edgeBuffers s' > 2048 || accumulators s' > 13824 then .refused else .ready s' 0

/-- Put `f` in place of the group's staged change, at the device that runs it. -/
def clearChange (s : State) (id : Nat) (status : Nat) : State :=
  let s := wakeCmds s (fun _ w => w == .groupEpoch id) status []
  let s := { s with car := { s.car with creates := s.car.creates.filter (fun kv => kv.2.join.group != id) } }
  match carHandle s id with
  | none => s
  | some h =>
    if (carGroup s h).st == .staging then { s with car := { s.car with groups := fmErase s.car.groups h } }
    else modCar s h (fun g => { g with change := none })

/-- N and T of a tree epoch reach a vertex (R434 step 4). -/
def treeTimes (s : State) (id epoch n t : Nat) : State :=
  match carHandle s id with
  | none => s
  | some h => modCar s h (fun g => match g.change with
      | some c => if c.epoch = epoch then { g with change := some { c with n := n, t := some t } } else g
      | none => g)

/-- N of a tree epoch: 0 for the first, else the highest operation that any vertex reported (R434). -/
def firstOp (epoch : Nat) (l : List TreeReport) : Nat := if epoch = 1 then 0 else l.foldl (fun k x => max k x.highest) 0

/-- The root Curator collects a report; with every vertex's it sets N and T, at least 50 µs on; T itself is the root's free
choice (R434 step 4, R437). -/
def treeReport (s : State) (r : TreeReport) : State :=
  match fmFind s.car.masters r.group with
  | none => s
  | some m =>
    let done := { s with car := { s.car with
      masters := fmErase s.car.masters r.group, joins := s.car.joins.filter (fun j => j.group != r.group) } }
    if r.epoch != m.install.epoch || m.flooded then s
    else if r.refused then
      clearChange (sendCur done none (.flood (.treeRefused r.group r.epoch))) r.group stNoResource
    else
      let m := { m with reports := m.reports.filter (fun x => x.coord != r.coord) ++ [r] }
      let set := fun (m : TreeMaster) => { s with car := { s.car with masters := fmSet s.car.masters r.group m } }
      if !m.vertices.all (fun v => m.reports.any (fun x => linearOf s x.coord == v)) then set m
      else
        let n := firstOp r.epoch m.reports
        let (d, s') := draw (set { m with flooded := true })
        let t := stamp s + 200000 + d
        treeTimes (sendCur s' none (.flood (.tree r.group r.epoch n t))) r.group r.epoch n t

/-- TREE_INSTALL: the vertex stages the tree and reports ready (R434 steps 2 and 3, R437 step 4). -/
def treeInstall (s : State) (m : TreeInstall) : State :=
  let out := match carHandle s m.group with | some h => stageTree s h m | none => stageGroup s m
  let tell := fun (s : State) (r : TreeReport) =>
    if m.root = s.mvt.coord then treeReport s r else sendCur s (some m.root) (.treeReady r)
  match out with
  | .silent => s
  | .refused => tell s { group := m.group, epoch := m.epoch, coord := s.mvt.coord, refused := true }
  | .ready s k => tell s { group := m.group, epoch := m.epoch, coord := s.mvt.coord, highest := k }

/-! ### The root Curator (R431, R434, R437) -/

/-- Send a tree to its vertices, this device first. -/
def runInstall (s : State) (m : TreeInstall) (old : List Nat) : State :=
  let vs := (old ++ treeVertices s (treePaths s m.root m.members m.map)).eraseDups.filter (fun v => !m.map.devices.contains v)
  let s := { s with car := { s.car with masters := fmSet s.car.masters m.group { install := m, vertices := vs, start := now s } } }
  let s := (vs.filter (fun v => v != selfNumber s)).foldl (fun s v => sendCur s (some (coordOf s v)) (.install m)) s
  treeInstall s m

/-- The ranks whose device is fenced in a map. -/
def fencedRanks (s : State) (list : List (Nat × Nat)) (m : FaultMap) : List Nat :=
  ((list.zipIdx).filter (fun x => m.devices.contains (linearOf s x.1.1))).map (·.2)

/-- A tree epoch change starts, if this device is the group's root under the map; one in progress is followed by another
(R434 steps 1 and 2, R435). It takes over a change without T that another root began. -/
def startTreeChange (s : State) (h : Nat) (map : FaultMap) : State :=
  let g := carGroup s h
  if g.st != .active || groupRoot s g.list map != some s.mvt.coord then s
  else if g.oldLive || (match g.change with | some c => c.t.isSome || c.root == s.mvt.coord | none => false)
  then setCar s h { g with again := true }
  else
    let gone := (fencedRanks s g.list map).filter (fun r => !g.lost.contains r)
    let s := if s.car.lostNotify then gone.foldl (fun s _ => fault s 88 g.id) s else s
    let lost := g.lost ++ gone
    let s := setCar s h { g with lost := lost, again := false, change := none }
    let epoch := (match carTree g g.bit with | some t => t.epoch | none => 0) + 1
    runInstall s {
      group := g.id, size := g.size, abort_ := g.abort_, slots2 := g.slots2, exactMax := g.exactMax, epoch,
      root := s.mvt.coord, members := g.list, lost := lost, map := map } (treeVertices s (treePaths s g.root g.list g.map))

/-- TREE_READY_REPORT: what a vertex tells the group's root Curator (R434; log entry 118). -/
def treeReadyReport (s : State) (r : TreeReport) : State :=
  if r.rebuild then (match carHandle s r.group with | some h => startTreeChange s h (currentBank s).map | none => s)
  else treeReport s r

/-- The plane's fault map has changed (R434 step 1); for a group whose first tree is being installed the change comes next (R435). -/
def carMapChanged (s : State) (old new : FaultMap) : State :=
  s.car.groups.foldl (fun s kv =>
    if !kv.2.member || !mapTouches s kv.2 old new then s
    else match kv.2.st with
      | .active => startTreeChange s kv.1 new
      | .staging => setCar s kv.1 { kv.2 with again := true }
      | .quarantine => s) s

/-- A change that waited starts, once the group has its new tree and no old one (R435). -/
def nextChange (s : State) (h : Nat) : State :=
  let g := carGroup s h
  if g.again && !g.oldLive then startTreeChange (setCar s h { g with again := false }) h (currentBank s).map else s

/-- Joins agree with the root's own GROUP_CREATE (R437). -/
def joinMatches (c : CarCreate) (j : JoinReport) : Bool :=
  let k := c.join
  j.group == k.group && j.size == k.size && j.abort_ == k.abort_ && j.slots2 == k.slots2 && j.exactMax == k.exactMax
  && j.digest == k.digest && c.list[j.rank]? == some (j.coord, j.tenant)

/-- With SIZE matching joins the root computes the tree and installs it as epoch 1 (R437 step 3). -/
def tryCreate (s : State) (id : Nat) : State :=
  match createOf s id with
  | none => s
  | some (_, c) =>
    let map := (currentBank s).map
    if groupRoot s c.list map != some s.mvt.coord || (carHandle s id).isSome || (fmFind s.car.masters id).isSome then s
    else if (s.car.joins.filter (joinMatches c)).length < c.join.size then s
    else runInstall s {
      group := id, size := c.join.size, abort_ := c.join.abort_, slots2 := c.join.slots2, exactMax := c.join.exactMax, epoch := 1,
      root := s.mvt.coord, members := c.list, lost := fencedRanks s c.list map, map := map } []

/-- GROUP_JOIN: a join report reaches the root's Curator (R437 steps 2 and 3). -/
def groupJoin (s : State) (j : JoinReport) : State :=
  let keep := s.car.joins.filter (fun x => !(x.group == j.group && x.rank == j.rank))
  tryCreate { s with car := { s.car with joins := keep ++ [j] } } j.group

/-- The plane's map, with the silent vertices of a change, and those that it had counted fenced, taken as fenced (R434). -/
def silentMap (s : State) (m : TreeMaster) (silent : List Nat) : FaultMap :=
  let map := (currentBank s).map
  { map with devices := (m.install.map.devices ++ silent).foldl withMember map.devices }

/-- A staged tree goes, and with a creation's the group; waiting commands go on waiting, for CREATE_TIMEOUT of their own issue (R434, R437). -/
def dropTree (s : State) (id epoch : Nat) : State :=
  match carHandle s id with
  | none => s
  | some h =>
    let g := carGroup s h
    if !(match g.change with | some c => c.epoch == epoch && c.t.isNone | none => false) then s
    else if g.st == .staging then { s with car := { s.car with groups := fmErase s.car.groups h } }
    else setCar s h { g with change := none }

/-- TREE_READY_TIMEOUT: without every report within CREATE_TIMEOUT the change is dropped, and a new one treats the silent
vertices as fenced; a creation is dropped (R434, R437). -/
def treeReadyTimeout (s : State) (id : Nat) : State :=
  match fmFind s.car.masters id with
  | none => s
  | some m =>
    if m.flooded || now s < m.start + createTicks s then s
    else
      let silent := m.vertices.filter (fun v => !m.reports.any (fun x => linearOf s x.coord == v))
      let s := sendCur { s with car := { s.car with masters := fmErase s.car.masters id } } none (.flood (.treeDropped id m.install.epoch))
      match carHandle s id with
      | none => { s with car := { s.car with joins := s.car.joins.filter (fun j => j.group != id) } }
      | some h =>
        if m.install.epoch = 1 then
          { s with car := { s.car with groups := fmErase s.car.groups h, joins := s.car.joins.filter (fun j => j.group != id) } }
        else
          startTreeChange (modCar s h (fun g => { g with change := none })) h (silentMap s m silent)

/-- GROUP_CREATE_TIMEOUT: the command of a function whose group has not reached epoch 1 within CREATE_TIMEOUT of its issue
ends with TIMEOUT and leaves nothing installed (R437). -/
def createTimeout (s : State) (fn : Nat) : State :=
  match fmFind s.car.creates fn, (admOf s fn).cmd with
  | some c, some cmd =>
    let id := c.join.group
    if cmd.wait != .groupEpoch id || now s < cmd.tTaken + createTicks s then s
    else
      let s := wakeCmds s (fun f w => f == fn && w == .groupEpoch id) stTimeout []
      let s := if (fmFind s.car.masters id).isSome then sendCur s none (.flood (.treeDropped id 1)) else s
      let s := { s with car := { s.car with
        creates := fmErase s.car.creates fn, joins := s.car.joins.filter (fun j => j.group != id),
        masters := fmErase s.car.masters id } }
      match carHandle s id with
      | none => s
      | some h => if (carGroup s h).st == .staging then { s with car := { s.car with groups := fmErase s.car.groups h } } else s
  | _, _ => s

/-! ### The switch and the retirement (R434, R435) -/

/-- An operation of the old tree ends at once: its job fails with no result (R435). -/
def cutOp (s : State) (h : Nat) (o : CarOp) : State :=
  let g := carGroup s h
  let s := match o.job with
    | some idx =>
      if o.jobOver then s
      else
        let (d, s) := draw s
        endJob s g.queue idx stMemberLost (d % 2 ^ 18) 1
    | none => s
  if o.job.isNone && liveMember g then modCar s h (fun g => { g with ops := g.ops.filter (fun x => x.opnum != o.opnum) })
  else endOp s h o.opnum

/-- The old tree is cut by the change's fault map: one of its links to the parent or its paths is closed (R435). -/
def treeCut (s : State) (g : CarGroup) (map : FaultMap) : Bool :=
  match carTree g g.bit with
  | some x => pathCut s map x.path || (match x.parent with | some p => edgeFenced s p | none => false)
  | none => false

/-- The group on its new tree: operations from N run there, the old tree stays until they are over, and those below N end where the
old tree is cut (R434, R435). A group that was staging begins at N. -/
def switchedGroup (s : State) (g : CarGroup) (c : TreeChange) (cut : Bool) : CarGroup :=
  let bit := c.epoch % 2
  let fresh := g.st == .staging
  { g with
    st := .active, bit := bit, root := c.root, map := c.map, n := c.n, change := none,
    tree0 := if bit = 0 then c.tree else g.tree0, tree1 := if bit = 1 then c.tree else g.tree1,
    oldLive := (carTree g g.bit).isSome, switchedAt := now s, cutTo := if cut then c.n else g.cutTo,
    nextOp := if fresh then c.n else g.nextOp, highOp := if fresh then c.n else g.highOp, floor := if fresh then c.n else g.floor }

/-- The waiting commands of a group end OK at its switch, and what its creation and change held here goes (R434, R437). -/
def endChange (s : State) (h : Nat) (id : Nat) (first : Bool) : State :=
  let s := wakeCmds s (fun _ w => w == .groupEpoch id) stOk (if first then leBytes 8 h else [])
  { s with car := { s.car with
    creates := s.car.creates.filter (fun kv => kv.2.join.group != id), joins := s.car.joins.filter (fun j => j.group != id),
    masters := fmErase s.car.masters id } }

/-- T has come: the group runs on its new tree (R434, R435, R437). -/
def switchTree (s : State) (h : Nat) (g : CarGroup) (c : TreeChange) : State :=
  let cut := treeCut s g c.map
  let s := bump (setCar s h (switchedGroup s g c cut)) 340
  let s := if cut then (g.ops.filter (fun o => o.opnum < c.n)).foldl (fun s o => cutOp s h o) s else s
  let s := endChange s h g.id (c.epoch == 1)
  nextChange (if g.st == .staging && g.member then mirror s (.carillon h g.id g.rank g.queue) else s) h

/-- TREE_EPOCH_SWITCH: at T the staged tree is current. Operations below N whose old path to the old root is cut end; the
others finish on the old tree (R434 step 5, R435). -/
def treeSwitch (s : State) (h : Nat) : State :=
  let g := carGroup s h
  match g.change with
  | none => s
  | some c =>
    match c.t with
    | none => s
    | some t => if stamp s < t then s else switchTree s h g c

/-- Every operation below N has ended here, as far as this vertex can know. -/
def oldOver (g : CarGroup) : Bool :=
  g.ops.all (fun o => o.bank == g.bit) && (!liveMember g || decide (g.nextOp ≥ g.n) || decide (g.cutTo ≥ g.n))

/-- TREE_EPOCH_RETIRE: the old bank is retired once its operations have ended, T + 2 ms + 40 ns at the soonest; a relay that
the new tree does not use gives up its slot, and a change that waited starts (R435). -/
def treeRetire (s : State) (h : Nat) : State :=
  let g := carGroup s h
  if !g.oldLive || now s < g.switchedAt + 2000040 || !oldOver g then s
  else
    let old := 1 - g.bit
    let g := { g with
      oldLive := false, tree0 := if old = 0 then none else g.tree0, tree1 := if old = 1 then none else g.tree1,
      sends := g.sends.filter (fun x => x.bank != old), used := g.used.filter (fun kv => kv.1 / 16 != old),
      holds := g.holds.filter (fun kv => kv.2.bank != old) }
    if (carTree g g.bit).isNone && !g.member then { s with car := { s.car with groups := fmErase s.car.groups h } }
    else if g.again then nextChange (setCar s h g) h
    else setCar s h g

/-! ### Destruction (R439) -/

/-- Member jobs of the group that this device holds and that are not done. -/
def groupJobs (s : State) (h : Nat) : List Idx :=
  let g := carGroup s h
  if !g.member then []
  else ((queueOf s g.queue).jobs.filter (fun j => j.opcode == 0x40 && !j.malformed && j.context == h && !j.over)).map (·.idx)

/-- The group is destroyed at this vertex (R439). -/
def destroyHere (s : State) (h : Nat) : State :=
  let g := carGroup s h
  let s := (groupJobs s h).foldl (fun s idx =>
    let (d, s) := draw s
    endJob s g.queue idx stMemberLost (d % 2 ^ 18) (2 ^ 64 - 1)) s
  let s := if g.member && g.st == .active then mirror s (.carillonGone h) else s
  { s with car := { s.car with
    groups := fmSet s.car.groups h { st := .quarantine, since := now s, id := g.id },
    joins := s.car.joins.filter (fun j => j.group != g.id), masters := fmErase s.car.masters g.id } }

/-- The destruction spreads from the root to every vertex (R439, R446). -/
def spreadDestroy (s : State) (g : CarGroup) : State :=
  if g.root = s.mvt.coord then sendCur s none (.destroy g.id) else s

/-- DESTROY_FLOOD (R446). -/
def destroyFlood (s : State) (id : Nat) : State :=
  match carHandle s id with
  | none => s
  | some h => spreadDestroy (destroyHere s h) (carGroup s h)

/-- HANDLE_QUARANTINE_END (R439). -/
def handleFree (s : State) (h : Nat) : State :=
  match fmFind s.car.groups h with
  | none => s
  | some g =>
    if g.st != .quarantine || now s < g.since + 4000000 then s
    else { s with car := { s.car with groups := fmErase s.car.groups h } }

/-! ### Commands 0x0500 to 0x0504 (R444 to R446) -/

def groupCreateOk (p : List Byte) : Bool :=
  numAt p 0 4 != 0 && decide (1 ≤ numAt p 8 4) && decide (numAt p 8 4 ≤ 131072) && decide (byteAt p 12 < 4) && byteAt p 13 == 0
  && decide (numAt p 14 2 ≤ 512) && decide (byteAt p 20 ≤ 3) && zeroAt p 21 3 && zeroAt p 28 4 && numAt p 32 8 % 8 == 0
  && decide (numAt p 4 4 < numAt p 8 4)

/-- The entries of a member list (R408). -/
def listEntries : Nat → List Byte → List (Nat × Nat)
  | 0, _ => []
  | n + 1, l => (leNat (l.take 3), byteAt l 3) :: listEntries n (l.drop 8)

def listRsv : Nat → List Byte → Bool
  | 0, _ => true
  | n + 1, l => zeroAt l 4 4 && listRsv n (l.drop 8)

/-- A member list is valid (R408). -/
def listOk (s : State) (size : Nat) (l : List Byte) : Bool :=
  let es := listEntries size l
  listRsv size l && es.all (fun e => validCoord s e.1) && (es.map (·.1)).eraseDups.length == size

/-- The join report of a GROUP_CREATE (R437). -/
def joinOf (s : State) (fn : Nat) (p : List Byte) : JoinReport :=
  { group := numAt p 0 4, rank := numAt p 4 4, coord := s.mvt.coord, tenant := fn, size := numAt p 8 4, abort_ := bitAt (byteAt p 12) 0,
    slots2 := bitAt (byteAt p 12) 1, exactMax := numAt p 14 2, digest := numAt p 24 4 }

/-- The member list that the command read is the one that it names, and this device is the member of its rank (R408, R437). -/
def memberListOk (s : State) (fn : Nat) (p l : List Byte) : Bool :=
  listOk s (numAt p 8 4) l && crc32c l == numAt p 24 4 && (listEntries (numAt p 8 4) l)[numAt p 4 4]? == some (s.mvt.coord, fn)

/-- The creation is noted, and its join report goes to the root's Curator, which may be this one (R437 steps 1 and 2). -/
def beginJoin (s : State) (fn q : Nat) (j : JoinReport) (list : List (Nat × Nat)) : State :=
  let s := { s with car := { s.car with creates := fmSet s.car.creates fn { join := j, queue := q, list := list } } }
  match groupRoot s list (currentBank s).map with
  | some r => if r = s.mvt.coord then groupJoin s j else sendCur s (some r) (.join j)
  | none => s

/-- GROUP_CREATE: checks, and the join report to the root's Curator; it completes at T of epoch 1 (R437, R446). -/
def groupCreate (fn : Nat) (c : Cmd) (s : State) : State × CmdOut :=
  let p := c.params
  if !groupCreateOk p then (s, only stMalformed)
  else match groupOf s fn (numAt p 16 4) with
    | .inr st => (s, only st)
    | .inl g =>
      let q := 4 * g + byteAt p 20
      if (queueOf s q).st != .active || (queueOf s q).fn != fn then (s, only stProtection)
      else
        match hostRead s fn (numAt p 32 8) (8 * numAt p 8 4) with
        | (s, none) => (s, only stBusError)
        | (s, some l) =>
          if !memberListOk s fn p l then (s, only stMalformed)
          else
            let s := beginJoin s fn q (joinOf s fn p) (listEntries (numAt p 8 4) l)
            (s, if (fmFind s.car.creates fn).isSome then .wait (.groupEpoch (numAt p 0 4)) else only stNoResource)

/-- The group that a command names: its handle, or the status that refuses it (R444). -/
def namedGroup (s : State) (fn : Nat) (p : List Byte) : Nat ⊕ Nat :=
  let h := numAt p 0 2
  if h ≥ 512 || !zeroAt p 2 6 then .inr stMalformed
  else match fmFind s.car.groups h with
    | none => if fn = 0 then .inl h else .inr stProtection
    | some g => if fn = 0 || (g.member && g.tenant == fn) then .inl h else .inr stProtection

/-- GROUP_DESTROY (R439, R446). -/
def groupDestroy (fn : Nat) (c : Cmd) (s : State) : State × CmdOut :=
  match namedGroup s fn c.params with
  | .inr st => (s, only st)
  | .inl h =>
    let g := carGroup s h
    if (fmFind s.car.groups h).isNone || g.st != .active then (s, only stProtection)
    else
      (sendCur (destroyHere s h) (if g.root = s.mvt.coord then none else some g.root) (.destroy g.id), only stOk)

/-- The 64 bytes of GROUP_QUERY (R445). -/
def groupReply (s : State) (h : Nat) : List Byte :=
  let g := carGroup s h
  let at_ := fun (f : CarTree → Nat) => match carTree g g.bit with | some t => f t | none => 0
  (carWords s h).flatMap (leBytes 8) ++ leBytes 4 g.size ++ leBytes 4 (at_ (·.scanPos)) ++ leBytes 4 (at_ (·.epoch))
    ++ leBytes 1 (at_ (·.depth)) ++ leBytes 1 (at_ (fun t => t.parent.getD 0xFF))
    ++ leBytes 2 (at_ (fun t => t.children.foldl (fun n c => n + 2 ^ c.1) 0)) ++ leBytes 4 g.lost.length ++ leBytes 4 (g.n % 2 ^ 32)
    ++ leBytes 24 0

/-- GROUP_QUERY (R445). -/
def groupQuery (fn : Nat) (c : Cmd) (s : State) : State × CmdOut :=
  match namedGroup s fn c.params with
  | .inr st => (s, only st)
  | .inl h =>
    (s, .done stOk (groupReply s h) 0)

/-- The root starts a change of a group's tree; another member asks the root's Curator for it (R434, R446). -/
def rebuildGroup (s : State) (h : Nat) : State :=
  let g := carGroup s h
  if groupRoot s g.list (currentBank s).map = some s.mvt.coord then startTreeChange s h (currentBank s).map
  else sendCur s (some g.root) (.rebuild g.id)

/-- GROUP_REBUILD (R434, R446). -/
def groupRebuild (fn : Nat) (c : Cmd) (s : State) : State × CmdOut :=
  match namedGroup s fn c.params with
  | .inr st => (s, only st)
  | .inl h =>
    let g := carGroup s h
    if (fmFind s.car.groups h).isNone || g.st != .active then (s, only stProtection)
    else if g.change.isSome || g.oldLive then (s, only stNoResource)
    else
      let u := rebuildGroup s h
      (u, if (carGroup u h).change.isNone && groupRoot s g.list (currentBank s).map = some s.mvt.coord then only stNoResource
          else .wait (.groupEpoch g.id))

/-- CAR_CONFIG (R441, R444). -/
def carConfig (_ : Nat) (c : Cmd) (s : State) : State × CmdOut :=
  let p := c.params
  let vm := byteAt p 2
  if vm > 3 || !zeroAt p 3 5 || (bitAt vm 1 && byteAt p 1 > 1) then (s, only stMalformed)
  else if vm != 0 && isExpert s 0x10 then (s, only stProtection)
  else ({ s with car := { s.car with
    createTimeout := pick vm 0 (byteAt p 0) s.car.createTimeout,
    lostNotify := pick vm 1 (byteAt p 1 == 1) s.car.lostNotify } }, only stOk)

end Sys2Proof.Machine
end

