-- ==== Sys2Proof/Machine/Mover.lean ====
section
/-! DEFINITION. The Mover: channels (R447 to R449), programs and their instructions (R452 to R466), descriptor chains
(R467 to R471), its registers (R473 to R476) and its commands 0x0D00 to 0x0D04 (R477, R478). -/

namespace Sys2Proof.Machine

/-! ### Channels and registers (R473 to R476) -/

def chanOf (s : State) (ch : Nat) : Channel := fmGet s.mov.chans ch {}

def setChan (s : State) (ch : Nat) (x : Channel) : State := { s with mov := { s.mov with chans := fmSet s.mov.chans ch x } }

def modChan (s : State) (ch : Nat) (f : Channel → Channel) : State := setChan s ch (f (chanOf s ch))

def movCfg (s : State) : Nat := s.mov.rrBeats

def movStatus (s : State) : Nat :=
  place [(0, (s.mov.chans.filter (fun kv => kv.2.st != .free)).length),
    (6, (s.mov.chans.filter (fun kv => kv.2.job.isSome)).length),
    (12, (s.mov.chans.filter (fun kv => kv.2.st == .waiting)).length), (18, s.mov.current), (23, b2n s.mov.busy)]

def chCode : ChSt → Nat
  | .free => 0
  | .idle => 1
  | .running => 2
  | .waiting => 3
  | .stalled => 4

/-- Bytes of a move whose reads are not issued: a channel issues its reads up to 224 KiB ahead of its oldest unwritten beat (R450, R476). -/
def unread (m : MoveOp) : Nat := m.len - (m.done + 229376)

/-- MOV_CH_STATE, MOV_CH_POS, MOV_CH_COUNT. -/
def movCh (s : State) (ch : Nat) : List Nat :=
  let x := chanOf s ch
  [place [(0, chCode x.st), (3, x.prio), (5, b2n (x.chain && x.job.isSome)), (6, b2n x.event), (7, b2n x.append), (8, x.owner),
     (16, x.queue)],
   place [(0, x.pc % 4096), (16, x.l0.i), (40, x.l1.i)],
   place [(0, (match x.move with | some m => unread m | none => 0)), (32, x.descs % 2 ^ 32)]]

/-! ### Jobs of a channel (R447, R448, R464, R465, R471) -/

/-- The channel lets go of its job. -/
def idleChan (s : State) (ch : Nat) : State :=
  modChan s ch (fun x =>
    { st := .idle, owner := x.owner, queue := x.queue, prio := x.prio, event := x.event, pc := x.pc, descs := x.descs })

/-- The writes of the job are declared visible by one read of length zero; the flag says that it was good (R201, R202, R287). -/
def movVisible (s : State) (ch : Nat) : State × Bool :=
  let x := chanOf s ch
  match x.lastWrite with
  | none => (s, true)
  | some a =>
    let (s, r) := hostRead s x.owner a 0
    (s, r.isSome)

/-- The program or chain fails: its issued writes become visible, the job fails, and the channel is IDLE (R465). -/
def movFail (s : State) (ch status d1 : Nat) : State :=
  let x := chanOf s ch
  let s := (movVisible s ch).1
  let s := { s with xlt := { s.xlt with stalls := s.xlt.stalls.filter (fun y => y.who != .channel ch) } }
  match x.job with
  | none => s
  | some idx => idleChan (endJob (bump s 350) x.queue idx status (if x.chain then x.descs else x.pc) d1) ch

/-- The program has executed END, or the chain has ended: the job is done once its writes are visible (R451, R464, R469). -/
def movDone (s : State) (ch : Nat) : State :=
  let x := chanOf s ch
  match movVisible s ch with
  | (s, false) => movFail s ch stBusError 0
  | (s, true) =>
    match x.job with
    | none => s
    | some idx => idleChan (completeJob s x.queue idx) ch

/-- A page is not present: the channel stalls, or the job fails where there is no page-fault ring (R453). -/
def movStall (s : State) (ch key access level va d1 : Nat) : State :=
  let x := chanOf s ch
  match localFault s (.channel ch) x.owner x.queue key access level va with
  | (s, true) => modChan s ch (fun x => { x with st := .stalled })
  | (s, false) => movFail s ch stTranslation d1

/-- An access of the channel's job (R453). -/
def movAccess (s : State) (ch key off len need : Nat) : Access :=
  let x := chanOf s ch
  { key, off, len, need, sup := (queueOf s x.queue).supervisor, fn := x.owner }

/-- The first byte that the move under way has not written, for DETAIL1. -/
def moveDone (s : State) (ch : Nat) : Nat := match (chanOf s ch).move with | some m => m.done | none => 0

/-- Read bytes with a right; the failure or stall is the channel's. -/
def movRead (s : State) (ch key off len need : Nat) : State × Option (List Byte) :=
  match translate s (movAccess s ch key off len need) with
  | (s, .fails st) => (movFail s ch st (moveDone s ch), none)
  | (s, .absent level va) => (movStall s ch key (if need = 4 then 2 else 0) level va (moveDone s ch), none)
  | (s, .ok ps _) =>
    match readPieces s (chanOf s ch).owner ps with
    | (s, some l) => (s, some l)
    | (s, none) => (movFail s ch stBusError (moveDone s ch), none)

/-- A channel that a function holds. -/
def holdsChan (s : State) (fn ch : Nat) : Bool := decide (ch < 32) && (chanOf s ch).st != .free && (chanOf s ch).owner == fn

/-- A channel that begins a job: at the program's first instruction or the chain's first descriptor, its EVENT flag kept (R452, R467). -/
def runningChannel (x : Channel) (idx : Idx) (chain : Bool) (desc : Nat) : Channel :=
  { st := .running, owner := x.owner, queue := x.queue, prio := x.prio, event := x.event, job := some idx, chain := chain, desc := desc }

/-- A Mover job starts on its channel; it waits for every earlier job of the channel (R447, R448, R452, R467). -/
def startMover (chain : Bool) (s : State) (q : Nat) (idx : Idx) : State :=
  match jobOf s q idx with
  | none => s
  | some j =>
    let ch := j.context
    let fn := (queueOf s q).fn
    if !holdsChan s fn ch || (chanOf s ch).queue != q then endJob (beginJob s q idx) q idx stProtection 0 0
    else if (chanOf s ch).job.isSome || (earlierJobs s q idx).any (fun k =>
      (k.opcode == 0x50 || k.opcode == 0x51) && !k.malformed && k.context == ch && !k.over) then s
    else
      let s := beginJob s q idx
      if !fieldOwned s fn (jobCounter j) then endJob s q idx stProtection 0 0
      else
        setChan (bump s (if chain then 352 else 351)) ch (runningChannel (chanOf s ch) idx chain (opnd j 160 48))

/-- An append is delivered (R469, R471). -/
def appendTo (s : State) (ch : Nat) : State :=
  let x := chanOf s ch
  if x.job.isSome && x.chain then setChan s ch { x with append := true } else bump s 349

/-- MOVER_APPEND starts (R447, R471). -/
def startAppend (s : State) (q : Nat) (idx : Idx) : State :=
  match jobOf s q idx with
  | none => s
  | some j =>
    let s := beginJob s q idx
    if holdsChan s (queueOf s q).fn j.context then doneAtOnce (appendTo s j.context) q idx
    else endJob s q idx stProtection 0 0

/-- The job of a channel is aborted: the channel stops and waits for nothing (R472). -/
def abortChan (s : State) (ch : Nat) : State :=
  idleChan { s with xlt := { s.xlt with stalls := s.xlt.stalls.filter (fun y => y.who != .channel ch) } } ch

/-! ### Instructions (R454, R455) -/

/-- The channel's job. -/
def chanJob (s : State) (ch : Nat) : Option Job :=
  let x := chanOf s ch
  match x.job with
  | some idx => jobOf s x.queue idx
  | none => none

/-- The channel is free to take its next instruction or descriptor. -/
def chanReady (s : State) (ch : Nat) : Bool :=
  let x := chanOf s ch
  x.st == .running && x.move.isNone && !x.gated && x.job.isSome && serves s x.owner

/-- The program moves on. -/
def nextPc (s : State) (ch : Nat) : State := modChan s ch (fun x => { x with pc := x.pc + 1 })

/-- Key and base of a slot of MOVER_START (R452). -/
def slotKey (j : Job) (k : Nat) : Nat × Nat :=
  let e := ((j.entries.drop 1).headD 0).toNat
  (field e (128 + 80 * k) 32, field e (160 + 80 * k) 48)

/-- The offset of a MOVE operand (R456): the loop indices move it by their strides. -/
def moveOffset (x : Channel) (base off adv : Nat) (src : Bool) : Int :=
  let step := fun (l : LoopLevel) (bit : Nat) => if bitAt adv bit then (l.i : Int) * (if src then l.ss else l.ds) else 0
  (base : Int) + off + step x.l0 (if src then 0 else 1) + step x.l1 (if src then 2 else 3)

/-- A move of `n` bytes at an offset lies in 0 to 2^48 - 1 (R456). -/
def moveFits (o : Int) (n : Nat) : Bool := decide (0 ≤ o) && decide (o + (n - 1 : Nat) < (2 : Int) ^ 48)

/-- The program reaches its `opcode` instruction `w` of 16 bytes: it is checked when it is executed (R454). -/
def instrOk (pc w : Nat) : Bool :=
  match field w 0 8 with
  | 0x01 => true
  | 0x02 => true
  | 0x03 => true
  | 0x04 => true
  | 0x10 => field w 9 3 == 0 && decide (field w 12 12 < pc) && field w 24 24 != 0
  | 0x11 =>
    let kind := field w 8 2
    field w 10 22 == 0 && (kind == 0 || kind == 3 || field w 32 32 == 0) &&
    (if kind = 0 then field w 112 16 == 0 && cntOk (field w 64 16) && bitAt w 79 else kind != 3 || field w 64 64 == 0)
  | 0x12 =>
    field w 9 7 == 0 && field w 37 27 == 0 && field w 96 32 == 0 &&
    (if bitAt w 8 then field w 16 16 == 0 && field w 64 32 == 0 else field w 32 5 == 0 && cntOk (field w 16 16))
  | 0x13 => w == 0x13
  | 0x1F => w == 0x1F
  | _ => false

/-- The channel executes its next instruction, if it is one of `ops`; an instruction that fails its check fails the program
under any of the instructions' names (R454, R455). -/
def execute (s : State) (ch : Nat) (ops : List Nat) (f : State → Nat → State) : State :=
  let x := chanOf s ch
  if !chanReady s ch || x.chain then s
  else match chanJob s ch with
    | none => s
    | some j =>
      if x.pc > 4095 then movFail s ch stMalformed 0
      else match movRead s ch (opnd j 128 32) (opnd j 160 48 + 16 * x.pc) 16 4 with
        | (s, none) => s
        | (s, some l) =>
          let w := leNat l
          if !instrOk x.pc w then movFail s ch stMalformed 0
          else if ops.contains (field w 0 8) then f s w
          else s

/-- A move begins; one that moves and writes nothing is over (R456, R458). -/
def beginMove (s : State) (ch : Nat) (m : MoveOp) : State := modChan s ch (fun x => { x with move := some m, own := [] })

/-- MOVE and MOVE_CHECKED (R456 to R458). -/
def moveInstr (ch : Nat) (s : State) (w : Nat) : State :=
  let x := chanOf s ch
  match chanJob s ch with
  | none => s
  | some j =>
    let (sk, sb) := slotKey j (field w 8 2)
    let (dk, db) := slotKey j (field w 10 2)
    let adv := field w 12 4
    let n := field w 96 32
    let src := moveOffset x sb (field w 16 40) adv true
    let dst := moveOffset x db (field w 56 40) adv false
    if !moveFits src n || !moveFits dst n then movFail s ch stProtection 0
    else
      let alg := if field w 0 8 = 1 then none else some (field w 0 8 - 2)
      if n = 0 && alg.isNone then nextPc s ch
      else beginMove s ch { skey := sk, src := src.toNat, dkey := dk, dst := dst.toNat, len := n, alg := alg }

/-- A level that a LOOP at `pc` has begun: its first repetition, with the instruction's strides (R460). -/
def enterLevel (pc w : Nat) : LoopLevel :=
  { held := some pc, i := 1, ss := toSigned 40 (field w 48 40), ds := toSigned 40 (field w 88 40) }

/-- LOOP (R460). -/
def loopInstr (ch : Nat) (s : State) (w : Nat) : State :=
  let x := chanOf s ch
  let one := bitAt w 8
  let l := if one then x.l1 else x.l0
  match l.held with
  | some k =>
    if k != x.pc then movFail s ch stMalformed 0
    else
      let back := decide (l.i + 1 < field w 24 24)
      let l' := if back then { l with i := l.i + 1 } else {}
      let x := if one then { x with l1 := l' } else { x with l0 := l' }
      setChan s ch { x with pc := if back then field w 12 12 else x.pc + 1 }
  | none =>
    let back := decide (1 < field w 24 24)
    let l' : LoopLevel :=
      if back then enterLevel x.pc w else {}
    let x := if one then { x with l1 := l' } else { x with l0 := l' }
    setChan s ch { x with pc := if back then field w 12 12 else x.pc + 1 }

/-- The condition of a wait holds (R461). -/
def waitOver (s : State) (x : Channel) (w : MovWait) : Bool :=
  match w.kind with
  | 0 => counterOwned s w.counter x.owner && reached (fmGet s.ctx.counters w.counter { owner := 0 }).value w.arg
  | 1 => decide (w.arg ≤ now s)
  | 2 => decide (w.arg ≤ s.rgl.time)
  | _ => x.event

/-- The wait ends well: an event wait takes the flag. -/
def endWait (s : State) (ch : Nat) (w : MovWait) : State :=
  modChan s ch (fun x => { x with
    st := .running, wait := none, pc := x.pc + 1, event := if w.kind = 3 then false else x.event })

/-- The wait that a WAIT names (R461). -/
def waitOf (s : State) (w : Nat) : MovWait :=
  let kind := field w 8 2
  let t := field w 32 32
  { kind, counter := field w 64 13,
    arg := if kind = 0 then field w 80 32 else if kind = 1 then now s + field w 64 64 else field w 64 64,
    limit := if (kind = 0 || kind = 3) && t != 0 then some (now s + t * 1000) else none }

/-- WAIT (R461). -/
def waitInstr (ch : Nat) (s : State) (w : Nat) : State :=
  let x := chanOf s ch
  let v := waitOf s w
  if v.kind = 0 && !counterOwned s v.counter x.owner then movFail s ch stProtection 0
  else if waitOver s x v then endWait s ch v
  else setChan s ch { x with st := .waiting, wait := some v }

/-- WAIT_END (R461). -/
def waitEnd (s : State) (ch : Nat) : State :=
  let x := chanOf s ch
  match x.st, x.wait with
  | .waiting, some w =>
    if waitOver s x w then endWait s ch w
    else match w.limit with
      | some t => if now s ≥ t then movFail s ch stTimeout 0 else s
      | none => s
  | _, _ => s

/-- SIGNAL: once every earlier write is visible. A counter field with EN = 0 names no counter (R338, R462). -/
def signalInstr (ch : Nat) (s : State) (w : Nat) : State :=
  let x := chanOf s ch
  match movVisible s ch with
  | (s, false) => movFail s ch stBusError 0
  | (s, true) =>
    if bitAt w 8 then
      if !holdsChan s x.owner (field w 32 5) then movFail s ch stProtection 0
      else nextPc (modChan s (field w 32 5) (fun x => { x with event := true })) ch
    else match cntField (field w 16 16) with
      | none => nextPc s ch
      | some n =>
        if !counterOwned s n x.owner then movFail s ch stProtection 0
        else nextPc (counterEvent s x.owner n (field w 64 32) false (x.job.map (fun i => (x.queue, i)))) ch

/-- FENCE: later reads find only new values (R457, R463). -/
def fenceInstr (ch : Nat) (s : State) (_ : Nat) : State :=
  match movVisible s ch with
  | (s, false) => movFail s ch stBusError 0
  | (s, true) => nextPc (modChan s ch (fun x => { x with olds := [] })) ch

/-! ### Checksums (R459) -/

/-- CRC-64/ECMA: polynomial 0x42F0E1EBA9EA3693, most significant bit first. -/
def crc64 (l : List Byte) : Nat :=
  let bit := fun (c : Nat) (_ : Nat) =>
    if bitAt c 63 then Nat.xor (c * 2 % 2 ^ 64) 0x42F0E1EBA9EA3693 else c * 2 % 2 ^ 64
  l.foldl (fun c b => (List.range 8).foldl bit (Nat.xor c (b.toNat * 2 ^ 56))) 0

/-- Fletcher-64 over little-endian 32-bit words, both sums modulo 2^32 - 1. -/
def fletcher64 (l : List Byte) : Nat :=
  let words := (List.range ((l.length + 3) / 4)).map (fun i => numAt l (4 * i) 4)
  let r := words.foldl (fun (p : Nat × Nat) w => ((p.1 + w) % (2 ^ 32 - 1), (p.2 + (p.1 + w) % (2 ^ 32 - 1)) % (2 ^ 32 - 1))) (0, 0)
  r.1 + r.2 * 2 ^ 32

def checksum (alg : Nat) (l : List Byte) : Nat := if alg = 0 then crc32c l else if alg = 1 then crc64 l else fletcher64 l

/-- The trailer of a MOVE_CHECKED (R458). -/
def trailer (alg : Nat) (l : List Byte) (status : Nat) : List Byte :=
  leBytes 16 (place [(0, checksum alg l), (64, l.length), (96, alg), (104, status)])

/-! ### Old and new values (R457) -/

/-- The address of each byte of some pieces; the device-local area lies above every bus address. -/
def byteAddrs (ps : List Piece) : List Nat := ps.flatMap (fun p => (List.range p.len).map (fun i => granuleOf p + i))

/-- A byte at such an address now. -/
def peek (s : State) (a : Nat) : Byte := if a ≥ 2 ^ 64 then localByte s (a - 2 ^ 64) else memGet s.host a

/-- The eight bytes of an aligned unit now. -/
def unitNow (s : State) (u : Nat) : List Byte := (List.range 8).map (fun i => peek s (8 * u + i))

/-- What the Mover sees of a byte that it reads: the value now, or, for its whole unit, one that an earlier MOVE since the
last FENCE overwrote; and where this MOVE has written, perhaps the value from before it. The choice is free. -/
def seenByte (x : Channel) (seed first : Nat) (a : Nat) (b : Byte) : Byte :=
  let u := a / 8
  let pick_ := field seed (32 * (u - first)) 32
  let h := fmGet x.olds u []
  let v := (h.getD (pick_ % 2 ^ 16 % (h.length + 1)) []).getD (a % 8) b
  match fmFind x.own u with
  | some l => if bitAt pick_ (16 + a % 8) then l.getD (a % 8) v else v
  | none => v

def seenBytes (s : State) (ch : Nat) (ps : List Piece) (l : List Byte) : State × List Byte :=
  let x := chanOf s ch
  let as := byteAddrs ps
  if !as.any (fun a => (fmFind x.olds (a / 8)).isSome || (fmFind x.own (a / 8)).isSome) then (s, l)
  else
    let (seed, s) := draw s
    (s, (as.zip l).map (fun p => seenByte x seed (as.headD 0 / 8) p.1 p.2))

/-- The units that a write of this MOVE touches keep what they held before it. -/
def keepOld (s : State) (ch : Nat) (ps : List Piece) : State :=
  let us := ((byteAddrs ps).map (· / 8)).eraseDups
  modChan s ch (fun x => us.foldl (fun x u =>
    if (fmFind x.own u).isSome then x else { x with own := fmSet x.own u (unitNow s u) }) x)

/-- The MOVE is over: what its units held before it joins the earlier contents. -/
def mergeOwn (x : Channel) : Channel :=
  { x with own := [], olds := x.own.foldl (fun m kv => fmModify m kv.1 [] (· ++ [kv.2])) x.olds }

/-! ### The datapath (R449, R453, R457, R458, R466, R469) -/

/-- Write through a key; the failure or stall is the channel's. A write into a granule that is held waits: the beat comes again (R325). -/
def movWrite (s : State) (ch key off : Nat) (l : List Byte) : State × Bool :=
  match translate s (movAccess s ch key off l.length 2) with
  | (s, .fails st) => (movFail s ch st (moveDone s ch), false)
  | (s, .absent level va) => (movStall s ch key 1 level va (moveDone s ch), false)
  | (s, .ok ps _) =>
    if heldAt s ps then (s, false)
    else
      let x := chanOf s ch
      let s := notePieces (writePieces (keepOld s ch ps) x.owner ps l) x.owner x.queue key ps
      (modChan s ch (fun x => { x with lastWrite := (lastAddr ps).orElse (fun _ => x.lastWrite) }), true)

/-- The chain follows a link word: to the next descriptor, or to its end (R468, R469). -/
def followLink (s : State) (ch link : Nat) : State :=
  if bitAt link 0 then movDone s ch
  else modChan s ch (fun x => { x with desc := field link 5 43 * 32 })

/-- A descriptor's data has been written: its word is written back, and its link followed; at a tail, an append has the
link word read again, at a stall once that is over (R453, R469). -/
def endDescriptor (s : State) (ch : Nat) : State :=
  let x := chanOf s ch
  match chanJob s ch with
  | none => s
  | some j =>
    let key := opnd j 128 32
    let back := match x.wb with
      | some w => movWrite s ch key (x.desc + 16) (leBytes 8 (if bitAt w 32 then w else w + 2 ^ 32))
      | none => (s, true)
    match back with
    | (s, false) => s
    | (s, true) =>
      let s := modChan s ch (fun x => { mergeOwn x with move := none, wb := none, descs := x.descs + 1 })
      if bitAt x.link 0 && (chanOf s ch).append then
        let s := modChan s ch (fun x => { x with append := false })
        match movRead s ch key (x.desc + 24) 8 4 with
        | (s, some l) => followLink s ch (leNat l)
        | (s, none) =>
          if (chanOf s ch).st != .stalled then s
          else modChan s ch (fun y => { y with move := x.move, descs := x.descs, append := true })
      else followLink s ch x.link

/-- The move under way has written its last byte: a MOVE_CHECKED writes its trailer (R458). -/
def endMove (s : State) (ch : Nat) : State :=
  let x := chanOf s ch
  match x.move with
  | none => s
  | some m =>
    if x.chain then endDescriptor s ch
    else match m.alg with
      | none => nextPc (modChan s ch (fun x => { mergeOwn x with move := none })) ch
      | some alg =>
        match movWrite s ch m.dkey (m.dst + m.len) (trailer alg m.sum stOk) with
        | (s, true) => nextPc (bump (modChan s ch (fun x => { mergeOwn x with move := none })) 348) ch
        | (s, false) => s

/-- A channel has a beat to move. -/
def beatReady (s : State) (ch : Nat) : Bool :=
  let x := chanOf s ch
  x.st == .running && x.move.isSome && !x.gated && !x.readBad && serves s x.owner

/-- The channel that takes the next beat: of the ready ones of highest priority, the one whose turn it is, else the next
in ascending order from the last served (R449). -/
def nextChan (s : State) : Option Nat :=
  let ready := (List.range 32).filter (beatReady s)
  let top := ready.foldl (fun n ch => max n (chanOf s ch).prio) 0
  let best := ready.filter (fun ch => (chanOf s ch).prio == top)
  if best.contains s.mov.last && s.mov.beats < max 1 s.mov.rrBeats then some s.mov.last
  else ((List.range 32).map (fun i => (s.mov.last + 1 + i) % 32)).find? best.contains

/-- One beat of a channel: source read, destination written (R449, R457). While PAIRED the first waits for the twin
(R523). -/
def beatOf (s : State) (ch : Nat) (m : MoveOp) : State :=
  let n := min (64 - (m.dst + m.done) % 64) (m.len - m.done)
  if n = 0 then endMove s ch
  else match translate s (movAccess s ch m.skey (m.src + m.done) n 1) with
    | (s, .fails st) => movFail s ch st m.done
    | (s, .absent level va) => movStall s ch m.skey 0 level va m.done
    | (s, .ok ps _) =>
      match readPieces s (chanOf s ch).owner ps with
      | (s, none) => modChan s ch (fun x => { x with readBad := true })
      | (s, some l) =>
        let (s, l) := seenBytes s ch ps l
        match movWrite s ch m.dkey (m.dst + m.done) l with
        | (s, false) => s
        | (s, true) =>
          let s := bump (bump s 346) (353 + ch)
          let sum := if m.alg.isSome then m.sum ++ l else []
          let s := modChan s ch (fun x => { x with move := some { m with done := m.done + n, sum := sum } })
          if m.done + n = m.len then endMove s ch else s

/-- The datapath goes to a channel for a beat: it stays there for at most RR_BEATS beats, and a change of channel that priority forces on a
ready one is counted (R449). -/
def takeTurn (s : State) (ch : Nat) : State :=
  let displaced :=
    s.mov.last != ch && s.mov.busy && beatReady s s.mov.last && decide ((chanOf s s.mov.last).prio < (chanOf s ch).prio)
  let s := if displaced then bump s 347 else s
  { s with mov := { s.mov with
    beats := if s.mov.last = ch && s.mov.beats < max 1 s.mov.rrBeats then s.mov.beats + 1 else 1,
    last := ch, current := ch, busy := true } }

/-- The datapath is busy while a channel has a beat to move. -/
def stillBusy (s : State) : State := { s with mov := { s.mov with busy := (List.range 32).any (beatReady s) } }

/-- MOVER_BEAT: the shared datapath grants one beat (R449). -/
def moverBeat (s : State) : State :=
  match nextChan s with
  | none => { s with mov := { s.mov with busy := false } }
  | some ch =>
    let x := chanOf s ch
    match x.move, x.job with
    | some m, some idx =>
      if isPaired s && !x.begun then
        gateOn (setChan s ch { x with begun := true, gated := true }) (.begun x.queue idx) (.mover ch)
      else stillBusy (beatOf (modChan (takeTurn s ch) ch (fun x => { x with begun := true })) ch m)
    | _, _ => s

/-- MOVER_READ_FAILURE: the failed source read of a beat ends the program; a MOVE_CHECKED still writes its trailer, over
the bytes written (R466). -/
def readFailure (s : State) (ch : Nat) : State :=
  let x := chanOf s ch
  match x.readBad, x.move with
  | true, some m =>
    match m.alg with
    | none => movFail s ch stBusError m.done
    | some alg =>
      match movWrite s ch m.dkey (m.dst + m.len) (trailer alg m.sum stChecksum) with
      | (s, true) => movFail (bump s 348) ch stBusError m.done
      | (s, false) => s
  | _, _ => s

/-- The move of a descriptor `v` of the chain of job `j` (R468). -/
def descMove (j : Job) (v : Nat) : MoveOp :=
  { skey := opnd j 224 32, src := field v 0 48, dkey := opnd j 256 32, dst := field v 64 48, len := field v 128 32 }

/-- The channel keeps a descriptor's link word, and the word that is written back where it asks for that (R468, R469). -/
def takeDescriptor (s : State) (ch v : Nat) : State :=
  modChan s ch (fun x => { x with
    append := false, link := field v 192 64, wb := if bitAt v 161 then some (field v 128 64) else none })

/-- DESCRIPTOR: the chain's next descriptor is read, and moves as a MOVE (R468, R469). -/
def descriptor (s : State) (ch : Nat) : State :=
  let x := chanOf s ch
  if !chanReady s ch || !x.chain then s
  else match chanJob s ch with
    | none => s
    | some j =>
      match movRead s ch (opnd j 128 32) x.desc 32 4 with
      | (s, none) => s
      | (s, some l) =>
        let v := leNat l
        let m := descMove j v
        let s := takeDescriptor s ch v
        if !moveFits m.src m.len || !moveFits m.dst m.len then movFail s ch stProtection 0
        else if m.len = 0 then endDescriptor s ch
        else beginMove s ch m

/-- The stall of a channel is over: it goes on at the beat or fetch that stalled (R296, R453). -/
def resumeChan (s : State) (ch : Nat) : State :=
  modChan s ch (fun x => { x with st := if x.st = .stalled then .running else x.st })

/-! ### Commands (R477, R478) -/

/-- The lowest channel that is free, here and on the partner (R478, R518). -/
def freeChannel (s : State) : Option Nat :=
  firstFrom (fun ch => (chanOf s ch).st == .free && !(onPartner s && (fmFind s.twn.mirror.channels ch).isSome)) 32 0

/-- MOVER_CHANNEL_ALLOC. -/
def chanAlloc (fn : Nat) (c : Cmd) (s : State) : State × CmdOut :=
  let p := c.params
  let t := byteAt p 0
  if byteAt p 1 > 3 || !zeroAt p 2 2 || byteAt p 8 > 3 || !zeroAt p 9 7 then (s, only stMalformed)
  else if !tenantOk s fn t then (s, only stProtection)
  else match schedGroup s fn (numAt p 4 4) with
    | .inr st => (s, only st)
    | .inl g =>
      let q := 4 * g + byteAt p 8
      if (queueOf s q).st = .disabled || (queueOf s q).fn != t then (s, only stProtection)
      else
        match freeChannel s with
        | none => (s, only stNoResource)
        | some ch =>
          (mirror (setChan s ch { st := .idle, owner := t, queue := q, prio := byteAt p 1 }) (.channel ch t q (byteAt p 1)),
            .done stOk (leBytes 8 ch) 0)

/-- The channel that a command names may be used by its issuer. -/
def chanOk (s : State) (fn ch : Nat) : Bool := (chanOf s ch).st != .free && (fn == 0 || (chanOf s ch).owner == fn)

/-- A job of the queue is a Mover job of the channel: one that runs on it, from its bound queue, or an append, from any queue of its owner
(R447, R471). -/
def jobOfChan (x : Channel) (ch q : Nat) (fn : Nat) (j : Job) : Bool :=
  !j.malformed && j.context == ch && ((j.opcode == 0x50 || j.opcode == 0x51) && q == x.queue || j.opcode == 0x52 && fn == x.owner)

/-- Mover jobs of the channel that are not done (R451, R478). -/
def chanBusy (s : State) (ch : Nat) : Bool :=
  (chanOf s ch).job.isSome
  || s.rings.queues.any (fun kv => kv.2.jobs.any (fun j => jobOfChan (chanOf s ch) ch kv.1 kv.2.fn j && !j.over))

/-- MOVER_CHANNEL_FREE. -/
def chanFree (fn : Nat) (c : Cmd) (s : State) : State × CmdOut :=
  let ch := byteAt c.params 0
  if ch > 31 || !zeroAt c.params 1 7 then (s, only stMalformed)
  else if !chanOk s fn ch then (s, only stProtection)
  else if chanBusy s ch then (s, only stNoResource)
  else (mirror { s with mov := { s.mov with chans := fmErase s.mov.chans ch } } (.channelGone ch), only stOk)

/-- MOVER_CHANNEL_QUERY: the physical function may ask about any channel. -/
def chanQuery (fn : Nat) (c : Cmd) (s : State) : State × CmdOut :=
  let ch := byteAt c.params 0
  if ch > 31 || !zeroAt c.params 1 7 then (s, only stMalformed)
  else if fn != 0 && !chanOk s fn ch then (s, only stProtection)
  else (s, .done stOk ((movCh s ch).flatMap (leBytes 8)) 0)

/-- MOVER_CHANNEL_PRIORITY. -/
def chanPriority (fn : Nat) (c : Cmd) (s : State) : State × CmdOut :=
  let ch := byteAt c.params 0
  let pr := byteAt c.params 1
  if ch > 31 || pr > 3 || !zeroAt c.params 2 6 then (s, only stMalformed)
  else if !chanOk s fn ch then (s, only stProtection)
  else
    let x := chanOf s ch
    (mirror (setChan s ch { x with prio := pr }) (.channel ch x.owner x.queue pr), only stOk)

/-- MOVER_CONFIG (R263, R473). -/
def moverConfig (_ : Nat) (c : Cmd) (s : State) : State × CmdOut :=
  let vm := byteAt c.params 1
  if vm > 1 || !zeroAt c.params 2 6 then (s, only stMalformed)
  else if vm != 0 && isExpert s 0x08 then (s, only stProtection)
  else ({ s with mov := { s.mov with rrBeats := pick vm 0 (byteAt c.params 0) s.mov.rrBeats } }, only stOk)

end Sys2Proof.Machine
end

