-- ==== Sys2Proof/Machine/Jobs.lean ====
section
/-! DEFINITION. Jobs: how the next job of a queue is taken, checked, armed or started (R216 to R228, R316, R319, R365, R366), and
how an armed one is released. -/

namespace Sys2Proof.Machine

/-! ### The operation of each opcode (R217) -/

/-- Start a job by its opcode; an operation that must still wait leaves the job as it is. -/
def startJob (s : State) (q : Nat) (idx : Idx) (opcode : Nat) : State :=
  match opcode with
  | 0x00 => startNop s q idx
  | 0x08 => startCounter false s q idx
  | 0x09 => startCounter true s q idx
  | 0x20 => startBarrier s q idx
  | 0x30 => startSend s q idx
  | 0x31 => startRecv s q idx
  | 0x40 => startCollective s q idx
  | 0x50 => startMover false s q idx
  | 0x51 => startMover true s q idx
  | 0x52 => startAppend s q idx
  | _ => startConn s q idx

/-- The job may start now: its queue may start jobs, and neither FENCE nor a barrier holds it (R316, R319). -/
def canStart (s : State) (q : Nat) (j : Job) : Bool := mayStart s q && !fencedJob s q j && !behindBarrier s q j.idx

/-! ### Taking the next job (R218, R227, R228) -/

/-- The time-stamp of the doorbell that covered a job whose last entry lies before `stop` (R570). -/
def postTime (s : State) (x : Queue) (stop : Idx) : Nat :=
  match x.posts.find? (fun p => decide ((p.1 - stop).toNat < 2 ^ 31)) with
  | some p => p.2
  | none => stamp s

/-- The job that entries from CONS on form. -/
def newJob (s : State) (q : Nat) (entries : List Line) (broken : Bool) : Job :=
  let x := queueOf s q
  let e := entries.headD 0
  let stop := x.cons + BitVec.ofNat 32 entries.length
  { idx := x.cons, entries, opcode := ebits e 0 8, context := ebits e 32 16, cookie := ebits e 64 64, fence := ebits e 18 1 == 1,
    arm := ebits e 19 1 == 1, event := ebits e 20 1 == 1,
    malformed := broken || !jobOk s x.fn entries || !strikeJobOk s q x e, tPost := postTime s x stop }

/-- The queue holds the job, and CONS goes on behind it. -/
def appendJob (s : State) (q : Nat) (j : Job) : State :=
  modQueue s q (fun x =>
    let cons := x.cons + BitVec.ofNat 32 j.entries.length
    { x with
      cons := cons, jobs := x.jobs ++ [j],
      posts := x.posts.filter (fun p => p.1 != cons && decide ((p.1 - cons).toNat < 2 ^ 31)),
      inl := x.inl.filter (fun p => decide ((p.1 - cons).toNat < 2 ^ 31)) })

/-- A malformed job completes with MALFORMED (R228, R419). -/
def rejectJob (s : State) (q : Nat) (j : Job) : State := endJob s q j.idx stMalformed 0 (if j.opcode = 0x40 then 1 else 0)

/-- An armed job is held, or is released at once where its counter has reached its threshold (R365, R366). -/
def armJob (s : State) (q : Nat) (j : Job) : State :=
  let t := (j.entries.getLast?.getD 0).toNat
  let n := field t 32 13
  let h := field t 64 32
  let s := provenance s q j.idx
  let s := modJob s q j.idx (fun j => { j with st := .armed })
  match fmFind s.ctx.counters n with
  | none => endJob s q j.idx stProtection 0 0
  | some c =>
    if c.owner != (queueOf s q).fn then endJob s q j.idx stProtection 0 0
    else if (s.ctx.armed.filter (fun a => !a.released)).length ≥ 65536 then endJob s q j.idx stNoResource 0 0
    else
      let hit := reached c.value h
      let a : Armed := { q, idx := j.idx, counter := n, threshold := h, released := hit }
      let s := { s with ctx := { s.ctx with armed := s.ctx.armed ++ [a] } }
      if hit then bump (postNow s q j.idx) 309 else s

/-- A job that has just been taken is refused, armed, or starts if it may. -/
def admitJob (s : State) (q : Nat) (j : Job) : State :=
  let s := appendJob s q j
  if j.malformed then rejectJob s q j
  else if j.arm then armJob s q j
  else if canStart s q j then startJob s q j.idx j.opcode
  else s

/-- A job whose entries could not all be read: the entries so far, and the one that failed (R202, R219). -/
def failedFetch (s : State) (q : Nat) (entries : List Line) : State :=
  let j := { newJob s q (entries ++ [0]) false with malformed := false }
  endJob (appendJob s q j) q j.idx stBusError 0 0

/-- The oldest job of an opcode that waits and may start. -/
def startable (s : State) (q opcode : Nat) : Option Job :=
  (queueOf s q).jobs.find? (fun j => j.st == .waiting && !j.malformed && j.opcode == opcode && canStart s q j)

/-- A barrier that is not done holds what follows it in the queue (R319). -/
def barrierStands (s : State) (q : Nat) : Bool := (queueOf s q).jobs.any (fun k => k.opcode == 0x20 && !k.malformed && k.st != .done)

/-- One of the job commands: the oldest job of the opcode that may start does so; else the queue's next job is taken, if it
has this opcode. One that cannot be read or is malformed is taken whatever the command. -/
def jobRow (opcode : Nat) (s : State) (q : Nat) : State :=
  match startable s q opcode with
  | some j => startJob s q j.idx j.opcode
  | none =>
    if !mayStart s q || barrierStands s q then s
    else match groupNext s q with
      | (_, .waits) => s
      | (s', .failed l) => failedFetch s' q l
      | (s', .job l broken) =>
        let j := newJob s' q l broken
        if j.malformed || j.opcode = opcode then admitJob s' q j else s

/-! ### Released jobs (R366) -/

/-- ARMED_JOB_RELEASE: a released job starts, in the order of arming among those that may start. -/
def releaseJob (s : State) (q : Nat) (idx : Idx) : State :=
  let may := fun (a : Armed) => a.released && (match jobOf s a.q a.idx with | some j => canStart s a.q j | none => false)
  match s.ctx.armed.find? (fun a => a.q == q && a.idx == idx) with
  | none => s
  | some a =>
    if !may a then s
    else if (s.ctx.armed.takeWhile (fun b => b != a)).any (fun b => b.counter == a.counter && may b) then s
    else match jobOf s q idx with
      | some j => startJob s q idx j.opcode
      | none => s

end Sys2Proof.Machine
end

