-- ==== Sys2Proof/Machine/Drain.lean ====
section
/-! DEFINITION. Commands that end jobs: QUEUE_DESTROY and QUEUE_RESET (R229 to R232, R239, R242), REGION_REVOKE and
REGION_DESTROY (R301, R309), FAULT_RING_DESTROY, PAGE_RESOLVE and LOCAL_TIMEOUT (R296, R309). -/

namespace Sys2Proof.Machine

/-! ### Draining a queue (R229, R230) -/

/-- The reply of a packet holds reserved ejection space (R68): one that answers with data. -/
def reservesSpace (u : Unans) : Bool :=
  let t := ttypeOf u.pkt.tt
  t == 0x03 || isAtomicType t

/-- Packets of an aborted job are sent no more; the space of replies that may still come is kept (R229, R356). -/
def abortPackets (s : State) (q : Nat) (idx : Idx) : State :=
  (jobUnans s q idx).foldl (fun s p =>
    let s := if reservesSpace p.2 then { s with ctx := { s.ctx with kept := s.ctx.kept ++ [(p.1, p.2.psn, now s)] } } else s
    abandon s p.1 p.2) s

/-- The queue's Mover jobs stop (R472). -/
def abortMover (s : State) (q : Nat) : State :=
  (s.mov.chans.filter (fun kv => kv.2.queue == q && kv.2.job.isSome)).foldl (fun s kv => abortChan s kv.1) s

/-- Everything that the queue's jobs hold outside the queue is given up: packets, stalls, armed places, RDV_IDs, what waits for
injection or for the twin, the Strike binding, the Carillon memberships (R104, R229, R230, R366, R431, R472). -/
def releaseQueue (s : State) (q : Nat) : State :=
  let js := ((queueOf s q).jobs.filter (fun j => !j.over)).map (·.idx)
  let s := js.foldl (fun s i => freeRdv (abortPackets s q i) q i) s
  let s := abortMover s q
  let s := { s with
    xlt := { s.xlt with stalls := s.xlt.stalls.filter (fun x => match x.who with | .job k _ => k != q | _ => true) },
    ctx := { s.ctx with
      armed := s.ctx.armed.filter (fun a => a.q != q),
      ctxs := s.ctx.ctxs.map (fun kv => (kv.1, { kv.2 with replay := kv.2.replay.filter (fun r => r.2.1 != q) })) },
    twn := { s.twn with gate := s.twn.gate.filter (fun g => match g.2 with | .errRec k _ => k != q | _ => true) } }
  let items := (readyOf s q).filter (fun i => match i with
    | .rdvGet _ => true
    | .fin _ => true
    | .again c psn => ((ctxOf s c).unans.find? (fun u => u.psn == psn)).any (fun u => u.delivery.isSome)
    | _ => false)
  carQueueLost (unbindQueue (setItems s q items) q) q

/-- Group what lies between CONS and LAST: the jobs there that have not been taken, as (index, EVENT); none where a read
fails. Entries of a chain that LAST cuts form no job. -/
def ungrouped (s : State) (q : Nat) : Nat → List (Idx × Bool) → State × Option (List (Idx × Bool))
  | 0, acc => (s, some acc)
  | n + 1, acc =>
    match groupNext s q with
    | (s, .waits) => (s, some acc)
    | (s, .failed _) => (s, none)
    | (s, .job l _) =>
      let x := queueOf s q
      let e := l.headD 0
      ungrouped (modQueue s q (fun x => { x with cons := x.cons + BitVec.ofNat 32 l.length })) q n
        (acc ++ [(x.cons, ebits e 20 1 == 1)])

/-- The records of failed jobs that wait in the ring's queue, or for the twin; their jobs keep their failure status in place (R230). -/
def dueRecords (s : State) (q : Nat) : List ErrRec :=
  (queueOf s q).waiting ++ s.twn.gate.filterMap (fun g => match g.2 with | .errRec k e => if k == q then some e else none | _ => none)

/-- The beginning of a drain: the twin hears of it, and QUEUE_RESET reads the shadow word (R231, R242, R522). -/
def beginDrain (s : State) (q : Nat) (reset : Bool) : State × Option (List Byte) :=
  let x := queueOf s q
  let s := mirror s (.drain q reset)
  if reset then hostRead s x.fn x.shadow 4 else (s, some [])

/-- The unfinished jobs of a queue, and those that have not been grouped yet: what a drain aborts (R229, R230). -/
def abortedOf (x : Queue) (rest : List (Idx × Bool)) : List Idx :=
  (x.jobs.filter (fun j => !j.over)).map (fun j => j.idx) ++ rest.map (·.1)

/-- The end of a drain: STATUS bytes of the aborted jobs, head index, completion events, and the read of R201; the flag says that it
declared the writes visible (R229 to R232). -/
def endDrain (s : State) (q : Nat) (x : Queue) (rest : List (Idx × Bool)) : State × Bool :=
  let s := (abortedOf x rest).foldl (fun s i => hostWrite s x.fn (entryAddr x i + 1) [BitVec.ofNat 8 stAborted]) s
  let s := hostWrite s x.fn x.headAddr (leBytes 4 x.last.toNat)
  let s := completionEvents s q x x.jobs
  let s := (rest.filter (·.2)).foldl (fun s r => postEvent s x.fn x.evr 0x01 q r.1.toNat) s
  let (s, ok) := hostRead s x.fn x.headAddr 4
  (s, ok.isSome)

/-- A queue that has been drained: everything up to LAST is over (R231, R232). -/
def drainedQueue (y x : Queue) (st : QState) : Queue :=
  { y with
    st := st, cons := x.last, last := x.last, head := x.last, waiting := [], jobs := [], posts := [], unflushed := [], inl := [] }

/-- The response of a drain (R231, R232). -/
def drainReply (x : Queue) (rest : List (Idx × Bool)) (dropped : Nat) : List Byte :=
  leBytes 4 ((abortedOf x rest).headD x.last).toNat ++ leBytes 4 (abortedOf x rest).length ++ leBytes 4 dropped
    ++ leBytes 4 x.last.toNat

/-- QUEUE_DESTROY, and QUEUE_RESET with `reset` (R229 to R232, R242). -/
def drainQueue (reset : Bool) (fn : Nat) (c : Cmd) (s : State) : State × CmdOut :=
  match namedQueue s fn c.params with
  | .inr st => (s, only st)
  | .inl q =>
    let x := queueOf s q
    if x.st = .disabled then (s, only stMalformed)
    else
      let (a, shadow) := beginDrain s q reset
      let a := (dueRecords a q).foldl (putStatus q) a
      match ungrouped (releaseQueue a q) q (x.last - x.cons).toNat [] with
      | (b, none) => (mirror (modQueue b q (fun x => { x with
          st := .stopped, jobs := [], waiting := [], inl := [], posts := [] })) (.stopped q 3), only stBusError)
      | (b, some rest) =>
        let (u, ok) := endDrain b q x rest
        if !ok || shadow.isNone then
          (mirror (setQueue u q (drainedQueue (queueOf u q) x .stopped)) (.stopped q 3), only stBusError)
        else
          let u := if reset then mirror (setQueue u q (drainedQueue (queueOf u q) x .active)) (.queue q (cfgOf x) x.last)
            else mirror (setQueue u q (drainedQueue (queueOf u q) x .disabled)) (.queueGone q)
          (u, .done stOk (drainReply x rest (dueRecords s q).length) 0)

/-! ### Stalls that end (R296, R390, R453) -/

/-- The work that a stall holds fails with a status. -/
def failStall (s : State) (x : Stall) (status : Nat) : State :=
  match x.who with
  | .job q idx =>
    (match jobOf s q idx with
    | some j => let k := stalledPart s q idx j; failPart s q idx status k.1 k.2
    | none => s)
  | .channel ch => movFail s ch status (moveDone s ch)
  | .copy id =>
    let s := { s with xlt := { s.xlt with stalls := s.xlt.stalls.filter (fun y => y.who != .copy id) } }
    match deliveryOf s id with
    | none => s
    | some d => if d.msg.rdv then failDelivery s id status else endDelivery s id status

/-- The walk is retried, and the work goes on (R296). -/
def retryStall (s : State) (x : Stall) : State :=
  let s := { s with xlt := { s.xlt with stalls := s.xlt.stalls.filter (fun y => y.who != x.who) } }
  match x.who with
  | .job q idx =>
    (match jobOf s q idx with
      | some j => if j.opcode = 0x40 then joinCollective s q idx else if j.started then s else prepareJob s q idx
      | none => s)
  | .channel ch => resumeChan s ch
  | .copy id =>
    match deliveryOf s id with
    | some d => if d.msg.rdv then runRdv s id else runCopy s id
    | none => s

/-- The job that a stall belongs to. -/
def stallJob (s : State) (x : Stall) : Option (Nat × Idx) :=
  match x.who with
  | .job q idx => some (q, idx)
  | .channel ch => (chanOf s ch).job.map (fun i => ((chanOf s ch).queue, i))
  | .copy id => (deliveryOf s id).map (fun d => (d.recv.q, d.recv.idx))

/-- LOCAL_TIMEOUT: no PAGE_RESOLVE within LOCAL_TIMEOUT of the record's post (R296, R300, R304). -/
def localTimeoutOf (s : State) (q : Nat) (idx : Idx) : State :=
  let limit := max s.xlt.localTimeout 1 * 1000000
  match s.xlt.stalls.find? (fun x => x.seq.isSome && stallJob s x == some (q, idx) && decide (now s ≥ x.since + limit)) with
  | some x => failStall s x stTranslation
  | none => s

/-- PAGE_RESOLVE (R296, R309). -/
def pageResolve (fn : Nat) (c : Cmd) (s : State) : State × CmdOut :=
  let p := c.params
  if byteAt p 4 > 1 || !zeroAt p 5 3 then (s, only stMalformed)
  else match s.xlt.stalls.find? (fun x => x.fn == fn && x.seq == some (numAt p 0 4)) with
    | none => (s, only stNoResource)
    | some x => (if byteAt p 4 = 0 then retryStall s x else failStall s x stTranslation, only stOk)

/-- FAULT_RING_DESTROY: every waiting local record's job fails (R309). -/
def faultRingDestroy (fn : Nat) (c : Cmd) (s : State) : State × CmdOut :=
  if (faultRingOf s fn).isNone || !zeroAt c.params 0 8 then (s, only (if !zeroAt c.params 0 8 then stMalformed else stNoResource))
  else
    let s := { s with xlt := { s.xlt with faultRings := fmErase s.xlt.faultRings fn } }
    let s := (s.xlt.stalls.filter (fun x => x.fn == fn && x.seq.isNone)).foldl (fun s x => failStall s x stTranslation) s
    (mirror s (.faultRingGone fn), only stOk)

/-! ### Revocation (R301, R309) -/

/-- Stalled local work whose key names the region fails with REGION_REVOKED (R296). -/
def revokeStalls (s : State) (i : Nat) : State :=
  (s.xlt.stalls.filter (fun x => x.key / 256 == i)).foldl (fun s x => failStall s x stRevoked) s

/-- REGION_REVOKE: in effect at once, it ends once every access that passed the check before is complete and visible (R301, R309). -/
def regionRevoke (fn : Nat) (c : Cmd) (s : State) : State × CmdOut :=
  if !zeroAt c.params 4 4 then (s, only stMalformed)
  else match namedRegion s fn (numAt c.params 0 4) with
    | .inr st => (s, only st)
    | .inl (i, r) =>
      let s := revokeStalls (revokeIndex s i) i
      afterAccesses (mirror s (.region i (regionCfg (genOf s i) r))) fn (some i) false (leBytes 4 (keyOf s i) ++ leBytes 4 0)

/-- REGION_DESTROY: as REGION_REVOKE, and the index is freed at its end (R282, R301). -/
def regionDestroy (fn : Nat) (c : Cmd) (s : State) : State × CmdOut :=
  if !zeroAt c.params 4 4 then (s, only stMalformed)
  else match namedRegion s fn (numAt c.params 0 4) with
    | .inr st => (s, only st)
    | .inl (i, _) => afterAccesses (revokeStalls (revokeIndex s i) i) fn (some i) true []

end Sys2Proof.Machine
end

