-- ==== Sys2Proof/Machine/Pallet.lean ====
section
/-! DEFINITION. The Pallet bank: identities and rights (R500 to R502), claims, releases and waits (R503 to R506), abandonment
(R507, R508), peer and word locks (R509, R510), its registers (R511 to R514) and its commands 0x0900 to 0x0906 (R515). -/

namespace Sys2Proof.Machine

/-! ### Lock words and registers (R503, R511 to R514) -/

def lockOf (s : State) (n : Nat) : Lock := fmGet s.pal.locks n {}

def lockWord (l : Lock) : Nat := place [(0, l.owner), (16, b2n l.abandoned)]

def setLock (s : State) (n : Nat) (l : Lock) : State := { s with pal := { s.pal with locks := fmSet s.pal.locks n l } }

def lockGroup (s : State) (g : Nat) : LockGroup := fmGet s.pal.groups g {}

/-- Commands whose lost claim waits (R506, R515). -/
def waitingClaims (s : State) : Nat :=
  (s.cur.adm.filter (fun kv => match kv.2.cmd with
    | some c => (match c.wait with | .lockWait _ _ _ => true | _ => false)
    | none => false)).length

/-- Wait reads that the bank holds (R506, R512). -/
def waitsHeld (s : State) : Nat := s.pal.waits.length + waitingClaims s

def palCfg (s : State) : Nat := b2n s.pal.notify

def palStatus (s : State) : Nat :=
  place [(0, (s.pal.locks.filter (fun kv => kv.2.owner != 0)).length), (13, waitsHeld s), (20, s.pal.slots.length),
    (32, s.pal.abandons % 2 ^ 32)]

def palGroup (s : State) (g : Nat) : Nat :=
  let x := lockGroup s g
  place [(0, x.tenant), (8, b2n x.fnEn), (9, b2n x.fw), (10, b2n x.twin), (11, b2n x.remote), (12, b2n x.configured)]

/-! ### Identities and rights (R500 to R502) -/

def localId (tenant requester : Nat) : Nat := place [(0, requester), (6, tenant)]
def twinId (tenant requester : Nat) : Nat := place [(0, requester), (6, tenant), (14, 2)]
def remoteId (slot : Nat) : Nat := place [(0, slot), (14, 3)]

/-- A function may use a lock (R502). -/
def fnMayLock (s : State) (fn n : Nat) : Bool :=
  let g := lockGroup s (n / 64)
  g.configured && (fn == 0 || (g.fnEn && g.tenant == fn))

/-! ### The rule of R504 -/

/-- The effect of a write: taken; nothing, for the owner; lost; released; or released by another. -/
inductive LockOut where
  | won
  | owned
  | lost
  | released
  | bad
  deriving DecidableEq, Repr

def lockRule (l : Lock) (id : Nat) (release : Bool) : Lock × LockOut :=
  if release then (if l.owner = id then ({}, .released) else (l, .bad))
  else if l.owner = 0 then ({ l with owner := id }, .won)
  else if l.owner = id then (l, .owned)
  else (l, .lost)

/-- The lock has become free: held wait reads take its word of this tick, and waiting claims claim once more (R506). -/
def lockFreed (s : State) (n : Nat) : State :=
  let w := lockWord (lockOf s n)
  { s with
    pal := { s.pal with waits := s.pal.waits.map (fun r => if r.lock = n && r.word.isNone then { r with word := some w } else r) },
    cur := { s.cur with adm := s.cur.adm.map (fun kv => match kv.2.cmd with
      | some c => (match c.wait with
        | .lockWait m i _ => if m = n then (kv.1, { kv.2 with cmd := some { c with wait := .lockWait m i 0 } }) else kv
        | _ => kv)
      | none => kv) } }

/-- One write to a lock of the bank (R504). -/
def lockWrite (s : State) (n id : Nat) (release : Bool) : State × LockOut :=
  let (l, out) := lockRule (lockOf s n) id release
  let s := setLock s n l
  match out with
  | .won => (bump (bump s 319) 320, out)
  | .owned => (bump s 319, out)
  | .lost => (bump s 319, out)
  | .released => (lockFreed s n, out)
  | .bad => (fault s 138 (n + id * 2 ^ 16), out)

/-- The status of a claim by its outcome (R515). -/
def claimStatus (s : State) (n : Nat) (out : LockOut) : Nat :=
  if out = .lost then stTimeout else if (lockOf s n).abandoned then stLockAbandoned else stOk

/-! ### Abandonment (R507, R508) -/

/-- Free every lock whose owner `p` accepts: its holder has been reset (R507). -/
def freeLocks (s : State) (p : Nat → Bool) : State :=
  (s.pal.locks.filter (fun kv => kv.2.owner != 0 && p kv.2.owner)).foldl (fun s kv =>
    let s := setLock s kv.1 { owner := 0, abandoned := true }
    let s := { s with pal := { s.pal with abandons := s.pal.abandons + 1 } }
    let s := lockFreed s kv.1
    if s.pal.notify then fault s 139 (kv.1 + kv.2.owner * 2 ^ 16) else s) s

/-! ### Word locks (R510) -/

def sramByte (s : State) (a : Nat) : Byte := fmGet s.pal.sram a (Config.sram a)

/-- The word of a word lock; none where the host read fails. -/
def readWordLock (s : State) (space fn a : Nat) : State × Option Nat :=
  if space = 0 then (s, some (leNat ((List.range 8).map (fun i => sramByte s (a + i)))))
  else match hostRead s fn a 8 with
    | (s, some l) => (s, some (leNat l))
    | (s, none) => (s, none)

def writeWordLock (s : State) (space fn a v : Nat) : State :=
  if space = 0 then
    { s with pal := { s.pal with sram := ((leBytes 8 v).zipIdx).foldl (fun m x => fmSet m (a + x.2) x.1) s.pal.sram } }
  else hostWrite s fn a (leBytes 8 v)

/-- Free every word lock whose holder `p` accepts: its word shows 0x0000 and ABANDONED (R507, R510). -/
def freeWords (s : State) (p : Nat → Bool) : State :=
  (s.pal.words.filter (fun w => p w.id)).foldl (fun s w =>
    match readWordLock s w.space w.fn w.addr with
    | (s, some v) =>
      { writeWordLock s w.space w.fn w.addr (v / 2 ^ 17 * 2 ^ 17 + 2 ^ 16) with
        pal := { (writeWordLock s w.space w.fn w.addr (v / 2 ^ 17 * 2 ^ 17 + 2 ^ 16)).pal with words := without s.pal.words w } }
    | (s, none) => { s with pal := { s.pal with words := without s.pal.words w } }) s

/-- The holders of a kind are reset: their locks and word locks are free and abandoned (R507, R510). -/
def abandonLocks (s : State) (p : Nat → Bool) : State := freeWords (freeLocks s p) p

/-- Class 0 identities of a tenant, class 1 of a core, class 2 of a tenant or of the whole twin. -/
def isLocalOf (tenant id : Nat) : Bool := id / 2 ^ 14 == 0 && field id 6 8 == tenant
def isCoreOf (core id : Nat) : Bool := id / 2 ^ 14 == 1 && field id 6 2 == core
def isTwinOf (tenant : Option Nat) (id : Nat) : Bool :=
  id / 2 ^ 14 == 2 && (match tenant with | some t => field id 6 8 == t | none => true)

/-- Remote slots that no lock holds are free (R501). -/
def trimSlots (s : State) : State :=
  { s with pal := { s.pal with slots := s.pal.slots.filter (fun kv => s.pal.locks.any (fun l => l.2.owner == remoteId kv.1)) } }

/-- The locks of a remote device, or of one tenant there, are abandoned (R507). -/
def abandonRemote (s : State) (coord plane : Nat) (tenant : Option Nat) : State :=
  let theirs := s.pal.slots.filter (fun kv =>
    kv.2.coord == coord && kv.2.plane == plane && (match tenant with | some t => kv.2.tenant == t | none => true))
  trimSlots (abandonLocks s (fun id => theirs.any (fun kv => remoteId kv.1 == id)))

/-- Devices of this plane that a new fault map fences lose their locks here (R507). -/
def abandonFenced (s : State) (old new : FaultMap) : State :=
  (new.devices.filter (fun n => !old.devices.contains n)).foldl (fun s n =>
    abandonRemote s (coordOf s n) s.brd.straps.plane none) s

/-! ### Direct accesses (R501 to R506) -/

/-- What a host read returns, and to which function. -/
def readBack (s : State) (fn : Nat) (v : Nat) : State := { s with hif := { s.hif with rdData := some (fn, v) } }

def palLockBase : Nat := 0x01A10000

/-- LOCK_WORD_WRITE: a write of the physical function to the lock word or the wait alias at a BAR0 offset (R501 to R506). -/
def lockWordWrite (s : State) (fn offset v : Nat) : State :=
  let n := (offset - palLockBase) / 16
  let at_ := (offset - palLockBase) % 16
  let id := field v 0 16
  if fn != 0 || offset < palLockBase || n ≥ 4096 || (at_ != 0 && at_ != 8) then s
  else if at_ = 8 || !fnMayLock s 0 n then fault s 137 (n + id * 2 ^ 16)
  else if v ≥ 2 ^ 17 || id = 0 || id > 63 then fault s 136 (n + id * 2 ^ 16)
  else (lockWrite s n id (bitAt v 16)).1

/-- LOCK_WAIT_READ: a read of a lock's wait alias by the physical function (R502, R506). -/
def lockWaitRead (s : State) (fn n : Nat) : State :=
  if fn != 0 || n ≥ 4096 then s
  else if !fnMayLock s 0 n then readBack (fault s 137 n) fn 0
  else if (lockOf s n).owner = 0 || waitsHeld s ≥ 64 then readBack s fn (lockWord (lockOf s n))
  else
    bump { s with
      pal := { s.pal with waits := s.pal.waits ++ [{ lock := n, fn, at_ := now s }] }, hif := { s.hif with rdData := none } } 321

/-- WAIT_READ_RETURN: a held read whose lock has been free, or that has been held for 10 µs, returns (R506). -/
def waitReadReturn (s : State) (n : Nat) : State :=
  match s.pal.waits.find? (fun r => r.lock == n && (r.word.isSome || decide (now s ≥ r.at_ + 10000))) with
  | none => s
  | some r =>
    let s := { s with pal := { s.pal with waits := s.pal.waits.erase r } }
    match r.word with
    | some w => readBack s r.fn w
    | none => readBack (bump s 322) r.fn (lockWord (lockOf s n))

/-! ### Commands (R515) -/

def lockResp (s : State) (n : Nat) : List Byte := leBytes 8 (lockWord (lockOf s n))

/-- LOCK_CLAIM. -/
def lockClaim (fn : Nat) (c : Cmd) (s : State) : State × CmdOut :=
  let p := c.params
  let n := numAt p 0 2
  let r := byteAt p 2
  if n > 4095 || r = 0 || r > 63 || byteAt p 3 > 1 || !zeroAt p 4 4 then (s, only stMalformed)
  else if !fnMayLock s fn n then (s, only stProtection)
  else
    let id := localId fn r
    let full : Bool := decide (waitsHeld s ≥ 64)
    match lockWrite s n id false with
    | (s, .lost) =>
      if byteAt p 3 = 0 then (s, .done stTimeout (lockResp s n) 0)
      else if full then
        let (s, out) := lockWrite s n id false
        (s, .done (claimStatus s n out) (lockResp s n) 0)
      else (bump s 321, .wait (.lockWait n id (now s + 10000)))
    | (s, out) => (s, .done (claimStatus s n out) (lockResp s n) 0)

/-- The wait of a lost claim is over: it claims once more (R506, R515). -/
def claimAgain (s : State) (fn : Nat) : State :=
  match (admOf s fn).cmd with
  | some c =>
    (match c.wait with
      | .lockWait n id t =>
        if now s < t then s
        else
          let s := if t = 0 then s else bump s 322
          let (s, out) := lockWrite s n id false
          finish s fn c (claimStatus s n out) (lockResp s n) 0
      | _ => s)
  | none => s

/-- LOCK_RELEASE. -/
def lockRelease (fn : Nat) (c : Cmd) (s : State) : State × CmdOut :=
  let p := c.params
  let n := numAt p 0 2
  let r := byteAt p 2
  if n > 4095 || r = 0 || r > 63 || !zeroAt p 3 5 then (s, only stMalformed)
  else if !fnMayLock s fn n then (s, only stProtection)
  else match lockWrite s n (localId fn r) true with
    | (s, .released) => (s, .done stOk (lockResp s n) 0)
    | (s, _) => (s, only stProtection)

/-- LOCK_QUERY. -/
def lockQuery (fn : Nat) (c : Cmd) (s : State) : State × CmdOut :=
  let n := numAt c.params 0 2
  if n > 4095 || !zeroAt c.params 2 6 then (s, only stMalformed)
  else if !fnMayLock s fn n then (s, only stProtection)
  else (s, .done stOk (lockResp s n) 0)

/-- A lock group with the fields that LOCK_GROUP_CONFIG's VALID_MASK selects (R502, R515). -/
def groupRights (x : LockGroup) (p : List Byte) : LockGroup :=
  let b := byteAt p 2
  let vm := byteAt p 4
  { x with
    tenant := pick vm 0 (byteAt p 1) x.tenant, fnEn := pick vm 1 (bitAt b 0) x.fnEn, fw := pick vm 1 (bitAt b 1) x.fw,
    twin := pick vm 1 (bitAt b 2) x.twin, remote := pick vm 1 (bitAt b 3) x.remote,
    configured := pick vm 1 (bitAt b 4) x.configured }

/-- LOCK_GROUP_CONFIG. -/
def lockGroupConfig (_ : Nat) (c : Cmd) (s : State) : State × CmdOut :=
  let p := c.params
  let g := byteAt p 0
  let b := byteAt p 2
  let vm := byteAt p 4
  if g > 63 || (bitAt vm 1 && b > 31) || (bitAt vm 2 && byteAt p 3 > 1) || vm > 7 || !zeroAt p 5 3 then (s, only stMalformed)
  else if vm = 0 then (s, only stOk)
  else if isExpert s 0x1A then (s, only stProtection)
  else
    ({ s with pal := { s.pal with
      groups := fmSet s.pal.groups g (groupRights (lockGroup s g) p), notify := pick vm 2 (byteAt p 3 = 1) s.pal.notify } }, only stOk)

/-- The parameters of LOCK_PEER (R509, R515). -/
def lockPeerOk (s : State) (p : List Byte) : Bool :=
  decide (byteAt p 0 ≤ 1) && decide (byteAt p 1 ≤ 2) && byteAt p 2 != 0 && decide (byteAt p 2 ≤ 63) && byteAt p 3 == 0
  && decide (byteAt p 7 ≤ 1) && decide (numAt p 8 2 ≤ 4095) && zeroAt p 10 6
  && (if byteAt p 0 == 0 then numAt p 4 3 == 0 && byteAt p 7 == 0 else validCoord s (numAt p 4 3))

/-- The target of LOCK_PEER is fenced; the twin is while port 14 is or the bridge is not READY (R77, R515; log entry 126). -/
def peerShut (s : State) (twin : Bool) (plane coord : Nat) : Bool :=
  if twin then fenced s 14 || !bridgeReady s else destFenced s plane coord

/-- LOCK_PEER: the Curator carries the access to the twin's or a remote device's Curator, and waits for the answer (R509). -/
def lockPeer (fn : Nat) (c : Cmd) (s : State) : State × CmdOut :=
  let p := c.params
  let twin := byteAt p 0 == 0
  let r := byteAt p 2
  let coord := numAt p 4 3
  let plane := byteAt p 7
  if !lockPeerOk s p then (s, only stMalformed)
  else if peerShut s twin plane coord then (s, only stDestFenced)
  else (sendCur s (some coord) (.lockAsk twin fn r (numAt p 8 2) (byteAt p 1)), .wait .lockPeer)

/-- The address of a word lock is a naturally aligned word of its space (R510). -/
def wordLockOk (p : List Byte) : Bool :=
  let a := numAt p 8 8
  decide (byteAt p 0 ≤ 1) && byteAt p 1 != 0 && decide (byteAt p 1 ≤ 63) && zeroAt p 2 6 && a % 8 == 0
  && (byteAt p 0 == 1 || decide (a < 2 ^ 27))

def wordOf (v : Nat) : Lock := { owner := field v 0 16, abandoned := bitAt v 16 }

/-- The word is won: it shows the holder, and its bits [63:17] stay (R510); a holder is noted, so that its reset can free the word (R507). -/
def claimWord (s : State) (w : WordLock) (v : Nat) (won : Bool) : State :=
  let s := if won then writeWordLock s w.space w.fn w.addr (v / 2 ^ 17 * 2 ^ 17 + lockWord (lockRule (wordOf v) w.id false).1) else s
  { s with pal := { s.pal with words := withMember s.pal.words w } }

/-- The word is free again (R510). -/
def releaseWord (s : State) (w : WordLock) (v : Nat) : State :=
  let s := writeWordLock s w.space w.fn w.addr (v / 2 ^ 17 * 2 ^ 17)
  { s with pal := { s.pal with words := without s.pal.words w } }

/-- The word lock that a command names, with its issuer's identity (R500, R510). -/
def namedWord (fn : Nat) (p : List Byte) : WordLock :=
  { space := byteAt p 0, fn, addr := numAt p 8 8, id := localId fn (byteAt p 1) }

/-- WORD_LOCK_CLAIM (R510). -/
def wordLockClaim (fn : Nat) (c : Cmd) (s : State) : State × CmdOut :=
  let w := namedWord fn c.params
  if !wordLockOk c.params then (s, only stMalformed)
  else match readWordLock s w.space fn w.addr with
    | (s, none) => (s, only stBusError)
    | (s, some v) =>
      let (l, out) := lockRule (wordOf v) w.id false
      if out = .lost then (s, .done stTimeout (leBytes 8 (lockWord l)) 0)
      else if out = .won && s.pal.words.length ≥ 256 then (s, only stNoResource)
      else match readWordLock (claimWord s w v (out == .won)) w.space fn w.addr with
        | (s, none) => (s, only stBusError)
        | (s, some _) => (s, .done (if l.abandoned then stLockAbandoned else stOk) (leBytes 8 (lockWord l)) 0)

/-- WORD_LOCK_RELEASE (R510). -/
def wordLockRelease (fn : Nat) (c : Cmd) (s : State) : State × CmdOut :=
  let w := namedWord fn c.params
  if !wordLockOk c.params then (s, only stMalformed)
  else match readWordLock s w.space fn w.addr with
    | (s, none) => (s, only stBusError)
    | (s, some v) =>
      let (l, out) := lockRule (wordOf v) w.id true
      if out != .released then (s, only stProtection)
      else match readWordLock (releaseWord s w v) w.space fn w.addr with
        | (s, none) => (s, only stBusError)
        | (s, some _) => (s, .done stOk (leBytes 8 (lockWord l)) 0)

/-! ### Accesses from the twin and from remote devices (R501, R507, R509) -/

/-- The remote slot of a requester. -/
def slotOfRequester (s : State) (x : RemoteSlot) : Option Nat := (s.pal.slots.find? (fun kv => kv.2 == x)).map (·.1)

/-- Apply a peer's access under an identity, with its right (R504, R509): the status and the lock word that go back. -/
def peerAccess (s : State) (n id action : Nat) : State × Nat :=
  if action = 0 then (s, stOk)
  else if action = 1 then
    let (s, out) := lockWrite s n id false
    (s, claimStatus s n out)
  else match lockWrite s n id true with
    | (s, .released) => (s, stOk)
    | (s, _) => (s, stProtection)

/-- REMOTE_RELAY: a peer's lock access, or its report of an FLR, arrives; an access is answered (R507, R509). -/
def remoteRelay (s : State) (r : LockRelay) : State :=
  match r with
  | .flr true _ _ tenant => abandonLocks s (isTwinOf (some tenant))
  | .flr false coord plane tenant => abandonRemote s coord plane (some tenant)
  | .access twin coord plane tenant requester n action =>
    let g := lockGroup s (n / 64)
    let dest := if twin then none else some coord
    let answer := fun (s : State) (st : Nat) => sendCur s dest (.lockAnswer st (lockWord (lockOf s n)))
    if n > 4095 || requester = 0 || requester > 63 || action > 2 then s
    else if !g.configured || !(if twin then g.twin else g.remote) then answer s stProtection
    else if twin then
      let (s, st) := peerAccess s n (twinId tenant requester) action
      answer s st
    else
      let x : RemoteSlot := { coord, plane, tenant, requester }
      match slotOfRequester s x with
      | some k =>
        let (s, st) := peerAccess s n (remoteId k) action
        trimSlots (answer s st)
      | none =>
        if action = 0 then answer s stOk
        else if action = 2 then answer (fault s 138 n) stProtection
        else match firstFrom (fun k => (fmFind s.pal.slots k).isNone) 1023 1 with
          | none => answer s stNoResource
          | some k =>
            let s := { s with pal := { s.pal with slots := fmSet s.pal.slots k x } }
            let (s, st) := peerAccess s n (remoteId k) action
            trimSlots (answer s st)

end Sys2Proof.Machine
end

