-- ==== Sys2Proof/Machine/HostPort.lean ====
section
/-! DEFINITION. The host port: doorbells (R193 to R195), inline sends (R196 to R199), MSI-X masks (R203, R204), configuration
writes (R182 to R186, R209), device reads that fail (R202), the host link (R181, R184, R208, R617), function-level reset (R205,
R206), D3hot (R618) and stalled ejection (R71). -/

namespace Sys2Proof.Machine

/-! ### Who reaches the device -/

/-- The function's BARs decode: its link is up, it is the physical function or an enabled one, and it is not in D3hot (R187, R207, R618). -/
def reaches (s : State) (fn : Nat) : Bool :=
  (linkHalf s (halfOf s fn)).up && (fn == 0 || (fnOf s fn).present) && !(fnOf s fn).d3hot

/-- The queue group behind a page or window of a function's BAR2 or BAR4: none where the function does not hold one (R188,
R193). -/
def pageGroup (s : State) (fn page : Nat) : Option Nat :=
  if fn = 0 then (if page < 65536 && (fmFind s.hif.grants page).isNone then some page else none)
  else (s.hif.grants.find? (fun kv => kv.2 == (fn, page))).map (·.1)

/-! ### Doorbells (R193 to R195, R199) -/

/-- The slot of the combining buffer that holds a key. -/
def wcSlot (s : State) (q : Nat) (idx : Idx) : Option WcSlot :=
  s.hif.wc.find? (fun w => w.group == q / 4 && w.slot == q % 4 && w.j8 == idx.toNat % 8)

/-- A newly covered index takes its inline copy if all 64 bytes are valid; the key's slot is free afterwards (R199). -/
def takeInline (q : Nat) (s : State) (idx : Idx) : State :=
  match wcSlot s q idx with
  | none => s
  | some w =>
    let s := { s with hif := { s.hif with wc := without s.hif.wc w } }
    if w.bytes.length < 64 then s
    else
      let line : Line := BitVec.ofNat 512 (leNat (w.bytes.map (·.2)))
      bump (modQueue s q (fun x => { x with inl := x.inl ++ [(idx, line)] })) (hifCounter s (queueOf s q).fn 3)

/-- An accepted producer value: it is kept for the ungrouped entries and their delay samples, counted, and the inline entries that it
covers are taken (R194, R199, R493). -/
def advanceProducer (s : State) (q : Nat) (x : Queue) (v : Idx) : State :=
  let n := min (v - x.last).toNat 8
  let s := bump (modQueue s q (fun y => { y with last := v, posts := y.posts ++ [(v, stamp s)] })) (hifCounter s x.fn 0)
  let s := ((List.range n).map (fun i => x.last + BitVec.ofNat 32 i)).foldl (takeInline q) s
  mirror s (.doorbell q v)

/-- A producer index for a queue: out of range, stale, or accepted (R194, R195). Only the first 8 newly covered indices can
find their key in the combining buffer. -/
def acceptDoorbell (s : State) (q : Nat) (v : Idx) : State :=
  let x := queueOf s q
  if (v - x.cons).toNat > 2 ^ x.log2 then fault s 33 (x.fn + v.toNat * 2 ^ 32)
  else if (v - x.cons).toNat ≤ (x.last - x.cons).toNat then bump s (hifCounter s x.fn 1)
  else advanceProducer s q x v

/-- DB_PRODUCER: a write of `width` bits at an offset of the function's BAR2 (R193). After a function-level reset it is ignored
until the function is enabled again (R207). -/
def dbProducer (s : State) (fn offset width : Nat) (v : Idx) : State :=
  if !reaches s fn || (fnOf s fn).sinceFlr then s
  else
    let slot := offset % 4096 / 64
    let stray := fault s 32 (fn + offset % 2 ^ 32 * 256)
    match pageGroup s fn (offset / 4096) with
    | none => stray
    | some g =>
      let q := 4 * g + slot
      let st := (queueOf s q).st
      if width != 32 || offset % 64 != 0 || slot > 3 || st = .disabled || st = .draining then stray
      else acceptDoorbell (modQueue s q (fun x => { x with adopted := false })) q v

/-! ### Inline stores (R196, R198) -/

/-- One byte of a BAR4 store enters the slot of its key, which is now the one most recently stored to. -/
def storeInline (g : Nat) (s : State) (a : Nat × Byte) : State :=
  let key := fun (w : WcSlot) => w.group == g && w.slot == a.1 / 512 && w.j8 == a.1 % 512 / 64
  let w := (s.hif.wc.find? key).getD { group := g, slot := a.1 / 512, j8 := a.1 % 512 / 64 }
  let w := { w with bytes := fmSet w.bytes (a.1 % 64) a.2 }
  let others := s.hif.wc.filter (fun x => !key x)
  if others.length ≥ 1024 then
    bump { s with hif := { s.hif with wc := others.drop 1 ++ [w] } } (hifCounter s (groupOwner s g) 2)
  else { s with hif := { s.hif with wc := others ++ [w] } }

/-- One byte of a BAR4 store: into the buffer of the group whose window it lies in, if any (R198). -/
def storeByte (fn offset : Nat) (s : State) (b : Byte × Nat) : State :=
  match pageGroup s fn ((offset + b.2) / 2048) with
  | some g => storeInline g s ((offset + b.2) % 2048, b.1)
  | none => s

/-- INLINE_STORE: bytes stored from an offset of the function's BAR4 on. A window that the function does not hold takes none. -/
def inlineStore (s : State) (fn offset : Nat) (bytes : List Byte) : State :=
  if !reaches s fn || (fnOf s fn).sinceFlr || !s.hif.wcEn then s
  else (bytes.zipIdx).foldl (storeByte fn offset) s

/-- MOV_APPEND: a write of the physical function to the doorbell of R475; bits [31:5] are reserved (R471). -/
def movAppend (s : State) (fn v : Nat) : State :=
  if fn = 0 && reaches s 0 then appendTo s (v % 32) else s

/-! ### MSI-X (R203, R204) -/

def vecOf (s : State) (fn v : Nat) : MsixVec := fmGet (fnOf s fn).vectors v {}

def setVec (s : State) (fn v : Nat) (x : MsixVec) : State :=
  setFn s fn (fun f => { f with vectors := fmSet f.vectors v x })

/-- A vector's message announces the records of those of the function's rings whose message its pending bit stood for (R204, R238). -/
def ringsSent (s : State) (fn v : Nat) : State :=
  { s with rings := { s.rings with rings := s.rings.rings.map (fun kv =>
    if kv.1 / 64 == fn && kv.2.vector == v && kv.2.msgPend then (kv.1, { kv.2 with msgPend := false, lastMsg := some (now s) }) else kv) } }

/-- A vector that is pending and not masked sends its message. -/
def sendPending (fn : Nat) (s : State) (v : Nat) : State :=
  let f := fnOf s fn
  let x := vecOf s fn v
  if !f.msixEn || f.fnMask || x.masked || !f.pend.contains v || !canAccess s fn then s
  else
    let s := ringsSent (setFn (pushWrites s fn) fn (fun f => { f with pend := without f.pend v })) fn v
    bump { s with hif := { s.hif with msgs := s.hif.msgs ++ [(fn, v, x.addr, x.data)] } } (hifCounter s fn 5)

/-- Every pending vector of a function that may send its message does so. -/
def sendAllPending (s : State) (fn : Nat) : State := (fnOf s fn).pend.foldl (sendPending fn) s

/-- MSIX_UNMASK: the vector's mask bit is cleared. -/
def msixUnmask (s : State) (fn v : Nat) : State :=
  if !reaches s fn || v ≥ vectorsOf s fn then s
  else sendPending fn (setVec s fn v { vecOf s fn v with masked := false }) v

/-! ### Function-level reset (R205, R206) -/

/-- The queues of a function are discarded: nothing of them is drained or completed. -/
def dropQueues (s : State) (fn : Nat) : State :=
  (s.rings.queues.filter (fun kv => kv.2.st != .disabled && kv.2.fn == fn)).foldl (fun s kv =>
    let s := releaseQueue s kv.1
    let s := { s with
      rings := { s.rings with queues := fmErase s.rings.queues kv.1 }, sch := { s.sch with ready := fmErase s.sch.ready kv.1 } }
    mirror s (.queueGone kv.1)) s

/-- Event rings with their marks, and the page-fault ring, are gone. -/
def dropRings (s : State) (fn : Nat) : State :=
  let s := (s.rings.rings.filter (fun kv => kv.1 / 64 == fn)).foldl (fun s kv => mirror s (.evRingGone fn (kv.1 % 64))) s
  let s := if (faultRingOf s fn).isSome then mirror s (.faultRingGone fn) else s
  { s with
    rings := { s.rings with
      rings := s.rings.rings.filter (fun kv => kv.1 / 64 != fn), marks := s.rings.marks.filter (fun kv => kv.1 / 64 != fn) },
    xlt := { s.xlt with
      faultRings := fmErase s.xlt.faultRings fn, stalls := s.xlt.stalls.filter (fun x => x.fn != fn) } }

/-- Connections close to QUARANTINE; trigger counters are free (R374). -/
def dropConns (s : State) (fn : Nat) : State :=
  let s := (s.ctx.ctxs.filter (fun kv => !kv.2.peer && kv.2.fn == fn && kv.2.st != .free && kv.2.st != .quarantine)).foldl
    (fun s kv => mirror (quarantine s kv.1) (.connGone kv.1 kv.2.inc)) s
  (s.ctx.counters.filter (fun kv => kv.2.owner == fn)).foldl (fun s kv =>
    mirror { s with ctx := { s.ctx with counters := fmErase s.ctx.counters kv.1 } } (.counterGone kv.1)) s

/-- Regions, endpoints and Mover channels are gone (R303, R404, R472). -/
def dropUnits (s : State) (fn : Nat) : State :=
  let s := (s.xlt.regions.filter (fun kv => kv.2.fn == fn)).foldl (fun s kv => destroyIndex s kv.1) s
  let s := (s.cat.eps.filter (fun kv => kv.2.live && kv.2.owner == fn)).foldl (fun s kv => destroyEp s kv.1 kv.2) s
  (s.mov.chans.filter (fun kv => kv.2.st != .free && kv.2.owner == fn)).foldl (fun s kv =>
    mirror { s with mov := { s.mov with chans := fmErase s.mov.chans kv.1 } } (.channelGone kv.1)) s

/-- The function's host-side state: admin queue, held accesses, combining slots, waits and buckets (R205 to R207, R264, R489,
R506). -/
def dropPages (s : State) (fn : Nat) : State :=
  let f := fnSched s fn
  let again := fun (x : Shaper) => { x with due := true }
  let s := setFnSched s fn { f with sh0 := again f.sh0, sh1 := again f.sh1, pol := again f.pol }
  { s with
    cur := { s.cur with adm := fmErase s.cur.adm fn, expert := if fn = 0 then [] else s.cur.expert },
    car := { s.car with creates := fmErase s.car.creates fn },
    pal := { s.pal with waits := s.pal.waits.filter (fun w => w.fn != fn) },
    cus := { s.cus with unitFences := without s.cus.unitFences (2, fn) },
    hif := { s.hif with
      wc := s.hif.wc.filter (fun w => groupOwner s w.group != fn),
      latch := s.hif.latch.filter (fun kv => kv.1 / 2 ^ 26 != fn),
      held := s.hif.held.filter (fun kv => kv.1 / 2 ^ 26 != fn) } }

/-- The configuration space of a function at its reset values; its number on the bus, and whether it is enabled, stay. -/
def resetConfig (f : Fn) : Fn := { present := f.present, rid := f.rid, sinceFlr := true }

/-- FUNCTION_LEVEL_RESET of one function, from its start to its end. Locks that the function holds here or on other devices are
freed as abandoned (R507); Carillon memberships are lost (R431). -/
def resetFn (s : State) (fn : Nat) : State :=
  let s := setFn (loseWrites s (fun k => k == fn)) fn (fun f => { f with flr := true })
  let s := dropPages (dropUnits (dropConns (dropRings (dropQueues s fn) fn) fn) fn) fn
  let s := sendCur (abandonLocks (carMembersLost s fn) (isLocalOf fn)) none (.flr fn)
  setFn s fn resetConfig

/-! ### Virtual functions (R183, R203, R209) -/

/-- The number of virtual functions that a physical function's SR-IOV capability reports as TotalVFs (R203). -/
def totalVfs (s : State) (fn : Nat) : Nat :=
  let v := min 255 (1792 / max 1 s.hif.vfVectors)
  if s.hif.mode = 0 then (if fn = 0 then v else 0) else if fn = 0 then min 127 v else min 128 (v - 127)

/-- The virtual functions of a physical function by tenant number: 1 on, and 128 on for the companion. -/
def firstVf (fn : Nat) : Nat := if fn = 0 then 1 else 128

/-- VF Enable is cleared: the virtual functions are reset and gone. -/
def disableVfs (s : State) (fn : Nat) : State :=
  let vfs := (s.hif.fns.filter (fun kv => kv.2.present && kv.1 != 0 && kv.1 != 256
    && (if s.hif.mode = 1 then decide (kv.1 < 128) == (fn == 0) else fn == 0))).map (·.1)
  let s := vfs.foldl (fun s v => setFn (resetFn s v) v (fun f => { f with present := false })) s
  setFn s fn (fun f => { f with vfEnable := false })

/-- The virtual functions that VF Enable enables: NumVFs, as many as TotalVFs still allows, and without ARI none above function 7 (R182, R203). -/
def enabledVfs (s : State) (fn : Nat) : Nat :=
  min (min (fnOf s fn).numVfs (totalVfs s fn)) (if (fnOf s fn).ari then 255 else 7)

/-- VF Enable is set; the Requester IDs of the virtual functions follow the physical function's, and a function's PRESENT is 1 (R182, R183, R211). -/
def enableVfs (s : State) (fn : Nat) : State :=
  let f := fnOf s fn
  let n := enabledVfs s fn
  let s := (List.range n).foldl (fun s i =>
    setFn s (firstVf fn + i) (fun g => { g with present := true, rid := (f.rid + 1 + i) % 2 ^ 16 })) s
  setFn s fn (fun f => { f with vfEnable := true, numVfs := n })

/-- FUNCTION_LEVEL_RESET: that of a physical function clears its VF Enable. -/
def functionReset (s : State) (fn : Nat) : State :=
  if fn != 0 && !(fnOf s fn).present then s
  else
    let s := if fn = 0 || fn = 256 then disableVfs s fn else s
    resetFn s fn

/-! ### Configuration writes (R182, R185, R200, R203, R205) -/

/-- CONFIGURATION_REQUEST: the host's write reaches the function with its bus number, which makes its Requester ID. Setting Bus
Master Enable enables a function again that has been reset (R206). A virtual function has no base addresses of its own, and the companion function
implements only BAR0 (R183, R188). -/
def configure (s : State) (fn bus : Nat) (w : CfgWrite) : State :=
  let physical : Bool := fn == 0 || (fn == 256 && s.hif.mode == 1)
  if !physical && !(fnOf s fn).present then s
  else
    let s := if physical then setFn s fn (fun f => { f with rid := bus % 256 * 256 }) else s
    match w with
    | .busMaster on =>
      let s := setFn s fn (fun f => { f with bme := on, sinceFlr := f.sinceFlr && !on })
      if on then sendAllPending s fn else s
    | .vfEnable on =>
      if !physical || (fnOf s fn).vfEnable = on then s else if on then enableVfs s fn else disableVfs s fn
    | .numVfs n =>
      if !physical || (fnOf s fn).vfEnable || n > totalVfs s fn then s else setFn s fn (fun f => { f with numVfs := n })
    | .relaxedOrdering on => setFn s fn (fun f => { f with relaxed := on })
    | .completionTimeout code => setFn s fn (fun f => { f with cplTimeout := code })
    | .tag10 on => setFn s fn (fun f => { f with tag10 := on })
    | .functionMask on => sendAllPending (setFn s fn (fun f => { f with fnMask := on })) fn
    | .msixEnable on => if fn = 256 then s else sendAllPending (setFn s fn (fun f => { f with msixEn := on })) fn
    | .ari on => if !physical || (fnOf s fn).vfEnable then s else setFn s fn (fun f => { f with ari := on })
    | .maxPayload code => if code > 2 then s else setFn s fn (fun f => { f with maxPayload := code })
    | .maxRead code => if code > 5 then s else setFn s fn (fun f => { f with maxRead := code })
    | .aerClear mask => setFn s fn (fun f => { f with aer := f.aer - Nat.land f.aer mask })
    | .bar n vf base =>
      if physical && (n = 0 || ((n = 2 || n = 4) && (vf || fn = 0))) then
        setFn s fn (fun f => { f with bars := fmSet f.bars (if vf then 10 + n else n) base })
      else s

/-! ### The host link (R181, R184, R208, R617) -/

def setHalf (s : State) (half : Nat) (x : LinkHalf) : State :=
  { s with hif := if half = 0 then { s.hif with half0 := x } else { s.hif with half1 := x } }

/-- The mode has the half: half 1 is a link of its own in two-half mode only (R181). -/
def halfExists (s : State) (half : Nat) : Bool := half == 0 || (half == 1 && s.hif.mode == 1)

/-- HOST_LINK_TRAINED: the trained rate and width are reported; the half's physical function can be reached. -/
def hostLinkTrained (s : State) (half speed width : Nat) : State :=
  let most := if s.hif.mode = 1 then 8 else 16
  if !halfExists s half || speed < 1 || speed > 5 || !([1, 2, 4, 8, 16].contains width) || width > most then s
  else
    let s := setHalf s half { up := true, speed := speed, width := width, l1 := false }
    setFn s (if half = 0 then 0 else 256) (fun f => { f with present := true })

/-- LINK_HALF_RESET: link-down or hot reset of a half is a function-level reset of its functions (R184). -/
def linkHalfReset (s : State) (half : Nat) : State :=
  if !halfExists s half then s
  else functionReset (setHalf s half {}) (if half = 0 then 0 else 256)

/-- ASPM_L1: the link of a half enters or leaves L1. -/
def aspmL1 (s : State) (half : Nat) (enter : Bool) : State :=
  if halfExists s half && (linkHalf s half).up then setHalf s half { linkHalf s half with l1 := enter } else s

/-! ### Device reads, D3hot, stalled ejection -/

/-- Errors of device reads outside a range of bytes. -/
def clearError (a n : Nat) (r : Nat × Nat × CplError) : Bool := decide (r.2.1 < a) || decide (a + n ≤ r.1)

/-- HOST_READ_COMPLETION: what device reads of the bytes from an address on give from now on: the data that the host holds
there, or a failure (R2, R202). Writes under way come before what the host holds then. -/
def readCompletion (s : State) (a : Nat) (data : List Byte) (e : Option CplError) : State :=
  let s := landWrites 1 0 s.issued.length (landWrites 0 0 s.issued.length s)
  let n := max 1 data.length
  let keep := s.hostErr.filter (clearError a n)
  match e with
  | none => { s with host := memWrite s.host a data, hostErr := keep }
  | some e => { s with hostErr := keep ++ [(a, a + n - 1, e)] }

/-- D3HOT_ENTRY (R618). -/
def d3hotEntry (s : State) (fn : Nat) : State :=
  if fn = 0 || (fnOf s fn).present then setFn s fn (fun f => { f with d3hot := true, stallFrom := none }) else s

/-- D0_RETURN: service resumes with everything as it was (R618). -/
def d0Return (s : State) (fn : Nat) : State :=
  if (fnOf s fn).d3hot then sendAllPending (setFn s fn (fun f => { f with d3hot := false })) fn else s

/-- EJECT_STALL: ejection for a function has made no progress for 100 µs (R71, R186). -/
def ejectStall (s : State) (fn : Nat) : State :=
  match (fnOf s fn).stallFrom with
  | some t => if now s ≥ t + 100000 then fault (setFn s fn (fun f => { f with stallFrom := none })) 35 fn else s
  | none => s

end Sys2Proof.Machine
end

