-- ==== Sys2Proof/Machine/Twin.lean ====
section
/-! DEFINITION. The twin block: frames (R520, R521), pairing (R516 to R519), the mirror and its confirmation (R522, R523), causes
of death, stops and their confirmation (R524 to R527, R608), adoption and replay (R528 to R534), and the commands of R540. -/

namespace Sys2Proof.Machine

/-! ### The partner's mirror (R522, R523) -/

def modMirConn (m : Mirror) (c : Nat) (f : MirConn → MirConn) : Mirror :=
  match fmFind m.conns c with
  | some x => { m with conns := fmSet m.conns c (f x) }
  | none => m

def modMirQueue (m : Mirror) (q : Nat) (f : MirQueue → MirQueue) : Mirror :=
  match fmFind m.queues q with
  | some x => { m with queues := fmSet m.queues q (f x) }
  | none => m

/-- A connection's record: its sequence state goes on, unless it has been connected anew. -/
def mirConn (m : Mirror) (c : Nat) (cfg : ConnCfg) : Mirror :=
  match fmFind m.conns c with
  | some x =>
    if x.cfg.inc = cfg.inc && x.cfg.st != 2 then { m with conns := fmSet m.conns c { x with cfg := cfg } }
    else { m with conns := fmSet m.conns c { cfg := cfg } }
  | none => { m with conns := fmSet m.conns c { cfg := cfg } }

/-- The mirror with one more record. -/
def applyRec (m : Mirror) : MirrorRec → Mirror
  | .grant g t i => { m with grants := fmSet m.grants g (t, i) }
  | .grantGone g => { m with grants := fmErase m.grants g }
  | .queue q cfg start => { m with queues := fmSet m.queues q { cfg := cfg, door := start } }
  | .queueGone q => { m with
      queues := fmErase m.queues q, counted := m.counted.filter (fun x => x.1 != q), begun := m.begun.filter (fun x => x.1 != q) }
  | .doorbell q v => modMirQueue m q (fun x => { x with door := v })
  | .errSeq q n => modMirQueue m q (fun x => { x with errSeq := n })
  | .drain q reset => modMirQueue m q (fun x => { x with drain := some reset })
  | .stopped q st => modMirQueue m q (fun x => { x with st := st, drain := none })
  | .evRing fn ring cfg => { m with rings := fmSet m.rings (evKey fn ring) cfg }
  | .evRingGone fn ring => { m with rings := fmErase m.rings (evKey fn ring) }
  | .faultRing fn base log2 cons => { m with faultRings := fmSet m.faultRings fn (base, log2, cons) }
  | .faultRingGone fn => { m with faultRings := fmErase m.faultRings fn }
  | .region i cfg => { m with regions := fmSet m.regions i cfg }
  | .regionGone i _ => { m with regions := fmErase m.regions i }
  | .conn c cfg => mirConn m c cfg
  | .connGone c _ => { m with conns := fmErase m.conns c }
  | .sent c psn q idx n => modMirConn m c (fun x => { x with
      sent := x.sent ++ [(psn, q, idx, n)], seq := { x.seq with nextPsn := psn + 1 } })
  | .received c psn nak result => modMirConn m c (fun x =>
      let y := markPsn psn nak false x.seq
      { x with seq := (match result with | some h => keepResult psn h y | none => y) })
  | .connSeq c next e got naked results => modMirConn m c (fun x => { x with
      seq := { x.seq with nextPsn := next, e := e, got := got, naked := naked, results := results } })
  | .atomic c psn fn a old new => modMirConn m c (fun x => { x with
      atomics := x.atomics ++ [(psn, fn, a, old, new)], seq := markPsn psn false false x.seq })
  | .begun q idx => { m with begun := withMember m.begun (q, idx) }
  | .counterCfg n owner => { m with counters := fmSet m.counters n { owner := owner } }
  | .counterGone n => { m with counters := fmErase m.counters n }
  | .counter n v job => { m with
      counters := (match fmFind m.counters n with | some c => fmSet m.counters n { c with value := v } | none => m.counters),
      counted := (match job with | some j => withMember m.counted j | none => m.counted) }
  | .endpoint ep cfg => { m with eps := fmSet m.eps ep cfg, epSeqs := fmSet m.epSeqs ep 0 }
  | .endpointGone ep => { m with eps := fmErase m.eps ep, epSeqs := fmErase m.epSeqs ep }
  | .endpointSeq ep n => { m with epSeqs := fmSet m.epSeqs ep n }
  | .channel ch owner q prio => { m with channels := fmSet m.channels ch (owner, q, prio) }
  | .channelGone ch => { m with channels := fmErase m.channels ch }
  | .carillon h g rank q => { m with groups := fmSet m.groups h (g, rank, q) }
  | .carillonGone h => { m with groups := fmErase m.groups h }

/-- A record of the partner names a number of R518 that is live here. -/
def sharedClash (s : State) : MirrorRec → Bool
  | .grant g t i => (fmFind s.hif.grants g).isSome || s.hif.grants.any (fun kv => kv.2 == (t, i)) || !groupIdle s g
  | .queue q _ _ => !groupIdle s (q / 4)
  | .evRing fn ring _ => (fmFind s.rings.rings (evKey fn ring)).isSome
  | .faultRing fn _ _ _ => (faultRingOf s fn).isSome
  | .region i _ => (fmFind s.xlt.regions i).isSome
  | .conn c _ => ctxLive (ctxOf s c)
  | .counterCfg n _ => (fmFind s.ctx.counters n).isSome
  | .endpoint ep _ => (liveEp s ep).isSome
  | .channel ch _ _ _ => (chanOf s ch).st != .free
  | _ => false

/-! ### The copy (R517) -/

/-- A queue as the copy tells it: attributes, producer, error SEQ, state. -/
def queueRecs (q : Nat) (x : Queue) : List MirrorRec :=
  [.queue q (cfgOf x) x.last, .errSeq q x.errSeq] ++ (if x.st = .active then [] else [.stopped q (qstateCode x.st)])

def connRecs (c : Nat) (x : Ctx) : List MirrorRec :=
  .conn c (connCfgOf x) :: .connSeq c x.nextPsn x.e x.got x.naked x.results ::
  x.unans.filterMap (fun u => match gateRecord c u with | some (.sent c psn q idx n) => some (.sent c psn q idx n) | _ => none)

/-- The whole configuration of this device, as mirror records. -/
def wholeCopy (s : State) : List MirrorRec :=
  s.hif.grants.map (fun kv => .grant kv.1 kv.2.1 kv.2.2)
  ++ s.rings.rings.map (fun kv => .evRing (kv.1 / 64) (kv.1 % 64) {
      base := kv.2.base, log2 := kv.2.log2, vector := kv.2.vector, modNs := kv.2.modNs, consAddr := kv.2.consAddr,
      statusAddr := kv.2.statusAddr })
  ++ (s.rings.queues.filter (fun kv => kv.2.st != .disabled)).flatMap (fun kv => queueRecs kv.1 kv.2)
  ++ s.xlt.faultRings.map (fun kv => .faultRing kv.1 kv.2.base kv.2.log2 kv.2.cons)
  ++ s.xlt.regions.map (fun kv => .region kv.1 {
      gen := genOf s kv.1, fn := kv.2.fn, remote := kv.2.remote, ptRoot := kv.2.ptRoot, segs := kv.2.segs })
  ++ (s.ctx.ctxs.filter (fun kv => !kv.2.peer && ctxLive kv.2)).flatMap (fun kv => connRecs kv.1 kv.2)
  ++ s.ctx.counters.flatMap (fun kv => [.counterCfg kv.1 kv.2.owner, .counter kv.1 kv.2.value none])
  ++ (s.cat.eps.filter (fun kv => kv.2.live)).flatMap (fun kv =>
      [.endpoint kv.1 (epCfgOf kv.2), .endpointSeq kv.1 kv.2.seq])
  ++ (s.mov.chans.filter (fun kv => kv.2.st != .free)).map (fun kv => .channel kv.1 kv.2.owner kv.2.queue kv.2.prio)
  ++ (s.car.groups.filter (fun kv => kv.2.member && kv.2.st == .active)).map (fun kv =>
      .carillon kv.1 kv.2.id kv.2.rank kv.2.queue)

/-! ### Pairing (R516, R517) -/

/-- The copy of this side is confirmed once every record has been; with both sides, the twins are PAIRED. -/
def copyStep (s : State) : State :=
  if s.twn.state != .syncing then s
  else
    let s := if !s.twn.syncSent && s.twn.confirmed = s.twn.txSeq
      then queueFrame { s with twn := { s.twn with syncSent := true } } (frameOf s 4 0 none) else s
    if s.twn.syncSent && s.twn.syncGot then { s with twn := { s.twn with state := .paired } } else s

/-- The twin enters ALONE. -/
def enterAlone (s : State) : State :=
  { s with twn := { s.twn with state := .alone, syncSent := false, syncGot := false, rejoin := false } }

/-- The twin leaves DOWN, or PARTNER_DEAD for a partner that has come back: to SYNCING if every check holds that it can make
itself, and its partner has not failed its own; else to ALONE. -/
def tryPair (s : State) : State :=
  let t := s.twn
  let may : Bool := t.state == .down || (t.state == .partnerDead && t.rejoin)
  if !may || !s.cur.ready || !t.curReady || !bridgeReady s then s
  else if t.adoptEn && t.pAdopt && t.base != 0 && t.pState != 3 && s.mvt.selfValid && t.pCoord = some s.mvt.coord then
    let s := { s with twn := { t with
      state := .syncing, syncSent := false, syncGot := false, rejoin := false, mirror := {}, causeAt := none } }
    copyStep ((wholeCopy s).foldl sendRecord s)
  else enterAlone s

/-! ### Frames received (R520, R521) -/

/-- The partner's Curator is found READY: this one tells it the plane's fault map (R77). -/
def hearCurator (was : Bool) (s : State) : State := if !was && s.twn.curReady then tellMap s else s

/-- What every frame tells; it leaves the inbox (R517, R520). -/
def hearFrame (s : State) (f : TwinFrame) : State :=
  hearCurator s.twn.curReady { s with twn := { s.twn with
    inbox := s.twn.inbox.eraseP (fun x => x.kind == f.kind && x.seq == f.seq),
    curReady := s.twn.curReady || (f.curReady && !s.twn.fatalIn), pAdopt := f.adoptEn, pCoord := some f.coord, pState := f.state,
    confirmed := (f.ack + 1) % 2 ^ 32 } }

/-- A frame drives pairing; a partner in ALONE takes this twin there from SYNCING (R517). -/
def pairStep (s : State) : State :=
  let s := tryPair s
  if s.twn.state = .syncing && s.twn.pState = 3 then enterAlone s else copyStep s

/-- HELLO: the partner's serial number; a partner that was dead has come back (R517, R520). -/
def helloFrame (s : State) (f : TwinFrame) : State :=
  if !bridgeReady s || f.kind != 1 then s
  else
    let s := hearFrame s f
    pairStep { s with twn := { s.twn with
      pSerial := f.body % 2 ^ 64, rejoin := s.twn.rejoin || s.twn.state == .partnerDead } }

/-- HEARTBEAT (R521, R524). -/
def heartbeatFrame (s : State) (f : TwinFrame) : State :=
  if !bridgeReady s || f.kind != 2 then s
  else
    let s := bump (hearFrame s f) 390
    pairStep { s with twn := { s.twn with heard := now s } }

/-- The twin block writes a buffered record into the mirror area: which of its bytes it writes, and what, belongs to the device and is free
(R522; log entry 41). -/
def writeRecord (s : State) : State :=
  if s.twn.base = 0 then s
  else
    let (k, s) := draw s
    let (v, s) := draw s
    hostWrite s 0 (s.twn.base + 64 * (k % 2 ^ 20)) (leBytes 64 v)

/-- MIRROR: a record in order is buffered, which confirms it in the next frame sent (R520, R522). During the copy a number that
is live on both twins ends pairing (R517). -/
def mirrorFrame (s : State) (f : TwinFrame) : State :=
  if !bridgeReady s || f.kind != 3 then s
  else
    let s := pairStep (bump (hearFrame s f) 392)
    if f.seq != s.twn.rxSeq then s
    else
      let s := { s with twn := { s.twn with rxSeq := (s.twn.rxSeq + 1) % 2 ^ 32 } }
      match f.record with
      | none => s
      | some r =>
        if !onPartner s then s
        else if s.twn.state = .syncing && sharedClash s r then
          fault (markSet { enterAlone s with twn := { (enterAlone s).twn with conflict := true } } 6 0) 144 0
        else writeRecord { s with twn := { s.twn with mirror := applyRec s.twn.mirror r } }

/-- SYNC_DONE: the partner's side of the copy is confirmed (R517). -/
def syncDoneFrame (s : State) (f : TwinFrame) : State :=
  if !bridgeReady s || f.kind != 4 then s
  else
    let s := tryPair (hearFrame s f)
    pairStep { s with twn := { s.twn with syncGot := s.twn.state == .syncing || s.twn.syncGot } }

/-- HEARTBEAT_SEND (R521). -/
def heartbeatSend (s : State) : State :=
  if bridgeReady s then bump (queueFrame s (frameOf s 2 0 none)) 389 else s

/-! ### Gated events (R523) -/

/-- A gated event takes place. -/
def ungate (s : State) : Gated → State
  | .packet port fn p =>
    let i := idsOf p.tt
    if (ctxOf s i.srcCtx).unans.any (fun u => u.psn == i.psn && !u.skip) then inject s port fn p else s
  | .reply port fn p c psn nak =>
    if (ctxOf s c).inFlight.contains psn then pushReply (markReceived s c psn nak false) port fn p else s
  | .ack c a =>
    if (ctxOf s c).inFlight.contains a.psn then
      modCtx (markReceived s c a.psn false a.early) c (fun x => { x with acks := x.acks ++ [a] })
    else s
  | .counter fn n v set job =>
    let s := applyCounter s fn n v set
    (match job with | some (q, idx) => counterDone s q idx | none => s)
  | .errRec q e => recordNow s q e
  | .apply p old hs =>
    (match p.tt with
      | .conn h =>
        let s := modCtx s h.dstCtx (fun x => { x with inFlight := without x.inFlight h.psn })
        let ps := hs.map (fun x => { local_ := x.1, addr := x.2.1, len := x.2.2 : Piece })
        if ctxCheck s p (connIds h) != .classify then s
        else if h.ttype = 0x04 then writeAtomic p h ps old s else storeReserved p h ps s
      | _ => s)
  | .mover ch => modChan s ch (fun x => { x with gated := false })

/-- The gated events that `p` accepts take place, in their order; what waited for the granules or the accesses among them goes on (R301, R325). -/
def ungateThose (s : State) (p : Nat → Bool) : State :=
  let out := s.twn.gate.filter (fun g => p g.1)
  let s := { s with twn := { s.twn with gate := s.twn.gate.filter (fun g => !p g.1) } }
  let s := out.foldl (fun s g => ungate s g.2) s
  if out.any (fun g => match g.2 with | .apply _ _ _ => true | _ => false) then accessesDone (runCopies s) else s

/-- MIRROR_CONFIRM: the partner has confirmed the record `seq`, and with it every record before. -/
def mirrorConfirm (s : State) (seq : Nat) : State :=
  let upTo := fun n => decide ((seq % 2 ^ 32 + 2 ^ 32 - n) % 2 ^ 32 < 2 ^ 31)
  if (s.twn.confirmed + 2 ^ 32 - 1 - seq % 2 ^ 32) % 2 ^ 32 < 2 ^ 31 then ungateThose s upTo else s

/-- What is gated waits only while the twins are PAIRED. -/
def ungateAll (s : State) : State := if isPaired s || s.twn.gate = [] then s else ungateThose s (fun _ => true)

/-! ### Adoption (R518, R519, R528 to R531) -/

/-- The survivor's own function of a tenant can be used (R519). -/
def canAdopt (s : State) (fn : Nat) : Bool := (fn == 0 || (fnOf s fn).present) && (fnOf s fn).bme

/-- Grants, event rings and page-fault rings. The next SEQ of these rings is not mirrored, and the spec states none. -/
def adoptRings (s : State) (m : Mirror) : State :=
  let s := m.grants.foldl (fun s kv => { s with hif := { s.hif with grants := fmSet s.hif.grants kv.1 kv.2 } }) s
  let s := m.rings.foldl (fun s kv =>
    let (n, s) := draw s
    setRing s kv.1 {
      base := kv.2.base, log2 := kv.2.log2, vector := kv.2.vector, modNs := kv.2.modNs, consAddr := kv.2.consAddr,
      statusAddr := kv.2.statusAddr, seq := BitVec.ofNat 32 n }) s
  m.faultRings.foldl (fun s kv =>
    let (n, s) := draw s
    setFaultRing s kv.1 { base := kv.2.1, log2 := kv.2.2.1, cons := kv.2.2.2, seq := BitVec.ofNat 32 n }) s

/-- Regions keep their keys; counters, endpoints and channels their numbers (R530). -/
def adoptUnits (s : State) (m : Mirror) : State :=
  let s := m.regions.foldl (fun s kv => { s with xlt := { s.xlt with
    gens := fmSet s.xlt.gens kv.1 kv.2.gen,
    regions := fmSet s.xlt.regions kv.1 {
      fn := kv.2.fn, remote := kv.2.remote, ptRoot := kv.2.ptRoot, segs := kv.2.segs, adopted := true } } }) s
  let s := m.counters.foldl (fun s kv => { s with ctx := { s.ctx with counters := fmSet s.ctx.counters kv.1 kv.2 } }) s
  let s := m.eps.foldl (fun s kv => setEp s kv.1 {
    owner := kv.2.owner, log2 := kv.2.log2, base := kv.2.base, cons := kv.2.cons, seq := fmGet m.epSeqs kv.1 0,
    arrival := kv.2.arrival, maxUnexp := kv.2.maxUnexp, maxEagerKib := kv.2.maxEagerKib, maxPosted := kv.2.maxPosted }) s
  m.channels.foldl (fun s kv => setChan s kv.1 { st := .idle, owner := kv.2.1, queue := kv.2.2.1, prio := kv.2.2.2 }) s

/-- The partner's connections in CONNECTED or ERROR, with their sequence state (R529). -/
def adoptConns (s : State) (m : Mirror) : State :=
  let l := m.conns.filter (fun kv => kv.2.cfg.st == 3 || kv.2.cfg.st == 4)
  let s := l.foldl (fun s kv =>
    let g := kv.2.cfg
    setCtx s kv.1 { kv.2.seq with
      st := if g.st = 3 then .connected else .error, fn := g.fn, inc := g.inc, reason := g.reason, pPlane := g.plane,
      pCoord := g.coord, pCtx := g.ctx, pInc := g.peerInc, retryUs := g.retryUs, retryMax := g.retryMax, used := now s,
      replay := kv.2.sent, rewrites := kv.2.atomics }) s
  { s with twn := { s.twn with adoptedConns := s.twn.adoptedConns + l.length } }

/-- Re-aim notices go to the devices that the mirrored connections lead to; peer slots are not mirrored (R522, R533). -/
def reAimPeers (s : State) (m : Mirror) : State :=
  ((m.conns.filter (fun kv => kv.2.cfg.st == 3 || kv.2.cfg.st == 4)).map (fun kv => kv.2.cfg.coord)).eraseDups.foldl
    (fun s c => sendCur s (some c) (.reAim s.mvt.coord (1 - s.brd.straps.plane))) s

/-- A device has failed over to its twin: the reservations that it held are cleared, and what was counted of it (R330, R332). -/
def holderFailed (s : State) (coord plane : Nat) : State :=
  { s with pal := { s.pal with
    rsvs := s.pal.rsvs.filter (fun r => !(r.coord == coord && r.plane == plane)),
    fails := s.pal.fails.filter (fun f => !(f.coord == coord && f.plane == plane)) } }

/-- The partner's queues are adopted once their words have been read; those whose tenant's function cannot be used here are
counted (R519). -/
def startAdoption (s : State) : State :=
  let m := s.twn.mirror
  let s := holderFailed s s.mvt.coord (1 - s.brd.straps.plane)
  let s := reAimPeers (adoptConns (adoptUnits (adoptRings s m) m) m) m
  let mine := m.queues.filter (fun kv => canAdopt s kv.2.cfg.fn)
  { s with twn := { s.twn with
    adopting := mine.map (·.1), notAdopted := s.twn.notAdopted + (m.queues.length - mine.length), adopted := mine.isEmpty } }

/-- The mirror is complete: the partner was PAIRED when it died. -/
def mirrorComplete (s : State) : Bool := s.twn.syncSent && s.twn.syncGot

/-- A job of an adopted queue whose first entry has a STATUS byte: it is done; the slot at the mirrored next SEQ that lacks its
record gets it. The spec states no details for that record (R528). -/
def adoptFailed (s : State) (q : Nat) (j : Job) (status : Nat) (written : Bool) : State :=
  if written then modJob s q j.idx (fun j => { j with st := .done, status := status })
  else
    let s := modJob s q j.idx (fun j => { j with st := .failed, status := status })
    let (d0, s) := draw s
    let (d1, s) := draw s
    recordNow s q {
      idx := j.idx, status := status, opcode := j.opcode, entries := j.entries.length, cookie := j.cookie, time := stamp s,
      isLocal := localTime s, detail0 := d0, detail1 := d1 }

/-- The fate of one job of an adopted queue (R528, R438). `slot` is the error record at the mirrored next SEQ. -/
def adoptJob (s : State) (q : Nat) (j : Job) (status : Nat) (slot : Option Nat) : State :=
  let m := s.twn.mirror
  let s := appendJob s q j
  if status != 0 then adoptFailed s q j status (slot == some j.idx.toNat)
  else if m.counted.contains (q, j.idx) then modJob s q j.idx (fun j => { j with st := .done })
  else if (j.opcode = 0x30 || j.opcode = 0x50 || j.opcode = 0x51) && m.begun.contains (q, j.idx) then endJob s q j.idx stAborted 0 2
  else if j.opcode = 0x40 && (fmFind m.groups (j.context % 512)).isSome then endJob s q j.idx stMemberLost 0 3
  else if j.malformed then rejectJob s q j
  else if j.arm then armJob s q j
  else s

/-- The jobs from H up to LAST, in index order. -/
def replayJobs (q : Nat) (slot : Option Nat) : Nat → State → State
  | 0, s => s
  | n + 1, s =>
    match groupNext s q with
    | (s, .waits) => s
    | (s, .failed l) => failedFetch s q l
    | (s, .job l broken) =>
      let j := newJob s q l broken
      replayJobs q slot n (adoptJob s q j (ebits (l.headD 0) 8 8) slot)

/-- The jobs from H up to LAST of a queue that was DRAINING: those without a status are ABORTED (R229, R528). -/
def drainAdopted (s : State) (q : Nat) (fn : Nat) : Nat → State
  | 0 => s
  | n + 1 =>
    let s := drainAdopted s q fn n
    match groupNext s q with
    | (s, .job l _) =>
      let x := queueOf s q
      let e := l.headD 0
      let s := if ebits e 8 8 = 0 then hostWrite s fn (entryAddr x x.cons + 1) [BitVec.ofNat 8 stAborted] else s
      let s := if ebits e 20 1 = 1 then postEvent s fn x.evr 0x01 q x.cons.toNat else s
      modQueue s q (fun x => { x with cons := x.cons + BitVec.ofNat 32 l.length })
    | (s, _) => s

/-- The index that the error record at a SEQ names, if the slot holds that record (R225, R528). -/
def errSlot (s : State) (x : Queue) (seq : Idx) : State × Option Nat :=
  match hostRead s x.fn (slotOf x.errBase x.errLog2 64 seq) 16 with
  | (s, some l) => (s, if numAt l 0 4 = seq.toNat then some (numAt l 8 4) else none)
  | (s, none) => (s, none)

/-- The queue that the mirror describes, from the head index H, with LAST. -/
def adoptedQueue (m : MirQueue) (h last : Idx) : Queue :=
  let c := m.cfg
  { st := .active, strict := c.strict, supervisor := c.supervisor, fn := c.fn, evr := c.evr, base := c.base, log2 := c.log2,
    shadow := c.shadow, headAddr := c.headAddr, errBase := c.errBase, errLog2 := c.errLog2, errCons := c.errCons, last := last,
    cons := h, head := h, errSeq := m.errSeq, adopted := true }

/-- Step 2 to 4 of R528 for one queue, its head index H and LAST being known. -/
def recreate (s : State) (q : Nat) (m : MirQueue) (h last : Idx) : State :=
  let x := adoptedQueue m h last
  let fn := x.fn
  let n := (last - h).toNat
  let s := setQueue s q x
  match m.drain with
  | some reset =>
    let s := hostWrite (drainAdopted s q fn n) fn x.headAddr (leBytes 4 last.toNat)
    let s := setQueue s q (if reset then { x with cons := last, head := last } else {})
    postEvent s fn x.evr 0x09 q h.toNat
  | none =>
    let (s, slot) := errSlot s x m.errSeq
    let s := if slot.isSome then modQueue s q (fun x => { x with errSeq := x.errSeq + 1 }) else s
    let s := replayJobs q slot n s
    let s := postEvent s fn x.evr 0x09 q h.toNat
    if m.st = 2 || m.st = 3 then modQueue s q (fun x => { x with st := if m.st = 2 then .blocked else .stopped }) else s

/-- The last queue has been adopted: ADOPTED is set, and TWIN_ADOPT ends (R538, R541). -/
def adoptionOver (s : State) : State :=
  if s.twn.adopting = [] then
    wakeCmds { s with twn := { s.twn with adopted := true } } (fun _ w => w == .adopt) stOk []
  else s

/-- LAST of an adopted queue with head index `h`: its shadow producer word, read as `p`, where that is within the ring, else the mirrored
doorbell (R528). -/
def lastOf (m : MirQueue) (h : Idx) : Option (List Byte) → Idx
  | some l => if (BitVec.ofNat 32 (leNat l) - h).toNat ≤ 2 ^ m.cfg.log2 then BitVec.ofNat 32 (leNat l) else m.door
  | none => m.door

/-- ADOPT_QUEUE: the head-index word and the shadow producer word of a queue of the partner have been read (R528). A queue whose
head-index word cannot be read is not adopted. -/
def adoptQueue (s : State) (q : Nat) : State :=
  if !s.twn.adopting.contains q then s
  else
    let s := { s with twn := { s.twn with adopting := without s.twn.adopting q } }
    match fmFind s.twn.mirror.queues q with
    | none => adoptionOver s
    | some m =>
      let c := m.cfg
      let (s, h) := hostRead s c.fn c.headAddr 4
      let (s, p) := hostRead s c.fn c.shadow 4
      match h with
      | none => adoptionOver { s with twn := { s.twn with notAdopted := s.twn.notAdopted + 1 } }
      | some h =>
        let h : Idx := BitVec.ofNat 32 (leNat h)
        let s := recreate s q m h (lastOf m h p)
        adoptionOver { s with twn := { s.twn with adoptedQueues := s.twn.adoptedQueues + 1 } }

/-- SHADOW_WORD_POLL: until its first doorbell, an adopted queue's shadow word is read and accepted (R534). -/
def shadowPoll (s : State) (q : Nat) : State :=
  let x := queueOf s q
  if !x.adopted || x.st = .disabled || x.st = .draining then s
  else match hostRead s x.fn x.shadow 4 with
    | (s, some l) => acceptDoorbell s q (BitVec.ofNat 32 (leNat l))
    | (s, none) => s

/-! ### Death (R524 to R527, R608) -/

/-- The bridge is fenced, and nothing more is heard. -/
def fenceBridge (s : State) : State := { s with mvt := { s.mvt with linkFence := withMember s.mvt.linkFence 14 } }

/-- The partner is declared dead (R527). -/
def declareDead (s : State) : State :=
  let s := fault { s with twn := { s.twn with
    state := .partnerDead, deathTs := stamp s, adopted := false, causeAt := none, rejoin := false } } 145 s.twn.cause
  abandonLocks (fenceBridge s) (isTwinOf none)

/-- The partner is dead, and its stop is certain: it is adopted (R527). -/
def declareAndAdopt (s : State) : State := startAdoption (declareDead s)

/-- The stop was not, or cannot be, confirmed: nothing is adopted until TWIN_ADOPT (R526). -/
def stopUnconfirmed (s : State) : State := fault (declareDead s) 146 0

/-- TWIN_STOP_OUT is asserted (R525). -/
def assertStop (s : State) : State :=
  { s with twn := { s.twn with stopOut := true, stopAt := some (now s), fatalSeen := none } }

/-- A cause of death is detected in SYNCING or ALONE: nothing is adopted (R524). -/
def dieAlone (s : State) (cause : Nat) : State :=
  fenceBridge { s with twn := { s.twn with
    state := .partnerDead, cause := cause, adopted := false, syncSent := false, syncGot := false, rejoin := false } }

/-- A cause of death 1 or 2 is detected (R524 to R526). -/
def bridgeCause (s : State) (cause : Nat) : State :=
  match s.twn.state with
  | .syncing => dieAlone s cause
  | .alone => dieAlone s cause
  | .paired =>
    if s.twn.causeAt.isSome then s
    else
      let s := { s with twn := { s.twn with cause := cause, causeAt := some (now s) } }
      if !s.twn.stopEn then stopUnconfirmed s else if s.brd.straps.plane = 0 then assertStop s else s
  | .down => s
  | .partnerDead => s

/-- What a bridge that was lost in this step means for pairing: 2 a cause of death; 0 an administrative fence, after
which the twin is DOWN; 1 a bridge that merely left READY (R524). -/
def bridgeReact (s : State) : State :=
  match s.twn.bridgeLost with
  | none => s
  | some why =>
    let s := { s with twn := { s.twn with
      bridgeLost := none, txSeq := 0, rxSeq := 0, confirmed := 0, outbox := [], inbox := [], curReady := false, rejoin := false } }
    if why = 2 then bridgeCause s 2
    else if why != 0 && s.twn.state = .partnerDead then s
    else if why = 0 || s.twn.state = .alone then
      { s with twn := { s.twn with state := .down, causeAt := none, syncSent := false, syncGot := false } }
    else s

/-- HEARTBEAT_TIMEOUT: no heartbeat for 4 µs (R524). -/
def heartbeatTimeout (s : State) : State := if now s ≥ s.twn.heard + 4000 then bridgeCause s 1 else s

/-- FATAL_IN is seen asserted; while the partner is being stopped the tick is kept (R525, R608). -/
def seeFatal (s : State) : State :=
  { s with twn := { s.twn with
    fatalIn := true, fatalSeen := if s.twn.stopOut then some (s.twn.fatalSeen.getD (now s)) else s.twn.fatalSeen } }

/-- FATAL_IN is asserted: a cause of death, and the confirmation of a stop (R524, R525). -/
def fatalIn (s : State) : State :=
  let s := seeFatal s
  match s.twn.state with
  | .syncing => dieAlone s 3
  | .alone => dieAlone s 3
  | .paired =>
    declareAndAdopt (if s.twn.causeAt.isSome then s else { s with twn := { s.twn with cause := 3 } })
  | .down => s
  | .partnerDead => s

/-- FATAL_IN_DEASSERTED: the partner's Curator has become READY (R517, R608). -/
def fatalInOff (s : State) : State := { s with twn := { s.twn with fatalIn := false } }

/-- TWIN_STOP_DELAY_EXPIRY: the plane 1 twin stops its partner 5 µs after the detection (R525). -/
def stopDelayExpiry (s : State) : State :=
  match s.twn.causeAt with
  | some t =>
    if isPaired s && s.brd.straps.plane = 1 && s.twn.stopEn && !s.twn.stopOut && now s ≥ t + 5000 then assertStop s else s
  | none => s

/-- STOP_CONFIRM_TIMEOUT: FATAL_IN has not come within 5 µs of the stop (R526). -/
def stopConfirmTimeout (s : State) : State :=
  match s.twn.stopAt with
  | some t => if isPaired s && s.twn.stopOut && !s.twn.fatalIn && now s ≥ t + 5000 then stopUnconfirmed s else s
  | none => s

/-- STOP_OUT_RELEASE: 10 µs after FATAL_IN was seen asserted (R608). -/
def stopOutRelease (s : State) : State :=
  match s.twn.fatalSeen with
  | some t =>
    if s.twn.stopOut && now s ≥ t + 10000 then
      { s with twn := { s.twn with stopOut := false, stopAt := none, fatalSeen := none } } else s
  | none => s

/-- TWIN_STOP_IN is asserted: a fatal source; a level that stays asserted raises it once (R525, R608). -/
def stopIn (s : State) : State :=
  if s.twn.stopIn then s else fault { s with twn := { s.twn with stopIn := true } } 147 0

/-- TWIN_STOP_IN_DEASSERTED (R608). -/
def stopInOff (s : State) : State := { s with twn := { s.twn with stopIn := false } }

/-! ### The peers of a failed device (R533) -/

/-- Connections, and peer slots, that lead to a device of a plane. -/
def connsTo (s : State) (coord plane : Nat) : List Nat :=
  (s.ctx.ctxs.filter (fun kv => !kv.2.peer && (kv.2.st == .connected || kv.2.st == .error)
    && kv.2.pCoord == coord && kv.2.pPlane == plane)).map (·.1)
def slotsTo (s : State) (coord plane : Nat) : List Nat :=
  (s.ctx.ctxs.filter (fun kv => kv.2.peer && kv.2.st != .free && kv.2.st != .quarantine
    && kv.2.pCoord == coord && kv.2.pPlane == plane)).map (·.1)

/-- A connection leads to the same coordinate on the other plane from now on; what it has unanswered is sent again, at once or when its new peer
is not fenced (R358, R533). -/
def reAim (failed : Nat) (s : State) (c : Nat) : State :=
  modCtx s c (fun x => { x with
    pPlane := 1 - failed, heldFrom := if x.st == .connected then some (x.heldFrom.getD (now s)) else x.heldFrom })

/-- RE_AIM_NOTICE: the device at a coordinate has failed on one plane; its twin on the other has adopted it. Connections lead to
the survivor; the peer slot goes to QUARANTINE, and SENDs that wait on it end with DEST_FENCED. -/
def reAimNotice (s : State) (coord failed : Nat) : State :=
  let s := (connsTo s coord failed).foldl (reAim failed) (holderFailed s coord failed)
  (slotsTo s coord failed).foldl (fun s c => quarantine (failContext s c stDestFenced none) c) s

/-! ### Registers and commands (R537 to R541) -/

def twnCfg (s : State) : Nat := place [(0, b2n s.twn.adoptEn), (1, b2n s.twn.stopEn)]
def twnStatus (s : State) : Nat :=
  place [(0, twinCode s.twn.state), (3, s.twn.cause), (5, b2n s.twn.fatalIn), (6, b2n s.twn.stopOut), (7, b2n s.twn.adopted),
    (8, b2n s.twn.conflict), (16, min ((now s - s.twn.heard) / 1000) 65535)]
def twnDeathTs (s : State) : Nat := s.twn.deathTs
def twnAdoptCount (s : State) : Nat := place [(0, s.twn.adoptedQueues), (19, s.twn.adoptedConns), (35, s.twn.notAdopted)]

/-- TWIN_QUERY. -/
def twinQuery (_ : Nat) (c : Cmd) (s : State) : State × CmdOut :=
  if !zeroAt c.params 0 8 then (s, only stMalformed)
  else (s, .done stOk ([twnStatus s, twnDeathTs s, twnAdoptCount s, twnCfg s, s.twn.pSerial].flatMap (leBytes 8)) 0)

/-- TWIN_CONFIG: the state is checked, then expert mode (R263, R541). -/
def twinConfig (_ : Nat) (c : Cmd) (s : State) : State × CmdOut :=
  let p := c.params
  let vm := byteAt p 2
  let base := numAt p 8 8
  if vm > 7 || !zeroAt p 3 5 || (bitAt vm 0 && byteAt p 0 > 1) || (bitAt vm 1 && byteAt p 1 > 1) || (bitAt vm 2 && base % 2 ^ 21 != 0)
  then (s, only stMalformed)
  else if vm = 0 then (s, only stOk)
  else if onPartner s then (s, only stNoResource)
  else if isExpert s 0x1C then (s, only stProtection)
  else ({ s with twn := { s.twn with
    adoptEn := pick vm 0 (byteAt p 0 = 1) s.twn.adoptEn, stopEn := pick vm 1 (byteAt p 1 = 1) s.twn.stopEn,
    base := pick vm 2 base s.twn.base } }, only stOk)

/-- TWIN_BRIDGE_RETRAIN: while the bridge is administratively fenced nothing trains, and the command waits. -/
def twinRetrain (_ : Nat) (c : Cmd) (s : State) : State × CmdOut :=
  if !zeroAt c.params 0 8 then (s, only stMalformed)
  else if onPartner s then (s, only stNoResource)
  else if s.mvt.adminFence.contains 14 then (s, .wait .trainBridge)
  else (linkLost s 14 1, .wait .trainBridge)

/-- TWIN_ADOPT. -/
def twinAdopt (_ : Nat) (c : Cmd) (s : State) : State × CmdOut :=
  if !zeroAt c.params 0 8 then (s, only stMalformed)
  else if s.twn.state != .partnerDead || s.twn.adopted || s.twn.adopting != [] || !mirrorComplete s then (s, only stNoResource)
  else
    let s := startAdoption s
    (s, if s.twn.adopted then only stOk else .wait .adopt)

end Sys2Proof.Machine
end

