-- ==== Sys2Proof/Machine/Registrar.lean ====
section
/-! DEFINITION. The Registrar: its records, the tap, energy, period boundaries, sealing and tamper, and the readout commands
(chapter 20). -/

namespace Sys2Proof.Machine

/-! ### Records (R587 to R591) -/

/-- Bytes 0 to 47 of a record (R589). -/
def recHead (r : RegRec) : List Byte :=
  leBytes 48 (place [(0, r.seq), (32, r.session), (64, r.time % 2 ^ 64), (128, r.type), (136, r.tenant), (144, r.flags),
    (160, r.v0 % 2 ^ 64), (224, r.v1 % 2 ^ 64), (288, r.v2 % 2 ^ 64), (352, r.v3 % 2 ^ 32)])

/-- A record as its 64 bytes; byte 48 is the first byte of the tag (R589, R591). -/
def recBytes (r : RegRec) : List Byte := recHead r ++ leBytes 16 r.tag

/-- The record of a slot: as it was written, or as it is at Registrar power-on (R587). -/
def regSlot (s : State) (slot : Nat) : RegRec :=
  fmGet s.rgs.ring slot { seq := (slot + 2 ^ 32 - 16384) % 2 ^ 32 }

/-- The flags of the period that is running, but for TAMPER (R589). -/
def periodFlags (g : Registrar) : Nat :=
  place [(1, b2n g.gap), (2, b2n g.stop), (3, b2n (!g.synced)), (4, b2n g.sensor), (5, b2n g.range)]

/-- Write one record, with its SEQ and its tag under K_REG; TAMPER is set in each once the flag is (R587, R589, R591). -/
def regWrite (g : Registrar) (type tenant time flags v0 v1 v2 : Nat) : Registrar :=
  let r : RegRec := {
    seq := g.nextSeq, session := g.session, time := time % 2 ^ 64, type := type, tenant := tenant,
    flags := b2n g.store.tamper + flags,
    v0 := v0 % 2 ^ 64, v1 := v1 % 2 ^ 64, v2 := v2 % 2 ^ 64 }
  let r := { r with tag := recordTag g.store.key (recHead r) }
  { g with ring := fmSet g.ring (g.nextSeq % 16384) r, nextSeq := (g.nextSeq + 1) % 2 ^ 32 }

/-- Write one EVENT record (R590). -/
def regEvent (g : Registrar) (code detail : Nat) : Registrar := regWrite g 4 0 g.time (periodFlags g) code detail 0

/-- RGS_STATUS.RUNNING: the image runs (R595). -/
def regRunning (g : Registrar) : Bool := g.on && !g.halted

/-! ### Power-on (R580, R587, R593) -/

/-- The tamper flag is set for a cause, and its record written; the first cause stays (R593, R595). -/
def regTamper (g : Registrar) (cause : Nat) : Registrar :=
  regEvent { g with
    store := { g.store with tamper := true, cause := if g.store.cause = 0 then cause else g.store.cause } } 2 cause

/-- The Registrar as its boot leaves it in a new session, before the POWER_ON record; halted where the image's digest is not the sealed
one (R580, R593, R595). -/
def bootedRegistrar (st : RegStore) (session : Nat) (halted : Bool) : Registrar :=
  { store := st, on := true, halted := halted, session := session, fw := if halted then 0 else st.imageVersion,
    digest := st.imageDigest, sealSeen := st.sealDigest }

/-- REGISTRAR_POWER_ON: a new session; the image runs unless it differs from SEAL_DIGEST in a device whose seal is blown. -/
def regPowerOn (s : State) : State :=
  let (n, s) := draw s
  let st := s.rgs.store
  let bad := st.blown && st.imageDigest != st.sealDigest
  let g := bootedRegistrar st (n % 2 ^ 32) bad
  let g := regEvent g 1 (st.imageVersion % 2 ^ 16)
  { s with rgs := if bad then regTamper g 2 else g }

/-! ### The Registrar's time and its periods (R581, R588, R589) -/

/-- A period ends at `t`; the next begins with no peak and no flags but for what still holds. -/
def closePeriod (t : Nat) (g : Registrar) : Registrar :=
  { g with
    boundary := t,
    ended := g.ended ++ [{ time := t, core := g.core, sram := g.sram, peak := g.peak, flags := periodFlags g, traffic := g.traffic }],
    peak := 0, gap := false, stop := g.stopped, sensor := g.bad != 0, range := false }

/-- The latest period boundary at or before `t`; 0 while there is no PERIOD (R588). -/
def lastBoundary (g : Registrar) (t : Nat) : Nat :=
  if g.store.period = 0 then 0 else t / (g.store.period * 4000000000) * (g.store.period * 4000000000)

/-- The time leaps, by more than 10 ms, as the device's first synchronisation or its reset make it (log entry 86). -/
def leaps (g : Registrar) (t : Nat) : Bool := decide (40000000 < (t - g.time) + (g.time - t))

/-- The time becomes `t`. A period boundary that it reaches or passes ends a period; a leap passes none. -/
def setClock (t : Nat) (g : Registrar) : Registrar :=
  if leaps g t then { g with time := t, sampleAt := t, boundary := lastBoundary g t }
  else if max g.boundary g.time < lastBoundary g t then { closePeriod (lastBoundary g t) g with time := t }
  else { g with time := t }

/-! ### The tap (R581, R588) -/

def trafficAdd (a b : Traffic) : Traffic := {
  injPkts := (a.injPkts + b.injPkts) % 2 ^ 64, injBytes := (a.injBytes + b.injBytes) % 2 ^ 64,
  dlvPkts := (a.dlvPkts + b.dlvPkts) % 2 ^ 64, dlvBytes := (a.dlvBytes + b.dlvBytes) % 2 ^ 64 }

/-- The counts with a frame's increments. -/
def addFrame (incs t : FMap Traffic) : FMap Traffic := incs.foldl (fun t kv => fmModify t kv.1 {} (trafficAdd · kv.2)) t

/-- The Registrar receives a frame: its increments, stamp, SYNCED and number; `bad` is a bad CRC (R581). A frame after a stop
ends it (R590). It counts in the period that contains its time-stamp, if that has no records yet (R588). -/
def regFrame (g : Registrar) (bad : Bool) (number stamp : Nat) (synced : Bool) (incs : FMap Traffic) : Registrar :=
  if !regRunning g then g
  else
    let g := { g with quiet := 0 }
    if bad then { g with gap := true }
    else
      let skip := match g.lastFrame with
        | some n => (n + 1) % 2 ^ 32 != number
        | none => false
      let was := g.stopped
      let g := setClock stamp g
      let g := { g with
        traffic := addFrame incs g.traffic,
        ended := g.ended.map (fun e => if stamp < e.time then { e with traffic := addFrame incs e.traffic } else e),
        synced := synced, lastFrame := some number, gap := g.gap || skip, good := 0, stopped := false }
      if was then regEvent g 4 number else g

/-- TAP_FRAME: the tap sends its frame of this 1 µs; it may be lost, or arrive with a bad CRC (R581). In reset the tap sends
nothing. -/
def tapFrame (s : State) (lost bad : Bool) : State :=
  if s.inReset then s
  else
    let t := s.tap
    let s := { s with tap := { number := (t.number + 1) % 2 ^ 32, incs := [] } }
    if lost then s else { s with rgs := regFrame s.rgs bad t.number (stamp s) s.rgl.synced t.incs }

/-- TAP_STOPPED: no frame has come for 1 ms, which is 100 energy samples (R581, R585). -/
def tapStopped (s : State) : State :=
  let g := s.rgs
  if regRunning g && g.quiet ≥ 100 && !g.stopped then
    { s with rgs := regEvent { g with stopped := true, stop := true } 3 (g.lastFrame.getD 0) }
  else s

/-! ### Energy (R585, R586) -/

/-- A rail's energy after one more sample of 10 µs, in units of 10 pJ, cumulative modulo 2^64 µJ (R585, R589). -/
def railEnergy (sum gain offset mv ma : Nat) : Nat :=
  (sum + Config.railPower gain offset mv ma) % (2 ^ 64 * 100000)

/-- The energies, peak and range flag after one more sample (R585, R586). -/
def meters (g : Registrar) (e : EnergySample) : Registrar :=
  { g with
    core := railEnergy g.core g.store.coreGain g.store.coreOffset e.coreMv e.coreMa,
    sram := railEnergy g.sram g.store.sramGain g.store.sramOffset e.sramMv e.sramMa,
    peak := max g.peak e.packageMw, range := g.range || !e.inRange || e.packageMw < 10000 || e.packageMw > 170000,
    sampled := true, quiet := min (g.quiet + 1) 100, good := min (g.good + 1) 100 }

/-- A sample is 10 µs after the last by the Registrar's own clock (R581, R585). -/
def sampleClock (g : Registrar) : Registrar :=
  let t := max g.time (g.sampleAt + 40000)
  setClock t { g with sampleAt := t }

/-- ENERGY_SAMPLE: one of the 100,000 samples per second (R585), with the flags of R586 and the event of R590; the Registrar's
own clock has advanced by 10 µs (R581). -/
def energySample (s : State) (e : EnergySample) : State :=
  let g := s.rgs
  if !regRunning g then s
  else
    let bad := b2n (!e.coreOk) + 2 * b2n (!e.sramOk)
    let fresh := (!e.coreOk && !bitAt g.bad 0) || (!e.sramOk && !bitAt g.bad 1)
    let g := sampleClock { meters g e with sensor := g.sensor || bad != 0, bad := bad }
    { s with rgs := if fresh then regEvent g 5 bad else g }

/-! ### Period boundaries (R588, R589) -/

/-- The INJECTED and DELIVERED records of the tenants whose counts changed in a period, in ascending order (R588). -/
def trafficRecords (e : PeriodEnd) (g : Registrar) : Registrar :=
  e.traffic.foldl (fun g kv =>
    if fmGet g.before_ kv.1 {} = kv.2 then g
    else
      let g := regWrite g 1 kv.1 e.time e.flags kv.2.injBytes kv.2.injPkts 0
      regWrite g 2 kv.1 e.time e.flags kv.2.dlvBytes kv.2.dlvPkts 0) g

/-- The records of a period, all with TIME equal to its boundary (R588, R589). -/
def periodRecords (e : PeriodEnd) (g : Registrar) : Registrar :=
  let g := trafficRecords e (regWrite g 3 0 e.time e.flags (e.core / 100000) (e.sram / 100000) e.peak)
  { g with before_ := e.traffic }

/-- PERIOD_BOUNDARY: the records of the oldest period that has ended and has none yet (R588). -/
def periodBoundary (s : State) : State :=
  match s.rgs.ended with
  | e :: l => if regRunning s.rgs then { s with rgs := periodRecords e { s.rgs with ended := l } } else s
  | [] => s

/-! ### Sealing and tamper (R592, R593) -/

/-- The sealed parameter block, as far as the spec lists it (R592). -/
def paramBlock (p : RegStore) : List Nat :=
  [p.period, p.coreGain, p.coreOffset, p.sramGain, p.sramOffset, p.key, p.keyId, p.sealDigest]

/-- The SEAL fuse is blown, and the check value of the parameters kept (R592). -/
def blowFuse (p : RegStore) : RegStore := { p with blown := true, paramCrc := Config.paramCrc (paramBlock p) % 2 ^ 32 }

/-- SEAL: blows the fuse, records PARAM_CRC, and writes a POWER_ON record (R592). Once blown, there is nothing left to do. -/
def regSeal (s : State) : State :=
  let g := s.rgs
  if !g.on || g.store.blown then s
  else
    let g := { g with store := blowFuse g.store }
    { s with rgs := regEvent g 1 (g.store.imageVersion % 2 ^ 16) }

/-- What an accepted write of the calibration port stores; a PERIOD out of range is not one (R592). -/
def calStore (p : RegStore) : CalWrite → RegStore
  | .period n => if 1 ≤ n && n ≤ 3600 then { p with period := n } else p
  | .core g o => { p with coreGain := g, coreOffset := o }
  | .sram g o => { p with sramGain := g, sramOffset := o }
  | .key i k => { p with keyId := i % 2 ^ 16, key := k % 2 ^ 128 }
  | .sealDigest d => { p with sealDigest := d % 2 ^ 256 }
  | .image d v => { p with imageDigest := d % 2 ^ 256, imageVersion := v % 2 ^ 24 }

/-- CALIBRATION_WRITE: accepted before SEAL; refused afterwards, and then tampering (R593). -/
def calWrite (s : State) (w : CalWrite) : State :=
  let g := s.rgs
  if !g.on then s
  else if g.store.blown then { s with rgs := regTamper g 1 }
  else { s with rgs := { g with store := calStore g.store w } }

/-- CAL_EN is asserted: tampering once SEAL is blown (R593). -/
def calEnable (s : State) : State :=
  if s.rgs.on && s.rgs.store.blown then { s with rgs := regTamper s.rgs 3 } else s

/-! ### The RGS window and the readout commands (R595 to R597) -/

/-- Word `i` of a 256-bit digest (R595). -/
def digestWord (d i : Nat) : Nat := field d (64 * i) 64

/-- The 14 RGS registers in offset order (R595). -/
def rgsWords (s : State) : List Nat :=
  let g := s.rgs
  let p := g.store
  [ place [(0, b2n (regRunning g)), (1, b2n p.blown), (2, b2n p.tamper), (3, b2n g.halted),
      (4, b2n (regRunning g && g.good < 100)), (5, b2n (regRunning g && g.sampled && g.bad == 0)), (8, p.cause),
      (32, g.nextSeq)],
    g.session, g.fw,
    digestWord g.digest 0, digestWord g.digest 1, digestWord g.digest 2, digestWord g.digest 3,
    digestWord g.sealSeen 0, digestWord g.sealSeen 1, digestWord g.sealSeen 2, digestWord g.sealSeen 3,
    place [(0, p.period), (16, p.keyId), (32, p.paramCrc)],
    g.core / 100000, g.sram / 100000 ]

/-- REGISTRAR_QUERY (R597). -/
def registrarQuery (_fn : Nat) (c : Cmd) (s : State) : State × CmdOut :=
  if !zeroAt c.params 0 8 then (s, only stMalformed)
  else (s, .done stOk ((rgsWords s).flatMap (leBytes 8)) 0)

/-- The bytes of a slot as a function may read it (R597). -/
def regReadable (s : State) (fn slot : Nat) : List Byte :=
  let r := regSlot s slot
  if fn = 0 || ((r.type == 1 || r.type == 2) && r.tenant == fn) then recBytes r else List.replicate 64 0

/-- REGISTRAR_READ (R597). -/
def registrarRead (fn : Nat) (c : Cmd) (s : State) : State × CmdOut :=
  let first := numAt c.params 0 4
  let n := numAt c.params 4 2
  if n = 0 || n > 64 || !zeroAt c.params 6 2 then (s, only stMalformed)
  else (s, .done stOk ((List.range n).flatMap (fun i => regReadable s fn ((first + i) % 16384))) 0)

end Sys2Proof.Machine
end

