-- ==== Sys2Proof/Machine/Boot.lean ====
section
/-! DEFINITION. Resets of the main die, straps, the machine record, firmware load, coordinate discovery, and the supply monitor
(R40, R270, R272, R598 to R616, R631). -/

namespace Sys2Proof.Machine

/-! ### Reset (R16, R303, R336, R553, R599 to R602, R613, R616) -/

/-- FATAL_OUT is asserted: in reset, in the safe state, and until READY has been 1 (R551, R553, R608). -/
def fatalOut (s : State) : Bool := s.inReset || s.cus.safe || !s.brd.served

/-- The flash and the fuses, which no reset changes (R613); with the slot that ran no longer running. -/
def keptBoard (b : Board) (cold : Bool) : Board :=
  let idle := fun (x : FwSlot) => { x with st := if x.st = .running then .valid else x.st }
  { svnFused := b.svnFused, slotA := idle b.slotA, slotB := idle b.slotB, bootB := b.bootB, cold := cold }

/-- The Custodian's sticky fields (R550); power-on clears them too, but for SAFE_PRIOR of a device that was safe (R553, R615). -/
def keptCustodian (c : Custodian) (cold : Bool) : Custodian :=
  if cold then { safePrior := c.safe }
  else { safePrior := c.safePrior || c.safe, nextSeq := c.nextSeq, fatal := c.fatal, log := c.log }

/-- The main die enters reset: what it held is gone. Kept are the Registrar, flash and fuses; host memory, which is the host's; the
levels of the twin's pins; the generations of regions; and, unless the reset is power-on, the sticky fields, PCIE_MODE and the
incarnations of contexts. -/
def resetDevice (s : State) (cold : Bool) : State :=
  let cold := cold || (s.inReset && s.brd.cold)
  { brd := keptBoard s.brd cold
    cus := keptCustodian s.cus cold
    hif := { mode := if cold then 0 else s.hif.mode }
    cur := { fwRaise := s.cur.fwRaise }
    rgl := { cfgRole := if cold then 0 else s.rgl.cfgRole, syncLost := !cold && s.rgl.syncLost }
    lne := { refSeen := if cold then 0 else s.lne.refSeen }
    xlt := { gens := s.xlt.gens }
    ctx := { ctxs := if cold then [] else s.ctx.ctxs.map (fun kv => (kv.1, { inc := kv.2.inc })) }
    twn := { fatalIn := s.twn.fatalIn, stopIn := s.twn.stopIn }
    rgs := s.rgs
    host := (settleWrites s).host
    hostErr := s.hostErr
    drawn := (settleWrites s).drawn
    inReset := true
    pending := s.pending }

/-- RESET_RELEASE: the main die leaves reset; the straps are sampled, PCIE_MODE and the role of RGL_CFG only at power-on, and SRAM
is tested (R600 to R602, R605). -/
def resetRelease (s : State) (x : Straps) : State :=
  if !s.inReset then s
  else
    let mode := if s.brd.cold then x.pcieMode % 2 else s.hif.mode
    let role := if s.brd.cold then x.timeRole % 4 else s.rgl.cfgRole
    { s with
      inReset := false,
      brd := { s.brd with
        straps := { pcieMode := mode, timeRole := x.timeRole % 4, plane := x.plane % 2, board := x.board % 4096 },
        cold := false },
      hif := { s.hif with mode := mode },
      rgl := { s.rgl with cfgRole := role, role := if role = 3 then 0 else role },
      mvt := { s.mvt with plane := x.plane % 2 } }

/-- FABRIC_COMMANDED_RESET: a warm reset, with the host link down, if the sender is the plane's root (R614). -/
def fabricReset (s : State) (sender : Nat) : State :=
  if running s && s.rgl.rootValid && s.rgl.rootCoord = sender then resetDevice s false else s

/-! ### The machine record (R601, R603 to R605) -/

/-- The sizes minus one that a SIZE_M1 field gives, A to F (R86, R603). -/
def recordShape (b : List Byte) : List Nat := (List.range 6).map (fun d => posOf (numAt b 5 3) d)

/-- The checks of R604 on a record, with the straps' BOARD. -/
def recordValid (b : List Byte) (board : Nat) : Bool :=
  let sizes := (recordShape b).map (· + 1)
  let size := fun d => sizes.getD d 1
  let pos := numAt b 8 2
  numAt b 0 4 == 0x4E48434D && byteAt b 4 == 1 && numAt b 10 2 == 0
  && crc32c (b.take 12 ++ leBytes 4 0) == numAt b 12 4
  && decide (sizes.foldl (· * ·) 1 ≤ 131072)
  && decide (field board 4 4 < size 4) && decide (field board 0 4 < size 5)
  && (!bitAt board 11 || (List.range 4).all (fun d => decide (field pos (4 * (3 - d)) 4 < size d)))

/-- MACHINE_RECORD_READ: the record, then the lane table; then training starts on every port that may train. Fabric ports stay
fenced, as after a link fault, until the epoch change that follows (R166, R172, R604, R605, R611). -/
def machineRecordRead (s : State) (bytes : List Byte) : State :=
  if s.brd.record then s
  else
    let b := padTo 16 bytes
    let ok := recordValid b s.brd.straps.board
    let s := { s with brd := { s.brd with record := true, anchorPos := numAt b 8 2 } }
    let s := if ok then { s with mvt := { s.mvt with shape := recordShape b } } else fault s 304 256
    let s := loadLaneTable s (padTo 464 (bytes.drop 16))
    let ports := ((List.range 12) ++ [14]).filter (mayTrain s)
    let s := { s with mvt := { s.mvt with linkFence := ports.filter (fun p => decide (p < 12)) } }
    ports.foldl (fun s p => setLane s p (startLane s p (laneOf s p))) s

/-! ### Firmware load (R270, R272, R605, R607, R608) -/

/-- The boot loader takes the slot's image for valid: it was marked so when it was checked, and its SVN is not too low (R270). -/
def bootable (s : State) (x : FwSlot) : Bool := (x.st == .valid || x.st == .running) && decide (x.svn ≥ s.brd.svnFused)

def bootSlot (b : Board) (isB : Bool) : FwSlot := if isB then b.slotB else b.slotA

/-- No valid image: the boot loader halts; fabric ports are DOWN, and so is a bridge that was training (R607). -/
def haltBoot (s : State) : State :=
  let s := { s with brd := { s.brd with halted := true } }
  ((List.range 12) ++ [14]).foldl (fun (s : State) p =>
    modLane s p (fun l =>
      if decide (p < 12) || l.tx == LaneSt.training then { l with tx := .down, rx := .down, trainFrom := none, retryAt := none } else l)) s

/-- The Curator runs the image of a slot: READY, and FATAL_OUT is released. SVN_FUSED rises if the commit of this image asked for
it (R272, R277, R608). -/
def startCurator (s : State) (isB : Bool) : State :=
  let x := bootSlot s.brd isB
  let fall := isB != s.brd.bootB
  let raise := s.cur.fwRaise && !fall
  let b := { s.brd with
    runB := isB, fwVersion := x.version, fwSvn := x.svn, fwDigest := x.digest, fallback := fall, served := true,
    svnFused := if raise then max s.brd.svnFused x.svn else s.brd.svnFused,
    slotA := if isB then s.brd.slotA else { x with st := .running },
    slotB := if isB then { x with st := .running } else s.brd.slotB }
  let s := { s with
    brd := b,
    cur := { s.cur with ready := true, cores := [true, true, true, true], fwRaise := s.cur.fwRaise && fall } }
  tryPair (tellMap (if fall then fault s 17 (b2n isB) else s))

/-- FIRMWARE_LOAD: the image of the boot slot, else that of the other slot, else none (R270, R605). -/
def firmwareLoad (s : State) : State :=
  if !s.brd.record || s.cur.ready || s.brd.served || s.brd.halted then s
  else if bootable s (bootSlot s.brd s.brd.bootB) then startCurator s s.brd.bootB
  else if bootable s (bootSlot s.brd (!s.brd.bootB)) then startCurator s (!s.brd.bootB)
  else haltBoot s

/-! ### The coordinate (R609 to R611) -/

/-- The coordinates that name this device's, by the port that gives them: fabric ports in ascending number, then the bridge. -/
def coordSources (s : State) : List (Nat × Nat) :=
  ((List.range 12) ++ [14]).filterMap (fun p =>
    let l := laneOf s p
    if l.peerValid then some (p, steppedBack s l.peerCoord p)
    else (fmFind s.epo.told p).map (fun c => (p, steppedBack s c p)))

/-- The coordinate is fixed: it is announced, ports whose other end disagrees are miswired, and restored ports may be reported. -/
def fixCoordinate (s : State) (c : Nat) : State :=
  let s := { s with
    mvt := { s.mvt with coord := c, selfValid := true },
    rgl := if s.rgl.role = 1 then { s.rgl with rootCoord := c, rootValid := s.rgl.rootValid || s.rgl.synced } else s.rgl }
  let up := ((List.range 12) ++ [14]).filter (linkActive s)
  let s := up.foldl (fun s p => sendCur s (some (steppedBack s c (Nat.xor p 1))) (.coordinate c)) s
  let s := (((List.range 12) ++ [14]).filter (fun p => !peerAgrees s p)).foldl miswired s
  tryPair (reportRestored s)

/-- Try the sources in order; one whose E or F differs from BOARD is refused, with LNE_MISWIRE of its port. -/
def discoverFrom (s : State) : List (Nat × Nat) → State
  | [] => s
  | (p, c) :: l => if c % 256 = s.brd.straps.board % 256 then fixCoordinate s c else discoverFrom (miswired s p) l

/-- COORDINATE_DISCOVERY: anchor, neighbour, twin (R609). -/
def discover (s : State) : State :=
  let b := s.brd
  if !s.cur.ready || s.mvt.selfValid then s
  else if bitAt b.straps.board 11 && s.mvt.shape != [] then fixCoordinate s (b.anchorPos * 256 + b.straps.board % 256)
  else discoverFrom s (coordSources s)

/-- COORDINATE_ANNOUNCEMENT: it may fix the coordinate, or disagree with it (R609, R610). -/
def announcement (s : State) (p c : Nat) : State :=
  if !hasLanes p then s
  else
    let agreed := peerAgrees s p
    let s := { s with epo := { s.epo with told := fmSet s.epo.told p (c % 2 ^ 24) } }
    if !s.mvt.selfValid then discover s
    else if agreed && !peerAgrees s p then miswired s p else s

/-! ### Rails and junction (R4, R40, R542, R628, R631) -/

/-- Highest junction temperature of the grade, in °C (R4). -/
def gradeMax : Int := if Config.gradeX then 105 else 95

/-- SUPPLY_MONITOR: a rail in mV or the junction in °C has stayed beyond a source's limit for its time; the source is raised. -/
def supplyMonitor (s : State) (src : Nat) (value : Int) : State :=
  if src = 3 && value < 700 then fault s 3 value.toNat
  else if src = 305 && value < 820 then fault s 305 value.toNat
  else if src = 306 && value > gradeMax then fault s 306 (ofSigned 64 value)
  else if src = 307 && value ≥ 125 then fault s 307 (ofSigned 64 value)
  else s

end Sys2Proof.Machine
end

