-- ==== Sys2Proof/Machine/Epochs.lean ====
section
/-! DEFINITION. Route epochs and Strike schedule epochs: reports to the epoch master, floods, switch and retirement (R77 to R82,
R115, R172, R434, R611, R614, R641). -/

namespace Sys2Proof.Machine

/-! ### Reports of ports (R641) -/

/-- FENCE_REPORT_RESEND: what the epoch master has not acknowledged for 100 µs is sent again (R641). -/
def resendReports (s : State) : State :=
  if !s.cur.ready || !s.rgl.rootValid then s
  else
    let late := fun (r : Report) => !r.acked && decide (now s ≥ r.sentAt + 100000)
    let due := s.epo.reports.filter late
    let s := { s with epo := { s.epo with reports := s.epo.reports.map (fun r => if late r then { r with sentAt := now s } else r) } }
    due.foldl (fun s r => sendCur s (some s.rgl.rootCoord)
      (.report (linearOf s s.mvt.coord) (if r.restored then .restored r.port else .fence r.port))) s

/-! ### The master's fault map (R77, R79, R82) -/

/-- A link by the end whose port is even. -/
def linkName (s : State) (n p : Nat) : Nat × Nat := if p % 2 = 0 then (n, p) else (across s n p, p - 1)

/-- Ports that have a link in the shape. -/
def linkedPorts (s : State) : List Nat := (List.range 12).filter (fun p => dimSize s (p / 2) != 1)

/-- The map of a plane none of whose links has come up yet. -/
def closedMap (s : State) : FaultMap :=
  { links := (List.range (nodeCount s)).flatMap (fun n => ((linkedPorts s).filter (fun p => p % 2 == 0)).map (fun p => (n, p))) }

/-- The map that this device works from as master. -/
def masterMapOf (s : State) : FaultMap :=
  if s.epo.known then s.epo.masterMap else if s.epo.joined then (currentBank s).map else closedMap s

/-- All links of a device are fenced: then the device is (R77). -/
def isolated (s : State) (m : FaultMap) (n : Nat) : Bool :=
  linkedPorts s != [] && (linkedPorts s).all (fun p => m.links.contains (linkName s n p))

/-- The map that is flooded: with the devices that are fenced because all their links are. -/
def wholeMap (s : State) (m : FaultMap) : FaultMap :=
  { m with devices := (List.range (nodeCount s)).filter (fun n => m.devices.contains n || isolated s m n) }

/-- Devices whose reports the master awaits: those that are not fenced, and its own (R79). -/
def awaited (s : State) (m : FaultMap) : List Nat :=
  (List.range (nodeCount s)).filter (fun n => !m.devices.contains n || n == linearOf s s.mvt.coord)

/-- This device acts as epoch master: the root of its plane, with its Curator READY (R79, R641). -/
def isMaster (s : State) : Bool := s.rgl.role == 1 && s.cur.ready

/-- Step 1 of a route epoch change: the number and the map are flooded (R79). -/
def beginChange (s : State) : State :=
  let map := wholeMap s (masterMapOf s)
  let number := ((currentBank s).number + 1) % 2 ^ 32
  let s := { s with epo := { s.epo with change := some { number, map, flooded := now s }, again := false } }
  sendCur s none (.epoch number map)

/-- A change is wanted: it starts now, or after the one in progress (R82). -/
def wantChange (s : State) : State :=
  if s.epo.change.isSome then { s with epo := { s.epo with again := true } } else beginChange s

def setMasterMap (s : State) (m : FaultMap) (restored : List (Nat × Nat)) : State :=
  { s with epo := { s.epo with known := true, masterMap := m, restored := restored } }

/-- The master has acknowledged this device's report of a port (R641): a fence is reported no more; a restored link waits for the change by
which it joins (R172). -/
def noteAck (s : State) (p : Nat) (restored : Bool) : State :=
  { s with epo := { s.epo with
      reports := if restored then s.epo.reports.map (fun r => if r.port == p && r.restored then { r with acked := true } else r)
        else s.epo.reports.filter (fun r => r.port != p || r.restored) } }

/-- The master acknowledges a report that it has taken, its own device's included (R641). -/
def acknowledge (s : State) (device p : Nat) (restored : Bool) : State :=
  if device = linearOf s s.mvt.coord then noteAck s p restored
  else sendCur s (some (coordOf s device)) (.report device (.acked p restored))

/-- What a report tells the master. A link is fenced at the report of one end, and open again once both have reported it restored; a
device with a restored link is no longer fenced for silence (R77, R79, R80, R82, R95, R172). A report of what the map has already is
acknowledged all the same, and a fence takes back what was said of the link's restoration (R641). -/
def masterReport (s : State) (device : Nat) (r : PortReport) : State :=
  let m := masterMapOf s
  match r with
  | .acked _ _ => s
  | .change => wantChange s
  | .fence p =>
    if p ≥ 12 then s
    else
      let name := linkName s device p
      let gone := s.epo.restored.filter (fun x => linkName s x.1 x.2 != name)
      let s := acknowledge s device p false
      if m.links.contains name && s.epo.known then setMasterMap s m gone
      else wantChange (setMasterMap s { m with links := withMember m.links name } gone)
  | .restored p =>
    if p ≥ 12 then s
    else
      let name := linkName s device p
      let other := (across s device p, Nat.xor p 1)
      let s := acknowledge s device p true
      if !m.links.contains name then s
      else if s.epo.restored.contains other then
        let gone := s.epo.restored.filter (fun x => linkName s x.1 x.2 != name)
        wantChange (setMasterMap s {
          links := without m.links name, devices := without (without m.devices device) other.1 } gone)
      else setMasterMap s m (withMember s.epo.restored (device, p))

/-- FENCE_REPORT: a report at the master, or the master's acknowledgement at the device that reported (R79, R641). -/
def portReport (s : State) (device : Nat) (r : PortReport) : State :=
  match r with
  | .acked p restored => if device = linearOf s s.mvt.coord then noteAck s p restored else s
  | _ => if isMaster s then masterReport s device r else s

/-! ### A change at every device (R77 to R81) -/

/-- ROUTE_EPOCH_RETIRE: at R the old bank is idle again; the master may start the change that waited (R81, R82). -/
def routeRetire (s : State) : State :=
  match s.mvt.dueR with
  | none => s
  | some r =>
    let bit := 1 - currentBit s
    if stamp s < r then s
    else
      let s := if (bankOf s bit).st = .old then setBank s bit {} else s
      let s := { s with mvt := { s.mvt with dueR := none } }
      match s.epo.change with
      | some c =>
        if c.r = some r then
          let s := { s with epo := { s.epo with change := none } }
          if s.epo.again && isMaster s then beginChange s else s
        else s
      | none => s

/-- The idle bank is staged with a new epoch; the fence reports that its map carries are acknowledged (R79, R641). -/
def stageEpoch (s : State) (number : Nat) (map : FaultMap) : State :=
  let self := linearOf s s.mvt.coord
  let s := setBank s (number % 2) { st := .staged, number := number % 2 ^ 32, mode := modeOf map, map := map }
  { s with
    mvt := { s.mvt with dueT := none },
    epo := { s.epo with reports := s.epo.reports.filter (fun r => r.restored || linkOpen s map self r.port) } }

/-- EPOCH_FLOOD: the device writes its idle bank and reports ready; a fence that the map carries is acknowledged (R79, R80, R641). -/
def epochFlood (s : State) (number : Nat) (map : FaultMap) : State :=
  let s := routeRetire s
  let bit := number % 2
  let b := bankOf s bit
  if !s.cur.ready || b.st == .current || b.st == .old then s
  else
    sendCur (stageEpoch s number map) (some s.rgl.rootCoord) (.ready (.route (linearOf s s.mvt.coord) (number % 2 ^ 32)))

/-- The fences of this device's fabric ports as the new map has them: a link that it carries is fenced; one that this device has
reported restored, and that the map does not carry, joins the plane (R172, R611). -/
def applyMap (s : State) (map : FaultMap) : State :=
  let self := linearOf s s.mvt.coord
  let s := (List.range 12).foldl (fun s p =>
    if dimSize s (p / 2) = 1 then s
    else if !linkOpen s map self p then
      { s with mvt := { s.mvt with linkFence := withMember s.mvt.linkFence p } }
    else if s.epo.reports.any (fun r => r.port == p && r.restored) then
      { s with
        mvt := { s.mvt with linkFence := without s.mvt.linkFence p },
        cus := { s.cus with unitFences := without s.cus.unitFences (1, p) },
        epo := { s.epo with reports := s.epo.reports.filter (fun r => r.port != p) } }
    else s) s
  selectParent s

/-- The staged bank `bit` becomes current, and the one that was current is old until R; the device has joined the plane (R79, R611). -/
def turnBank (s : State) (bit : Nat) : State :=
  let was := bankOf s (1 - bit)
  let s := setBank s bit { bankOf s bit with st := .current }
  let s := if was.st = .current then setBank s (1 - bit) { was with st := .old } else s
  { s with mvt := { s.mvt with dueT := none }, epo := { s.epo with joined := true } }

/-- ROUTE_EPOCH_SWITCH: at T the staged bank is current, and the switch is reported. The twin learns the new map, and the groups
and locks of devices that it fences are told (R77, R79, R95, R434, R507). -/
def routeSwitch (s : State) : State :=
  match s.mvt.dueT with
  | none => s
  | some t =>
    let bit := if s.mvt.bank0.st = .staged then 0 else 1
    let b := bankOf s bit
    if stamp s < t || b.st != .staged then s
    else
      let old := (currentBank s).map
      let s := tellMap (applyMap (turnBank s bit) b.map)
      let s := wakeCmds s (fun _ w => w == .routeEpoch) stOk []
      let s := sendCur s (some s.rgl.rootCoord)
        (.switched { strike := false, device := linearOf s s.mvt.coord, number := b.number, time := stamp s })
      carMapChanged (abandonFenced s old b.map) old b.map

/-- STRIKE_EPOCH_SWITCH, and its report to the master (R115). -/
def strikeSwitchReport (s : State) : State :=
  let s' := strikeSwitch s
  if s.stk.activating && !s'.stk.activating then
    let epoch := match currentSched s' with | some c => c.epoch | none => 0
    sendCur s' (some s'.rgl.rootCoord) (.switched { strike := true, device := linearOf s s.mvt.coord, number := epoch, time := stamp s })
  else s'

/-- SWITCH_TIME_FLOOD: T, or R, of a route epoch, a schedule epoch or a tree epoch reaches this device, whose registers hold them
from then on; a T that has passed is acted on at once (R80, R81, R89, R115, R118, R434, R437). -/
def switchFlood (s : State) : SwitchFlood → State
  | .routeT n t =>
    let b := bankOf s (n % 2)
    if b.st = .staged && b.number = n then
      let s := { s with mvt := { s.mvt with dueT := some t, epochT := t } }
      if stamp s ≥ t then routeSwitch s else s
    else s
  | .routeR n r => if (currentBank s).number = n then { s with mvt := { s.mvt with dueR := some r, epochR := r } } else s
  | .strikeT e t =>
    (match (idleBank s).sched with
    | some x =>
      if x.epoch = e && s.stk.activating then
        let s := { s with stk := { s.stk with dueT := some t, epochT := t } }
        if stamp s ≥ t then strikeSwitchReport s else s
      else s
    | none => s)
  | .strikeR e r =>
    (match currentSched s with
    | some x => if x.epoch = e then { s with stk := { s.stk with dueR := some r, epochR := r } } else s
    | none => s)
  | .strikeCancel id e =>
    (match (idleBank s).sched with
    | some x => if x.id = id && x.epoch = e then cancelActivate s else s
    | none => s)
  | .tree g e n t => treeTimes s g e n t
  | .treeRefused g e =>
    (match carHandle s g with
    | some h =>
      (match (carGroup s h).change with
      | some c => if c.epoch = e then clearChange s g stNoResource else s
      | none => clearChange s g stNoResource)
    | none => clearChange s g stNoResource)
  | .treeDropped g e => dropTree s g e

/-! ### A change at the master (R79 to R81, R115, R614) -/

/-- The master's route epoch change and Strike change in progress. -/
def setChange (s : State) (c : MasterChange) : State := { s with epo := { s.epo with change := some c } }
def setStrike (s : State) (x : StrikeChange) : State := { s with epo := { s.epo with strike := some x } }

/-- The reported switches with one more; a device's later report replaces its earlier one. -/
def noteSwitch (l : List (Nat × Nat)) (r : SwitchReport) : List (Nat × Nat) :=
  l.filter (fun y => y.1 != r.device) ++ [(r.device, r.time)]

/-- A switch time at least 50 µs from now; by how much it exceeds that is the master's own choice (R79, R115), but it comes no later than the tick
`limit`, while 50 µs allow that: 1 ms after a route epoch's flood (R83), or before a STRIKE_ACTIVATE of the change has run for 250 ms and ends with no
change (R254). -/
def chooseT (s : State) (limit : Nat) : Nat × State :=
  let (d, s) := draw s
  (stamp s + 200000 + 4 * (d % (limit - (now s + 50000) + 1)), s)

/-- A Strike change with every report, while no other is past its T: T is chosen and told to its participants (R115, R116). -/
def strikeReady (s : State) (x : StrikeChange) : State :=
  if x.t.isSome || x.ready.length < x.participants || s.epo.strikeOld != [] then setStrike s x
  else
    let (t, s) := chooseT s (x.start + 200000000)
    x.ready.foldl (fun s n => sendCur s (some (coordOf s n)) (.flood (.strikeT x.epoch t))) (setStrike s { x with t := some t })

/-- EPOCH_READY_REPORT: with the last report the master chooses T and floods it (R79, R115). Strike reports agree in SCHED_ID and
EPOCH with the first. A change past its T goes on beside the reports of the next, until its R is set (log entry 101). -/
def readyReport (s : State) (r : ReadyReport) : State :=
  if !isMaster s then s
  else match r with
    | .route device number =>
      (match s.epo.change with
      | none => s
      | some c =>
        if c.number != number || c.t.isSome then s
        else
          let c := { c with ready := withMember c.ready device }
          if (awaited s c.map).all (fun n => c.ready.contains n) then
            let (t, s) := chooseT s (c.flooded + 1000000)
            sendCur (setChange s { c with t := some t }) none (.flood (.routeT number t))
          else setChange s c)
    | .strike device id epoch participants =>
      let first : StrikeChange := { id, epoch, participants, ready := [device], start := now s }
      match s.epo.strike with
      | none => strikeReady s first
      | some x =>
        if x.id = id && x.epoch = epoch then (if x.t.isSome then s else strikeReady s { x with ready := withMember x.ready device })
        else if x.t.isSome then strikeReady { s with epo := { s.epo with strikeOld := s.epo.strikeOld ++ [x] } } first
        else s

/-- R of a change: the latest reported switch plus 2 ms plus 40 ns (R81). -/
def retireTime (l : List (Nat × Nat)) (t : Nat) : Nat := (l.foldl (fun m x => max m x.2) t) + 8000160

/-- The master floods R of its route epoch change (R81). -/
def floodR (s : State) (c : MasterChange) (t : Nat) : State :=
  let r := retireTime c.switched t
  sendCur (setChange s { c with r := some r }) none (.flood (.routeR c.number r))

/-- The master's record of a Strike change `x` becomes `y`; or it is over. -/
def putStrike (s : State) (x : StrikeChange) (y : Option StrikeChange) : State :=
  if s.epo.strike = some x then { s with epo := { s.epo with strike := y } }
  else { s with epo := { s.epo with strikeOld := s.epo.strikeOld.flatMap (fun z => if z = x then y.toList else [z]) } }

/-- Switches of a Strike change are known as `y` has them: with the last, R is set, and a change that waited may go on (R115). -/
def strikeSwitched (s : State) (x y : StrikeChange) : State :=
  if y.ready.all (fun n => y.switched.any (fun (z : Nat × Nat) => z.1 == n)) then
    let s := y.ready.foldl (fun s n => sendCur s (some (coordOf s n)) (.flood (.strikeR y.epoch (retireTime y.switched (y.t.getD 0)))))
      (putStrike s x none)
    match s.epo.strike with
    | some z => strikeReady s z
    | none => s
  else putStrike s x (some y)

/-- SWITCH_REPORT: with the last the master floods R (R81, R115). -/
def switchReport (s : State) (r : SwitchReport) : State :=
  if !isMaster s then s
  else if r.strike then
    match (s.epo.strikeOld ++ s.epo.strike.toList).find? (fun x => x.t.isSome && x.epoch == r.number && x.ready.contains r.device) with
    | some x => strikeSwitched s x { x with switched := noteSwitch x.switched r }
    | none => s
  else
    let s := { s with epo := { s.epo with silent := s.epo.silent.filter (fun x => x.1 != r.device) } }
    match s.epo.change with
    | some c =>
      (match c.t with
      | some t =>
        if c.number != r.number || c.r.isSome then s
        else
          let c := { c with switched := noteSwitch c.switched r }
          if (awaited s c.map).all (fun n => c.switched.any (fun y => y.1 == n)) then floodR s c t
          else setChange s c
      | none => s)
    | none => s

/-- Devices that have kept silent are fenced in the master's map (R80). -/
def fenceSilent (s : State) (l : List Nat) : State :=
  let m := masterMapOf s
  { s with epo := { s.epo with
      known := true, masterMap := { m with devices := l.foldl withMember m.devices },
      silent := s.epo.silent.filter (fun x => !l.contains x.1) ++ l.map (fun n => (n, now s, none)) } }

/-- A fabric-commanded reset goes to each device fenced for silence that has reported no switch within 10 ms; at most one in any
10 s (R614). -/
def sendResets (s : State) : State :=
  let due := s.epo.silent.filter (fun x => decide (now s ≥ x.2.1 + 10000000)
    && (match x.2.2 with | some t => decide (now s ≥ t + 10000000000) | none => true))
  let s := due.foldl (fun s x => sendCur s (some (coordOf s x.1)) .reset) s
  { s with epo := { s.epo with
      silent := s.epo.silent.map (fun x => if due.contains x then (x.1, x.2.1, some (now s)) else x) } }

/-- EPOCH_REPORT_TIMEOUT: devices silent for 1 ms after the flood are fenced and the change restarts with the same number; devices
silent for 1 ms after T are fenced, and another change follows (R80, R614). -/
def epochTimeout (s : State) : State :=
  if !isMaster s then s
  else
    let s := sendResets s
    match s.epo.change with
    | none => s
    | some c =>
      match c.t, c.r with
      | none, _ =>
        let silent := (awaited s c.map).filter (fun n => !c.ready.contains n && n != linearOf s s.mvt.coord)
        if now s < c.flooded + 1000000 || silent = [] then s
        else
          let s := fenceSilent s silent
          let map := wholeMap s { c.map with devices := silent.foldl withMember c.map.devices }
          sendCur (setChange s { number := c.number, map, flooded := now s }) none (.epoch c.number map)
      | some t, none =>
        let silent := (awaited s c.map).filter (fun n => !c.switched.any (fun y => y.1 == n) && n != linearOf s s.mvt.coord)
        if stamp s < t + 4000000 || silent = [] then s
        else
          let s := fenceSilent s silent
          let map := { c.map with devices := silent.foldl withMember c.map.devices }
          floodR { s with epo := { s.epo with again := true } } { c with map := map } t
      | some _, some _ => s

/-- FAULT_MAP_REPORT: the twin's Curator reports its plane's map (R77, R507). -/
def faultMapReport (s : State) (map : FaultMap) : State :=
  let old := s.mvt.twinMap.getD {}
  let s := { s with mvt := { s.mvt with twinMap := some map } }
  (map.devices.filter (fun n => !old.devices.contains n)).foldl (fun s n =>
    abandonRemote s (coordOf s n) (1 - s.brd.straps.plane) none) s

end Sys2Proof.Machine
end

