-- ==== Sys2Proof/Machine/Regs.lean ====
section
/-! DEFINITION. The register file as software sees it: the maps of the three kinds of BAR0 (R183, R189, R190, R637), the value and the
write of every register, access codes and expert mode (R14, R15, R262), half accesses and latches (R17), and undefined offsets
(R18). -/

namespace Sys2Proof.Machine

/-! ### Names and maps -/

/-- The registers, by block in the order of R637. `k` is a word of a record or of a group of like registers. -/
inductive RegName where
  | glbId | glbSerial | glbStraps | glbFw | glbDigest (k : Nat)
  | admBase | admHead | admCfg | admDb | admState | mailbox (k : Nat) | curStatus | curExpert
  | hifLinkStatus | hifFnCfg | hifWcStatus | hifFnState | hifQueueState | msixAddr | msixData | msixPending
  | movCfg | movStatus | movAppend | movCh (k : Nat)
  | xltCfg | xltStatus | xltUsage | xltFnUsage
  | ctxCfg | ctxStatus | ctxState | ctxCounter
  | catCfg | catStatus | catEp
  | carCfg | carStatus | carGroup (k : Nat)
  | mvtShape | mvtSelf | mvtRouteCfg | mvtEpoch | mvtEpochT | mvtEpochR | mvtPace | mvtPaceTs | mvtPaceLimit | mvtPortCfg
  | stkState | stkEpochT | stkEpochR | stkCfg | stkFlow | stkNextOpen
  | rglTime | rglStatus | rglOffset | rglCfg | rglRoot
  | lneCfg | lneTableStatus | lneRefStatus | lnePortStatus | lnePortCfg | lnePortFom | lnePortPeer | lnePortRetry
  | palCfg | palStatus | palGroup | palLock | palWait | palRsvStatus
  | twnCfg | twnMirrorBase | twnStatus | twnDeathTs | twnAdoptCount
  | cusStatus | cusFatal | cusFatalTs | cusFatalDetail | cusSrc | cusSrcDetail | cusLog (k : Nat)
  | monCntValue | monCntTs | monCntCfg | monFlow | monDialCfg | monDial (k : Nat) | monDialBin (k : Nat) | monUserState
  | userValue | userTs | monProvCfg | monProvStatus | monProv (k : Nat)
  | rgs (k : Nat) | rgsRing (k : Nat)
  | schCfg | schStatus | schGroup | schShaper (k : Nat) | schTokens (k : Nat) | schPolState
  deriving DecidableEq, Repr

/-- One row of a map: entry i of the array lies at `base + i * stride`, and is `width` bits wide. -/
structure RegRow where
  base : Nat
  name : RegName
  width : Nat := 64
  stride : Nat := 8
  count : Nat := 1
  deriving DecidableEq, Repr

/-- The identity registers, from an offset on (R275). -/
def glbRows : List RegRow :=
  [⟨0x00, .glbId, 64, 8, 1⟩, ⟨0x08, .glbSerial, 64, 8, 1⟩, ⟨0x10, .glbStraps, 32, 8, 1⟩, ⟨0x18, .glbFw, 64, 8, 1⟩,
   ⟨0x20, .glbDigest 0, 64, 8, 1⟩, ⟨0x28, .glbDigest 1, 64, 8, 1⟩]

/-- The admin page at an offset (R243). -/
def admRows (base : Nat) : List RegRow :=
  [⟨base, .admBase, 64, 8, 1⟩, ⟨base + 0x08, .admHead, 64, 8, 1⟩, ⟨base + 0x10, .admCfg, 32, 8, 1⟩,
   ⟨base + 0x18, .admDb, 32, 8, 1⟩, ⟨base + 0x20, .admState, 64, 8, 1⟩, ⟨base + 0x40, .mailbox 0, 64, 8, 1⟩,
   ⟨base + 0x48, .mailbox 1, 64, 8, 1⟩, ⟨base + 0x50, .mailbox 2, 64, 8, 1⟩, ⟨base + 0x58, .mailbox 3, 64, 8, 1⟩]

def curRows : List RegRow :=
  admRows 0x00100000 ++ [⟨0x00100100, .curStatus, 32, 8, 1⟩, ⟨0x00100108, .curExpert, 64, 8, 1⟩]

def hifRows : List RegRow :=
  [⟨0x00200000, .hifLinkStatus, 32, 8, 1⟩, ⟨0x00200010, .hifFnCfg, 32, 8, 1⟩, ⟨0x00200018, .hifWcStatus, 32, 8, 1⟩,
   ⟨0x00201000, .hifFnState, 64, 8, 256⟩, ⟨0x00300000, .hifQueueState, 64, 8, 262144⟩,
   ⟨0x00600000, .msixAddr, 64, 16, 256⟩, ⟨0x00600008, .msixData, 64, 16, 256⟩, ⟨0x00601000, .msixPending, 64, 8, 4⟩]

def movRows : List RegRow :=
  [⟨0x00800000, .movCfg, 32, 8, 1⟩, ⟨0x00800008, .movStatus, 64, 8, 1⟩, ⟨0x00800010, .movAppend, 32, 8, 1⟩,
   ⟨0x00801000, .movCh 0, 64, 0x20, 32⟩, ⟨0x00801008, .movCh 1, 64, 0x20, 32⟩, ⟨0x00801010, .movCh 2, 64, 0x20, 32⟩]

def xltRows : List RegRow :=
  [⟨0x00A00000, .xltCfg, 32, 8, 1⟩, ⟨0x00A00008, .xltStatus, 64, 8, 1⟩, ⟨0x00A00010, .xltUsage, 64, 8, 1⟩,
   ⟨0x00A01000, .xltFnUsage, 64, 8, 256⟩]

def ctxRows : List RegRow :=
  [⟨0x00C00000, .ctxCfg, 32, 8, 1⟩, ⟨0x00C00008, .ctxStatus, 64, 8, 1⟩, ⟨0x00C80000, .ctxState, 64, 8, 65536⟩,
   ⟨0x00D00000, .ctxCounter, 64, 8, 8192⟩]

def catRows : List RegRow :=
  [⟨0x00E00000, .catCfg, 32, 8, 1⟩, ⟨0x00E00008, .catStatus, 64, 8, 1⟩, ⟨0x00E10000, .catEp, 64, 8, 4096⟩]

def carRows : List RegRow :=
  [⟨0x01000000, .carCfg, 32, 8, 1⟩, ⟨0x01000008, .carStatus, 64, 8, 1⟩, ⟨0x01001000, .carGroup 0, 64, 16, 512⟩,
   ⟨0x01001008, .carGroup 1, 64, 16, 512⟩]

def mvtRows : List RegRow :=
  [⟨0x01200000, .mvtShape, 32, 8, 1⟩, ⟨0x01200008, .mvtSelf, 64, 8, 1⟩, ⟨0x01200010, .mvtRouteCfg, 32, 8, 1⟩,
   ⟨0x01200018, .mvtEpoch, 64, 8, 1⟩, ⟨0x01200020, .mvtEpochT, 64, 8, 1⟩, ⟨0x01200028, .mvtEpochR, 64, 8, 1⟩,
   ⟨0x01200040, .mvtPace, 64, 8, 1⟩, ⟨0x01200048, .mvtPaceTs, 64, 8, 1⟩, ⟨0x01200050, .mvtPaceLimit, 32, 8, 1⟩,
   ⟨0x01200100, .mvtPortCfg, 32, 8, 16⟩]

def stkRows : List RegRow :=
  [⟨0x01400000, .stkState, 64, 8, 1⟩, ⟨0x01400008, .stkEpochT, 64, 8, 1⟩, ⟨0x01400010, .stkEpochR, 64, 8, 1⟩,
   ⟨0x01400018, .stkCfg, 32, 8, 1⟩, ⟨0x01401000, .stkFlow, 64, 16, 4096⟩, ⟨0x01401008, .stkNextOpen, 64, 16, 4096⟩]

def rglRows : List RegRow :=
  [⟨0x01600000, .rglTime, 64, 8, 1⟩, ⟨0x01600008, .rglStatus, 32, 8, 1⟩, ⟨0x01600010, .rglOffset, 64, 8, 1⟩,
   ⟨0x01600018, .rglCfg, 32, 8, 1⟩, ⟨0x01600020, .rglRoot, 64, 8, 1⟩]

def lneRows : List RegRow :=
  [⟨0x01800000, .lneCfg, 32, 8, 1⟩, ⟨0x01800008, .lneTableStatus, 64, 8, 1⟩, ⟨0x01800010, .lneRefStatus, 32, 8, 1⟩,
   ⟨0x01801000, .lnePortStatus, 32, 0x100, 16⟩, ⟨0x01801008, .lnePortCfg, 32, 0x100, 16⟩,
   ⟨0x01801010, .lnePortFom, 32, 0x100, 16⟩, ⟨0x01801018, .lnePortPeer, 64, 0x100, 16⟩,
   ⟨0x01801020, .lnePortRetry, 32, 0x100, 16⟩]

def palRows : List RegRow :=
  [⟨0x01A00000, .palCfg, 32, 8, 1⟩, ⟨0x01A00008, .palStatus, 64, 8, 1⟩, ⟨0x01A01000, .palGroup, 32, 8, 64⟩,
   ⟨0x01A10000, .palLock, 32, 16, 4096⟩, ⟨0x01A10008, .palWait, 32, 16, 4096⟩, ⟨0x01B00000, .palRsvStatus, 64, 8, 1⟩]

def twnRows : List RegRow :=
  [⟨0x01C00000, .twnCfg, 32, 8, 1⟩, ⟨0x01C00008, .twnMirrorBase, 64, 8, 1⟩, ⟨0x01C00010, .twnStatus, 64, 8, 1⟩,
   ⟨0x01C00018, .twnDeathTs, 64, 8, 1⟩, ⟨0x01C00020, .twnAdoptCount, 64, 8, 1⟩]

def cusRows : List RegRow :=
  [⟨0x01E00000, .cusStatus, 64, 8, 1⟩, ⟨0x01E00008, .cusFatal, 64, 8, 1⟩, ⟨0x01E00010, .cusFatalTs, 64, 8, 1⟩,
   ⟨0x01E00018, .cusFatalDetail, 64, 8, 1⟩, ⟨0x01E01000, .cusSrc, 64, 16, 312⟩, ⟨0x01E01008, .cusSrcDetail, 64, 16, 312⟩]
  ++ (List.range 4).map (fun k => ⟨0x01E10000 + 8 * k, .cusLog k, 64, 0x20, 1024⟩)

def monRows : List RegRow :=
  [⟨0x02010000, .monCntValue, 64, 0x20, 1427⟩, ⟨0x02010008, .monCntTs, 64, 0x20, 1427⟩,
   ⟨0x02010010, .monCntCfg, 32, 0x20, 1427⟩, ⟨0x02040000, .monFlow, 64, 8, 4096⟩,
   ⟨0x02060000, .monDialCfg, 64, 0x200, 16⟩, ⟨0x02080000, .monUserState, 64, 8, 256⟩,
   ⟨0x02090000, .userValue, 64, 16, 256⟩, ⟨0x02090008, .userTs, 64, 16, 256⟩,
   ⟨0x020A0000, .monProvCfg, 64, 8, 1⟩, ⟨0x020A0008, .monProvStatus, 64, 8, 1⟩]
  ++ (List.range 7).map (fun k => ⟨0x02060008 + 8 * k, .monDial k, 64, 0x200, 16⟩)
  ++ (List.range 32).map (fun k => ⟨0x02060100 + 8 * k, .monDialBin k, 64, 0x200, 16⟩)
  ++ (List.range 8).map (fun k => ⟨0x02100000 + 8 * k, .monProv k, 64, 0x40, 8192⟩)

def rgsRows : List RegRow :=
  (List.range 14).map (fun k => ⟨0x02200000 + 8 * k, .rgs k, 64, 8, 1⟩)
  ++ (List.range 8).map (fun k => ⟨0x02300000 + 8 * k, .rgsRing k, 64, 0x40, 16384⟩)

def schRows : List RegRow :=
  [⟨0x02400000, .schCfg, 32, 8, 1⟩, ⟨0x02400008, .schStatus, 64, 8, 1⟩, ⟨0x02410000, .schGroup, 32, 8, 65536⟩]
  ++ (List.range 3).flatMap (fun k =>
    [⟨0x02490000 + 16 * k, .schShaper k, 64, 0x40, 256⟩, ⟨0x02490008 + 16 * k, .schTokens k, 64, 0x40, 256⟩])
  ++ [⟨0x02490030, .schPolState, 32, 0x40, 256⟩]

/-- The physical function's BAR0 (R637). -/
def pfRows : List RegRow :=
  glbRows ++ curRows ++ hifRows ++ movRows ++ xltRows ++ ctxRows ++ catRows ++ carRows ++ mvtRows ++ stkRows ++ rglRows
  ++ lneRows ++ palRows ++ twnRows ++ cusRows ++ monRows ++ rgsRows ++ schRows

/-- A virtual function's BAR0 with its vectors (R190, R203). -/
def vfRows (vectors : Nat) : List RegRow :=
  glbRows ++ admRows 0x1000 ++
  [⟨0x2000, .msixAddr, 64, 16, vectors⟩, ⟨0x2008, .msixData, 64, 16, vectors⟩, ⟨0x3000, .msixPending, 64, 8, 1⟩,
   ⟨0x4000, .rglTime, 64, 8, 1⟩, ⟨0x8000, .userValue, 64, 16, 256⟩, ⟨0x8008, .userTs, 64, 16, 256⟩]

/-- The companion function's BAR0 (R183; log entry 27). -/
def companionRows : List RegRow := glbRows ++ [⟨Config.companionLink, .hifLinkStatus, 32, 8, 1⟩]

/-- A function's BAR0: 64 MiB for the physical function, 64 KiB for the others (R183, R188). -/
def rowsOf (s : State) (fn : Nat) : List RegRow :=
  if fn = 0 then pfRows else if fn = 256 then companionRows else vfRows s.hif.vfVectors

def bar0Size (fn : Nat) : Nat := if fn = 0 then 2 ^ 26 else 2 ^ 16

/-- A register as an access finds it: its name, its number in its array, its own offset and width, and whether the access names
its upper half. -/
structure RegAt where
  name : RegName
  i : Nat
  at_ : Nat
  width : Nat
  upper : Bool
  deriving DecidableEq, Repr

/-- The entry of a row that an offset lies in. -/
def RegRow.find (r : RegRow) (offset : Nat) : Option RegAt :=
  let d := offset - r.base
  let i := d / r.stride
  if offset < r.base || i ≥ r.count then none
  else if d % r.stride = 0 then some ⟨r.name, i, offset, r.width, false⟩
  else if d % r.stride = 4 && r.width = 64 then some ⟨r.name, i, offset - 4, r.width, true⟩
  else none

/-- Registers whose presence the map alone does not decide: the sets of ports without lanes (R179), and the slots of a disabled user
counter page (R564). -/
def regExists (s : State) (fn : Nat) (r : RegAt) : Bool :=
  match r.name with
  | .lnePortStatus | .lnePortCfg | .lnePortFom | .lnePortPeer | .lnePortRetry => hasLanes r.i
  | .userValue | .userTs => (pageOf s fn).en
  | _ => true

/-- The register that an access of `width` bits at an offset reaches: none where the offset is undefined, or the access of another
width than the register's own or, for 64 bits, its half (R17, R18). -/
def locate (s : State) (fn offset width : Nat) : Option RegAt :=
  if (width != 32 && width != 64) || offset % (width / 8) != 0 then none
  else match (rowsOf s fn).findSome? (fun r => r.find offset) with
    | none => none
    | some r => if regExists s fn r && (width = 32 || r.width = 64) then some r else none

/-! ### The value of a register -/

/-- HIF_LINK_STATUS (R208). -/
def hifLinkStatus (s : State) : Nat :=
  let a := s.hif.half0
  let b := s.hif.half1
  place [(0, s.hif.mode), (1, b2n a.up), (2, b2n b.up), (4, a.speed), (8, a.width), (16, b.speed), (20, b.width)]

/-- HIF_FN_STATE (R211). A function is fenced by a fault of its own, and from a reset until its driver enables it (R206, R546). -/
def hifFnState (s : State) (fn : Nat) : Nat :=
  let f := fnOf s fn
  let groups := if fn = 0 then 65536 - s.hif.grants.length else (s.hif.grants.filter (fun kv => kv.2.1 == fn)).length
  place [(0, b2n f.present), (1, b2n f.bme), (2, b2n f.flr), (3, b2n (f.fenced || f.sinceFlr)),
    (4, if f.present then halfOf s fn else 0), (8, if f.present then vectorsOf s fn else 0), (17, groups), (48, f.rid)]

/-- The words of an MSI-X table entry and of the pending bit array (R203). -/
def msixAddrWord (s : State) (fn v : Nat) : Nat := (vecOf s fn v).addr
def msixDataWord (s : State) (fn v : Nat) : Nat := place [(0, (vecOf s fn v).data), (32, b2n (vecOf s fn v).masked)]
def msixPendingWord (s : State) (fn w : Nat) : Nat :=
  ((fnOf s fn).pend.filter (fun v => v / 64 == w)).foldl (fun n v => n + 2 ^ (v % 64)) 0

/-- PAL_RSV_STATUS (R334). -/
def palRsvStatus (s : State) : Nat :=
  let live := s.pal.rsvs.filter (rsvLive s)
  place [(0, live.length), (16, (live.filter (fun r => r.senior)).length), (32, s.pal.rsvEvict % 2 ^ 32)]

/-- CUS_STATUS (R554). -/
def cusStatus (s : State) : Nat :=
  place [(0, b2n s.cus.safePrior), (1, b2n (s.cus.unitFences != [])), (32, s.cus.nextSeq % 2 ^ 32)]

/-- CUS_FATAL (R555). -/
def cusFatal (s : State) : Nat :=
  match s.cus.fatal with
  | none => 0
  | some f => place [(0, f.source), (9, 1), (10, b2n f.isLocal), (16, min f.others 65535)]

/-- ADM_CFG and ADM_STATE (R243, R245). -/
def admCfg (s : State) (fn : Nat) : Nat := place [(0, (admOf s fn).log2), (8, b2n (admOf s fn).enable)]
def admState (s : State) (fn : Nat) : Nat :=
  place [(0, match (admOf s fn).st with | .disabled => 0 | .idle => 1 | .busy => 2), (32, (admOf s fn).cons.toNat)]

/-- Word `k` of a record in bytes. -/
def recordWord (l : List Byte) (k : Nat) : Nat := numAt l (8 * k) 8

/-- Register `k` of a Dial after CFG: MIN to LAST_TS (R574). -/
def dialWord (x : Dial) (k : Nat) : Nat := [x.min, x.minTs, x.max, x.maxTs, x.count, x.sum, x.lastTs].getD k 0

/-- The value that a read of a register returns when nothing is latched (R14): 0 for the words whose value is a reading of another
kind (`lockRead`, `userRead`), and for write-only ones. -/
def regValue (s : State) (fn : Nat) (name : RegName) (i : Nat) : Nat :=
  match name with
  | .glbId => glbId s
  | .glbSerial => glbSerial s
  | .glbStraps => glbStraps s
  | .glbFw => glbFw s
  | .glbDigest k => if k = 0 then glbDigest0 s else glbDigest1 s
  | .admBase => (admOf s fn).base
  | .admHead => (admOf s fn).head
  | .admCfg => admCfg s fn
  | .admDb => 0
  | .admState => admState s fn
  | .mailbox k => recordWord (replyBytes (admOf s fn).mailbox) k
  | .curStatus => curStatus s
  | .curExpert => curExpert s
  | .hifLinkStatus => hifLinkStatus s
  | .hifFnCfg => hifFnCfg s
  | .hifWcStatus => s.hif.wc.length
  | .hifFnState => hifFnState s i
  | .hifQueueState => queueState s i
  | .msixAddr => msixAddrWord s fn i
  | .msixData => msixDataWord s fn i
  | .msixPending => msixPendingWord s fn i
  | .movCfg => movCfg s
  | .movStatus => movStatus s
  | .movAppend => 0
  | .movCh k => (movCh s i).getD k 0
  | .xltCfg => xltCfg s
  | .xltStatus => xltStatus s
  | .xltUsage => xltUsage s
  | .xltFnUsage => xltFnUsage s i
  | .ctxCfg => ctxCfg s
  | .ctxStatus => ctxStatus s
  | .ctxState => ctxState s i
  | .ctxCounter => ctxCounter s i
  | .catCfg => catCfg s
  | .catStatus => catStatus s
  | .catEp => catEp s i
  | .carCfg => carCfg s
  | .carStatus => carStatus s
  | .carGroup k => (carWords s i).getD k 0
  | .mvtShape => mvtShape s
  | .mvtSelf => mvtSelf s
  | .mvtRouteCfg => mvtRouteCfg s
  | .mvtEpoch => mvtEpoch s
  | .mvtEpochT => s.mvt.epochT
  | .mvtEpochR => s.mvt.epochR
  | .mvtPace => mvtPace s
  | .mvtPaceTs => s.mvt.paceTs
  | .mvtPaceLimit => mvtPaceLimit s
  | .mvtPortCfg => mvtPortCfg s i
  | .stkState => stkState s
  | .stkEpochT => s.stk.epochT
  | .stkEpochR => s.stk.epochR
  | .stkCfg => stkCfg s
  | .stkFlow => stkFlow s i
  | .stkNextOpen => nextOpen s i
  | .rglTime => stamp s
  | .rglStatus => rglStatus s
  | .rglOffset => rglOffset s
  | .rglCfg => rglCfg s
  | .rglRoot => rglRoot s
  | .lneCfg => lneCfg s
  | .lneTableStatus => lneTableStatus s
  | .lneRefStatus => lneRefStatus s
  | .lnePortStatus => lnePortStatus s i
  | .lnePortCfg => lnePortCfg s i
  | .lnePortFom => lnePortFom s i
  | .lnePortPeer => lnePortPeer s i
  | .lnePortRetry => lnePortRetry s i
  | .palCfg => palCfg s
  | .palStatus => palStatus s
  | .palGroup => palGroup s i
  | .palLock => lockWord (lockOf s i)
  | .palWait => lockWord (lockOf s i)
  | .palRsvStatus => palRsvStatus s
  | .twnCfg => twnCfg s
  | .twnMirrorBase => s.twn.base
  | .twnStatus => twnStatus s
  | .twnDeathTs => twnDeathTs s
  | .twnAdoptCount => twnAdoptCount s
  | .cusStatus => cusStatus s
  | .cusFatal => cusFatal s
  | .cusFatalTs => match s.cus.fatal with | some f => f.ts | none => 0
  | .cusFatalDetail => match s.cus.fatal with | some f => f.detail | none => 0
  | .cusSrc => srcWord s i
  | .cusSrcDetail => srcDetail s i
  | .cusLog k => recordWord (logBytes (logSlot s i)) k
  | .monCntValue => (cntOf s i).value
  | .monCntTs => fmGet s.mon.cntTs i 0
  | .monCntCfg => cntCfg s i
  | .monFlow => monFlow s i
  | .monDialCfg => dialCfg (dialOf s i)
  | .monDial k => dialWord (dialOf s i) k
  | .monDialBin k => fmGet (dialOf s i).bins k 0
  | .monUserState => userState s i
  | .userValue => match pageCounter s fn i with | some n => (cntSlot s n).1 | none => 0
  | .userTs => match pageCounter s fn i with | some n => (cntSlot s n).2 | none => 0
  | .monProvCfg => provCfg s
  | .monProvStatus => provStatus s
  | .monProv k => recordWord (provBytes (provSlot s i)) k
  | .rgs k => (rgsWords s).getD k 0
  | .rgsRing k => recordWord (recBytes (regSlot s i)) k
  | .schCfg => schCfg s
  | .schStatus => schStatus s
  | .schGroup => schGroup s i
  | .schShaper k => (schFn s i).getD (2 * k) 0
  | .schTokens k => (schFn s i).getD (2 * k + 1) 0
  | .schPolState => (schFn s i).getD 6 0

/-! ### Reads -/

/-- The companions that a read of a register latches, by their distance from it (R43, R89, R118, R120, R258, R443, R476, R538,
R555 to R557, R564, R572, R574, R577, R596). -/
def companions : RegName → List Nat
  | .mvtPace => [8]
  | .mvtEpoch => [8, 16]
  | .stkState => [8, 16]
  | .stkFlow => [8]
  | .mailbox 0 => [8, 16, 24]
  | .carGroup 0 => [8]
  | .movCh 0 => [8, 16]
  | .twnStatus => [8]
  | .cusFatal => [8, 16]
  | .cusSrc => [8]
  | .cusLog 0 => [8, 16, 24]
  | .monCntValue => [8]
  | .monDial 0 => (List.range 6).map (fun k => 8 + 8 * k) ++ (List.range 32).map (fun b => 0xF8 + 8 * b)
  | .userValue => [8]
  | .monProv 0 => (List.range 7).map (fun k => 8 + 8 * k)
  | .rgsRing 0 => (List.range 7).map (fun k => 8 + 8 * k)
  | _ => []

/-- The key of a latch or a held value: one for each register word and requesting function (R17). -/
def latchKey (fn offset : Nat) : Nat := fn * 2 ^ 26 + offset

/-- Latch one word. -/
def setLatch (fn offset v : Nat) (s : State) : State :=
  { s with hif := { s.hif with latch := fmSet s.hif.latch (latchKey fn offset) v } }

def dropLatch (fn offset : Nat) (s : State) : State :=
  { s with hif := { s.hif with latch := fmErase s.hif.latch (latchKey fn offset) } }

/-- Reading a counter's value samples it, and MON_CNT_TS is the sample's time-stamp (R561, R572). -/
def sampleRead (s : State) (r : RegAt) : State :=
  match r.name with
  | .monCntValue => { s with mon := { s.mon with cntTs := fmSet s.mon.cntTs r.i (stamp s) } }
  | _ => s

/-- The companions of a register are latched for the reads that follow. -/
def latchCompanions (s : State) (fn : Nat) (r : RegAt) : State :=
  (companions r.name).foldl (fun s d =>
    match locate s fn (r.at_ + d) 64 with
    | some c => setLatch fn (r.at_ + d) (regValue s fn c.name c.i) s
    | none => s) s

/-- The whole value of a register for a read: what is latched for it, else its present value. The time-stamp word of a user page that
no read of its slot has latched is a sample's time-stamp that the spec does not state. -/
def fullValue (s : State) (fn : Nat) (r : RegAt) : State × Nat :=
  match fmFind s.hif.latch (latchKey fn r.at_) with
  | some v => (s, v)
  | none =>
    if r.name = .userTs && (pageCounter s fn r.i).isSome then
      let (v, s) := draw s
      (s, v % 2 ^ 64)
    else (s, regValue s fn r.name r.i)

/-- The two words of MSI-X entries and the pending bits: their 32-bit halves are words of their own (R203). -/
def isMsix (n : RegName) : Bool := n = .msixAddr || n = .msixData || n = .msixPending

/-- A read of a register: its upper half by its latch, the rest with what it latches (R17). -/
def readReg (s : State) (fn width : Nat) (r : RegAt) : State :=
  if r.upper then
    match (if isMsix r.name then none else fmFind s.hif.latch (latchKey fn (r.at_ + 4))) with
    | some v => readBack (dropLatch fn (r.at_ + 4) s) fn v
    | none =>
      let (s, v) := fullValue s fn r
      readBack s fn (v / 2 ^ 32)
  else
    let s := sampleRead s r
    let (s, v) := fullValue s fn r
    let s := latchCompanions (dropLatch fn r.at_ s) fn r
    if width = 32 && r.width = 64 && !isMsix r.name then readBack (setLatch fn (r.at_ + 4) (v / 2 ^ 32) s) fn (v % 2 ^ 32)
    else readBack s fn (v % 2 ^ width)

/-- A read of a lock word by the physical function: 0 with PAL_DENIED where its group is not in service (R502, R503). -/
def lockWordRead (s : State) (fn n : Nat) : State :=
  if fnMayLock s fn n then readBack s fn (lockWord (lockOf s n)) else readBack (fault s 137 n) fn 0

/-- A read of `width` bits at an offset of a function's BAR0. -/
def readAccess (s : State) (fn offset width : Nat) : State :=
  if !reaches s fn || offset ≥ bar0Size fn then s
  else match locate s fn offset width with
    | none => readBack (fault s 36 offset) fn 0
    | some r =>
      match r.name with
      | .palLock => lockWordRead s fn r.i
      | .palWait => lockWaitRead s fn r.i
      | _ => readReg s fn width r

/-! ### Writes -/

/-- Registers that are no one's to control: the admin page, doorbells, locks and MSI-X (R203, R243, R262). -/
def exempt : RegName → Bool
  | .admBase | .admHead | .admCfg | .admDb | .movAppend | .palLock | .palWait | .msixAddr | .msixData => true
  | _ => false

/-- The halves of a register that hold RW, RW1C or WO fields: lower, upper (R14). -/
def controlled : RegName → Bool × Bool
  | .hifFnCfg | .movCfg | .xltCfg | .ctxCfg | .catCfg | .carCfg | .mvtRouteCfg | .mvtPaceLimit | .mvtPortCfg | .stkCfg
  | .rglStatus | .rglCfg | .lneCfg | .lneRefStatus | .lnePortStatus | .lnePortCfg | .palCfg | .palGroup | .twnCfg
  | .twnStatus | .cusStatus | .cusSrc | .monCntCfg | .schCfg | .schGroup | .schPolState => (true, false)
  | .twnMirrorBase | .monDialCfg | .monProvCfg | .schShaper _ => (true, true)
  | _ => (false, false)

/-- Writing 1 clears an RW1C bit, unless hardware has set it in this tick (R14, R15). -/
def clears (s : State) (v bit kind n : Nat) : Bool := bitAt v bit && !s.justSet.contains (kind, n)

/-- MOV, XLT, CTX, CAT and CAR: their one register of settings (R304, R369, R400, R441, R473). -/
def writeEngineCfg (s : State) (name : RegName) (v : Nat) : State :=
  match name with
  | .movCfg => { s with mov := { s.mov with rrBeats := field v 0 8 } }
  | .xltCfg => { s with xlt := { s.xlt with localTimeout := field v 0 8, tgtEn := bitAt v 8 } }
  | .ctxCfg => { s with ctx := { s.ctx with ackDelay := field v 0 8, peerIdle := field v 8 8, fastRetx := bitAt v 16 } }
  | .catCfg => { s with cat := { s.cat with eagerMax := field v 0 14 } }
  | .carCfg => { s with car := { s.car with createTimeout := field v 0 8, lostNotify := bitAt v 8 } }
  | _ => s

/-- MVT_ROUTE_CFG, STK_CFG and LNE_CFG (R88, R119, R176). -/
def writeFabricCfg (s : State) (name : RegName) (v : Nat) : State :=
  match name with
  | .mvtRouteCfg => { s with mvt := { s.mvt with
      escDelay := field v 0 10, detourEn := bitAt v 10, detourWait := field v 11 10 } }
  | .stkCfg => { s with stk := { s.stk with checkEn := bitAt v 0, lateEvt := bitAt v 1 } }
  | .lneCfg => { s with lne := { s.lne with fomMin := field v 0 8, fomWarn := field v 8 8, retryMax := field v 16 4 } }
  | _ => s

/-- LNE_PORT_CFG: the sleep settings, then RETRAIN (R179). -/
def writeLanePort (s : State) (p v : Nat) : State :=
  let s := modLane s p (fun l => { sleepOn (p != 14 && bitAt v 0) (now s) l with
    sleepEn := if p = 14 then l.sleepEn else bitAt v 0, sleepIdle := field v 1 10 })
  if bitAt v 11 then retrain s p else s

/-- PAL_GROUP (R513). -/
def writePalGroup (s : State) (g v : Nat) : State :=
  { s with pal := { s.pal with
      groups := fmSet s.pal.groups g {
        tenant := field v 0 8, fnEn := bitAt v 8, fw := bitAt v 9, twin := bitAt v 10, remote := bitAt v 11, configured := bitAt v 12 } } }

/-- TWN_CFG and TWN_MIRROR_BASE: ignored while SYNCING or PAIRED (R537). -/
def writeTwin (s : State) (name : RegName) (v : Nat) : State :=
  if twinPaired s then s
  else match name with
    | .twnCfg => { s with twn := { s.twn with adoptEn := bitAt v 0, stopEn := bitAt v 1 } }
    | .twnMirrorBase => { s with twn := { s.twn with base := v / 2 ^ 21 * 2 ^ 21 } }
    | _ => s

/-- CUS_SRC: SEV, and SEEN (R542, R556). -/
def writeSrc (s : State) (src v : Nat) : State :=
  let s := setSev s src (field v 0 2)
  if clears s v 8 0 src then
    { s with cus := { s.cus with srcs := fmModify s.cus.srcs src {} (fun e => { e with seen := false }) } }
  else s

/-- MON_CNT_CFG: MODE and THRESH from the next tick, WRAPPED and SATURATED (R562, R572). -/
def writeCnt (s : State) (n v : Nat) : State :=
  let s := cntConfig s n (some (bitAt v 0)) (some (field v 8 24)) false
  let c := cntOf s n
  { s with mon := { s.mon with
      cnt := fmSet s.mon.cnt n { c with
        wrapped := c.wrapped && !clears s v 1 4 n, saturated := c.saturated && !clears s v 2 5 n } } }

/-- MON_DIAL_CFG: a reserved KIND stays as it is (R19, R566, R568, R574). -/
def writeDial (s : State) (d v : Nat) : State :=
  let x := dialOf s d
  let kind := if field v 0 4 > 10 then x.kind else field v 0 4
  setDial s d { dialSource x kind (field v 8 5) (field v 32 32) with en := bitAt v 4 }

/-- MON_PROV_CFG written directly has the effect of R569; the count of R571 goes on from the latest PROV_CONFIG. -/
def writeProv (s : State) (v : Nat) : State :=
  let t := setProv s v
  { t with mon := { t.mon with provSince := s.mon.provSince, provFull := s.mon.provFull } }

/-- SCH_SH0_CFG, SCH_SH1_CFG and SCH_POL_CFG (R488, R490, R497). -/
def writeShaper (s : State) (fn k v : Nat) : State :=
  let f := fnSched s fn
  let new := fun (x : Shaper) (full : Bool) => changeShaper x (bitAt v 48) (field v 0 32) (field v 32 16) full
  setFnSched s fn
    (if k = 0 then { f with sh0 := new f.sh0 (bitAt v 49) }
     else if k = 1 then { f with sh1 := new f.sh1 (bitAt v 49) }
     else { f with pol := new f.pol true })

/-- RW1C bits outside MON and CUS_SRC: RGL_STATUS.SYNC_LOST, LNE_REF_STATUS.SEEN, MISWIRE, CONFLICT, SAFE_PRIOR, EXCEEDED (R142, R178,
R179, R497, R538, R554). -/
def writeOneToClear (s : State) (name : RegName) (i v : Nat) : State :=
  match name with
  | .rglStatus => { s with rgl := { s.rgl with syncLost := s.rgl.syncLost && !clears s v 5 2 0 } }
  | .lneRefStatus =>
    let keep := (List.range 4).foldl (fun n b => n + b2n (bitAt s.lne.refSeen b && !clears s v (8 + b) 3 b) * 2 ^ b) 0
    { s with lne := { s.lne with refSeen := keep } }
  | .lnePortStatus => modLane s i (fun l => { l with miswire := l.miswire && !clears s v 23 1 i })
  | .twnStatus => { s with twn := { s.twn with conflict := s.twn.conflict && !clears s v 8 6 0 } }
  | .cusStatus => { s with cus := { s.cus with safePrior := s.cus.safePrior && !bitAt v 0 } }
  | .schPolState =>
    let f := fnSched s i
    setFnSched s i { f with exceeded := f.exceeded && !clears s v 0 7 i }
  | _ => s

/-- A vector's table entry is written; a pending vector that is not masked any more sends its message (R203, R204). -/
def writeVector (s : State) (fn i : Nat) (x : MsixVec) : State := sendPending fn (setVec s fn i x) i

/-- The admin page, doorbells, locks and MSI-X (R194, R203, R243 to R246, R475, R503). -/
def writeExempt (s : State) (fn : Nat) (r : RegAt) (v : Nat) : State :=
  let a := admOf s fn
  match r.name with
  | .admBase => if a.st = .disabled then setAdm s fn { a with base := v / 2 ^ 12 * 2 ^ 12 } else s
  | .admHead => if a.st = .disabled then setAdm s fn { a with head := v / 4 * 4 } else s
  | .admCfg => if bitAt v 8 then enableAdm s fn v else disableAdm s fn v
  | .admDb => admDoorbell s fn (BitVec.ofNat 32 v)
  | .movAppend => movAppend s fn v
  | .palLock | .palWait => lockWordWrite s fn r.at_ v
  | .msixAddr => writeVector s fn r.i { vecOf s fn r.i with addr := v / 4 * 4 }
  | .msixData => writeVector s fn r.i { vecOf s fn r.i with data := field v 0 32, masked := bitAt v 32 }
  | _ => s

/-- The physical function's write to a register of a block in expert mode; `v` is the whole word (R14, R19). -/
def writeReg (s : State) (r : RegAt) (v : Nat) : State :=
  match r.name with
  | .hifFnCfg => writeFnCfg s v 0x1F
  | .rglCfg => writeRglCfg s v 0xFF07
  | .mvtPaceLimit => writePaceLimit s v 0x1FFFF
  | .mvtPortCfg => portFenceWrite s 0 r.i v
  | .lnePortCfg => writeLanePort s r.i v
  | .palCfg => { s with pal := { s.pal with notify := bitAt v 0 } }
  | .palGroup => writePalGroup s r.i v
  | .twnCfg | .twnMirrorBase => writeTwin s r.name v
  | .cusSrc => writeSrc s r.i v
  | .monCntCfg => writeCnt s r.i v
  | .monDialCfg => writeDial s r.i v
  | .monProvCfg => writeProv s v
  | .schCfg => { s with sch := { s.sch with defaultQuantum := field v 0 8, sampleEn := bitAt v 8 } }
  | .schGroup => setGroup s r.i { groupSched s r.i with quantum := field v 0 8 }
  | .schShaper k => writeShaper s r.i k v
  | .mvtRouteCfg | .stkCfg | .lneCfg => writeFabricCfg s r.name v
  | .rglStatus | .lneRefStatus | .lnePortStatus | .twnStatus | .cusStatus | .schPolState => writeOneToClear s r.name r.i v
  | _ => writeEngineCfg s r.name v

/-- A write that reaches a register: refused outside expert mode and to virtual functions where it covers a controlled field, and
without effect where it covers none (R14, R262). `upperOnly` leaves the lower half as it is. -/
def applyWrite (s : State) (fn offset : Nat) (r : RegAt) (v : Nat) (upperOnly : Bool) : State :=
  let old := regValue s fn r.name r.i
  let v := if upperOnly then old % 2 ^ 32 + v / 2 ^ 32 * 2 ^ 32 else v
  if r.name = .userValue || r.name = .userTs then fault s 36 offset
  else if exempt r.name then writeExempt s fn r v
  else if (controlled r.name).2 || (!upperOnly && (controlled r.name).1) then
    if fn != 0 || !isExpert s (r.at_ / 2 ^ 20) then basicWrite s offset else writeReg s r v
  else s

/-- A write of `width` bits at an offset of a function's BAR0. The lower half of a 64-bit register is held until its upper half
comes (R17). -/
def writeAccess (s : State) (fn offset width v : Nat) : State :=
  if !reaches s fn || offset ≥ bar0Size fn then s
  else match locate s fn offset width with
    | none => fault s 36 offset
    | some r =>
      let key := latchKey fn r.at_
      let low := v % 2 ^ 32
      if width = 64 || r.width = 32 then applyWrite s fn offset r (v % 2 ^ width) false
      else if isMsix r.name then
        let old := regValue s fn r.name r.i
        applyWrite s fn offset r (if r.upper then old % 2 ^ 32 + low * 2 ^ 32 else old / 2 ^ 32 * 2 ^ 32 + low) false
      else if r.name = .userValue || r.name = .userTs then fault s 36 offset
      else if !r.upper then { s with hif := { s.hif with held := fmSet s.hif.held key low } }
      else match fmFind s.hif.held key with
        | none => applyWrite s fn offset r (low * 2 ^ 32) true
        | some h => applyWrite { s with hif := { s.hif with held := fmErase s.hif.held key } } fn offset r (h + low * 2 ^ 32) false

/-! ### The rows of the table -/

/-- ADM_MAILBOX_READ: a 64-bit read of ADM_MAILBOX0 of a function's own page (R258). -/
def mailboxRead (s : State) (fn : Nat) : State := readAccess s fn (if fn = 0 then 0x00100040 else 0x1040) 64

/-- USER_PAGE_READ: a read at an offset of a function's user counter page (R564). -/
def userPageRead (s : State) (fn offset width : Nat) : State :=
  if offset ≥ 4096 then s else readAccess s fn ((if fn = 0 then 0x02090000 else 0x8000) + offset) width

/-- LATCHING_REGISTER_READ: a host read of a function's BAR0, 2 or 4. One of BAR2 or BAR4 returns 0, and does nothing else (R191); the
companion function has no such BARs (R183). -/
def barRead (s : State) (fn bar offset width : Nat) : State :=
  if bar = 0 then readAccess s fn offset width
  else if reaches s fn && (bar == 2 || bar == 4) && fn != 256 then readBack s fn 0
  else s

/-- UNDEFINED_OFFSET_ACCESS: an access where no register is defined, or of a wrong width; with `sparse`, one whose byte enables do not
select every byte of its width, at any offset (R18). Nothing for a full access to a register. -/
def undefinedAccess (s : State) (fn offset width : Nat) (write sparse : Bool) : State :=
  if !reaches s fn || offset ≥ bar0Size fn || ((locate s fn offset width).isSome && !sparse) then s
  else if write then fault s 36 offset else readBack (fault s 36 offset) fn 0

end Sys2Proof.Machine
end

