-- ==== Sys2Proof/Machine/Settle.lean ====
section
/-! DEFINITION. What follows every command's own effect in the same step: the reactions of the engines that wait on no event of
their own, and the Custodian's handling of what was raised (R543 to R552); and the wrappers that every meaning runs in. -/

namespace Sys2Proof.Machine

/-- BARRIERs that have nothing left to flush end once their function's memory may be accessed (R185, R320). -/
def resumeBarriers (s : State) : State :=
  let waiting := s.rings.queues.flatMap (fun kv =>
    if !canAccess s kv.2.fn then []
    else (kv.2.jobs.filter (fun j => j.opcode == 0x20 && j.st == .running && j.flush == [])).map (fun j => (kv.1, j.idx)))
  waiting.foldl (fun s x => endBarrier s x.1 x.2) s

/-- The engines go as far as they can: the twin block's reaction to a lost bridge, the Carillon's operations, and barriers. -/
def react (s : State) : State := resumeBarriers (carPump (ungateAll (bridgeReact s)))

/-- What is ready to leave: contexts whose peers are fenced or are not any more, active lists, twin frames, and what the ports have to send or
to tell. -/
def flushOut (s : State) : State := kickAll (flushFrames (relist (holdContexts s)))

/-- Handle everything raised in this step, and what the handling itself raises. -/
def settleN : Nat → State → State
  | 0, s => { s with cus := { s.cus with raised := [] } }
  | n + 1, s =>
    let s := react s
    match s.cus.raised with
    | [] => flushOut s
    | os => settleN n (handleOccs { s with cus := { s.cus with raised := [] } } os)

/-- The end of a step. -/
def settle (s : State) : State := settleN 16 s

/-- What a command of the main die leaves as it was whatever it does: the queue of the commands that wait behind it, and the Registrar,
into which no path of the main die but the tap leads (R580, R587). -/
def keep (s t : State) : State := { t with pending := s.pending, rgs := s.rgs }

/-- The state after a command of the main die whose own effect is `u`: what follows in the same step is done. -/
def conclude (s u : State) : State := keep s (settle u)

/-- What a command does to a running device: nothing in reset or in the safe state (R551, R599); else its effect,
then what follows in the same step. -/
def live (f : State → State) (s : State) : Host.Outcome State Fault Refusal :=
  .next (if running s then conclude s (f s) else s)

/-- What a command does to the main die whatever its condition, with all that follows in the same step. -/
def die (f : State → State) (s : State) : Host.Outcome State Fault Refusal := .next (keep s (f s))

/-- What a command of the Registrar's own does: it is independent of the main die's condition (R580). -/
def registrar (f : State → State) (s : State) : Host.Outcome State Fault Refusal := .next { f s with pending := s.pending }

/-- An event of a port with lanes: a port without them has none (R26, R146). -/
def laneEvent (p : Nat) (f : State → State) (s : State) : Host.Outcome State Fault Refusal :=
  if hasLanes p then live f s else .fault (.noSuchPort p)

end Sys2Proof.Machine
end

