-- ==== Sys2Proof/Machine/Ticks.lean ====
section
/-! DEFINITION. The tick of the Regulator and what happens in every tick (R12, R123, R130, R486, R488, R559, R566), the stop of a
Curator core (R277), and occurrences from outside the device's own checks. -/

namespace Sys2Proof.Machine

/-! ### Occupancy counters (R558, R559) -/

/-- What every occupancy counter's quantity is now; those not listed are 0. Device reads of host memory end in the tick in which they
are made. -/
def quantities (s : State) : List (Nat × Nat) :=
  (s.mvt.bufs.filter (fun kv => hasLanes (kv.1 / 16))).map (fun kv => (40 + 10 * portIx (kv.1 / 16) + kv.1 % 16, flitsHeld kv.2))
  ++ (List.range 12).map (fun p => (170 + p, stalledChannels s p))
  ++ (List.range 12).map (fun p => (187 + 7 * p, b2n ((laneOf s p).tx == .sleep)))
  ++ [(333, headerCount s), (334, blockCount s), (393, s.twn.gate.length), (397, b2n s.rgl.holdover), (399, busyCores s)]
  ++ (s.mvt.heldFor.map (·.2)).eraseDups.map (fun fn => (406 + 4 * fn, heldCount s fn))

/-- The present levels as the largest of the tick so far, zeros left out. -/
def levelsNow (s : State) : FMap Nat :=
  ((quantities s).filter (fun x => x.2 != 0)).foldl (fun m x => fmModify m x.1 0 (max · x.2)) []

/-- The tick ends for one occupancy counter: it adds 1 if its largest level exceeds THRESH, as THRESH was in the tick. -/
def closeLevel (s : State) (x : Nat × Nat) : State :=
  let c := cntOf s x.1
  if x.2 > (match c.old with | some (_, t) => t | none => c.thresh) then bump s x.1 else s

/-- The largest level of each quantity in the tick that ends. -/
def tickLevels (s : State) : FMap Nat :=
  (levelsNow s).foldl (fun m x => fmModify m x.1 0 (max · x.2)) s.mon.peak

/-- The end of a tick: occupancy counters add, and what holds for one tick only is over (R15, R45, R545, R562, R568). -/
def closeTick (s : State) : State :=
  let s := (tickLevels s).foldl closeLevel s
  { s with
    justSet := [],
    mvt := { s.mvt with limitOld := none },
    cus := { s.cus with srcs := s.cus.srcs.map (fun kv => (kv.1, { kv.2 with sevOld := none })) },
    mon := { s.mon with
      inTick := [], peak := levelsNow s, cnt := s.mon.cnt.map (fun kv => (kv.1, { kv.2 with old := none })),
      dials := s.mon.dials.map (fun kv => (kv.1, { kv.2 with recent := [] })) } }

/-! ### Time (R12, R123, R130) -/

/-- One tick of the Regulator: 4 units of 0.25 ns, and a unit more or less when the steering correction has come to one. -/
def advanceTime (s : State) : State :=
  let d : Int := match s.rgl.steerLeft with
    | none => s.rgl.steer
    | some n => max (-(n : Int)) (min (n : Int) s.rgl.steer)
  let f := s.rgl.frac + d
  let step : Int := if f ≥ 1000000 then 1 else if f ≤ -1000000 then -1 else 0
  { s with rgl := { s.rgl with
      steerLeft := s.rgl.steerLeft.map (· - d.natAbs),
      ticks := s.rgl.ticks + 1, time := ((s.rgl.time : Int) + 4 + step).toNat % 2 ^ 64, frac := f - step * 1000000 } }

/-! ### Shapers and policers (R486, R488, R490) -/

/-- The most that a bucket holds; BURST 0 acts as 1 (R497). -/
def bucketCap (x : Shaper) : Nat := max 1 x.burst * 1000000000

/-- A reset that falls due is applied; then an enabled bucket adds RATE, up to its cap. -/
def shaperTick (x : Shaper) (full : Bool) : Shaper :=
  let x := { x with oldEn := none }
  let x := if x.due then { x with due := false, tokens := if full then bucketCap x else 0 } else x
  if x.en then { x with tokens := min (x.tokens + x.rate) (bucketCap x) } else x

/-- Every function's buckets. -/
def shaperTicks (s : State) : State :=
  { s with sch := { s.sch with
      fns := s.sch.fns.map (fun kv => (kv.1, { kv.2 with
        sh0 := shaperTick kv.2.sh0 kv.2.sh0.resetFull, sh1 := shaperTick kv.2.sh1 kv.2.sh1.resetFull, pol := shaperTick kv.2.pol true })) } }

/-- The VC_LEVEL samples of Dials: the flits held, at each tick that is a multiple of 64 (R566). -/
def levelSamples (s : State) : State :=
  if tickNow s % 64 != 0 then s
  else (((List.range 12) ++ [14]).flatMap (fun p => (List.range 10).map (fun v => (p, v)))).foldl (fun (s : State) (x : Nat × Nat) =>
    sampleDials s 4 (fun arg => field arg 0 4 == x.1 && field arg 4 4 == x.2) (flitsHeld (bufOf s (bufKey x.1 x.2)))) s

/-- A transmitter without flits to send sends empty groups: one group takes 12.375 ticks (R156). -/
def idleGroups (s : State) : State :=
  if s.rgl.ticks * 8 % 99 ≥ 8 then s
  else { s with lne := { s.lne with ports := s.lne.ports.map (fun kv =>
    (kv.1, if kv.2.tx == .active && kv.2.sendq = [] then emit kv.1 kv.2.nextSeq [] { kv.2 with sent := [] } else kv.2)) } }

/-- SHAPER_TICK: the device goes from one tick to the next. In the safe state only the Regulator counts on (R551); in reset nothing
does (R599). -/
def deviceTick (s : State) : State :=
  if s.inReset then s
  else if s.cus.safe then advanceTime s
  else idleGroups (levelSamples (shaperTicks (advanceTime (closeTick (settleWrites s)))))

/-! ### A Curator core stops (R277, R507, R546) -/

/-- The body of each command, by opcode (R259). -/
def commandBody (fn : Nat) (c : Cmd) : Option (State → State × CmdOut) :=
  match c.opcode with
  | 0x0100 => some (deviceNop fn c)
  | 0x0101 => some (deviceIdentify fn c)
  | 0x0102 => some (deviceConfig fn c)
  | 0x0103 => some (expertEnter fn c)
  | 0x0104 => some (expertLeave fn c)
  | 0x0105 => some (fwQuery fn c)
  | 0x0106 => some (fwStage fn c)
  | 0x0107 => some (fwCommit fn c)
  | 0x0108 => some (fwDiscard fn c)
  | 0x0180 => some (groupGrant fn c)
  | 0x0181 => some (groupReclaim fn c)
  | 0x0182 => some (queueCreate fn c)
  | 0x0183 => some (drainQueue false fn c)
  | 0x0184 => some (drainQueue true fn c)
  | 0x0185 => some (queueQuery fn c)
  | 0x0186 => some (eventRingCreate fn c)
  | 0x0187 => some (eventRingDestroy fn c)
  | 0x0188 => some (eventRingClear fn c)
  | 0x0200 => some (connCreate fn c)
  | 0x0201 => some (connConnect fn c)
  | 0x0202 => some (connDestroy fn c)
  | 0x0203 => some (connReset fn c)
  | 0x0204 => some (connQuery fn c)
  | 0x0210 => some (counterAlloc fn c)
  | 0x0211 => some (counterFree fn c)
  | 0x0212 => some (counterQuery fn c)
  | 0x0220 => some (ctxConfig fn c)
  | 0x0300 => some (regionCreate fn c)
  | 0x0301 => some (regionRevoke fn c)
  | 0x0302 => some (regionDestroy fn c)
  | 0x0303 => some (regionQuery fn c)
  | 0x0304 => some (regionInvalidate fn c)
  | 0x0305 => some (faultRingCreate fn c)
  | 0x0306 => some (faultRingDestroy fn c)
  | 0x0307 => some (pageResolve fn c)
  | 0x0308 => some (xltConfig fn c)
  | 0x0400 => some (endpointCreate fn c)
  | 0x0401 => some (endpointDestroy fn c)
  | 0x0402 => some (endpointQuery fn c)
  | 0x0403 => some (catConfig fn c)
  | 0x0500 => some (groupCreate fn c)
  | 0x0501 => some (groupDestroy fn c)
  | 0x0502 => some (groupQuery fn c)
  | 0x0503 => some (groupRebuild fn c)
  | 0x0504 => some (carConfig fn c)
  | 0x0600 => some (routeQuery fn c)
  | 0x0601 => some (routeConfig fn c)
  | 0x0602 => some (routePortFence fn c)
  | 0x0603 => some (routeEpochChange fn c)
  | 0x0604 => some (routeTableRead fn c)
  | 0x0700 => some (strikeQuery fn c)
  | 0x0701 => some (strikeStage fn c)
  | 0x0702 => some (strikeActivate fn c)
  | 0x0703 => some (strikeDiscard fn c)
  | 0x0704 => some (strikeFlowBind fn c)
  | 0x0705 => some (strikeFlowUnbind fn c)
  | 0x0706 => some (strikeConfig fn c)
  | 0x0800 => some (laneQuery fn c)
  | 0x0801 => some (laneRetrain fn c)
  | 0x0802 => some (laneSleepConfig fn c)
  | 0x0803 => some (laneTableRead fn c)
  | 0x0804 => some (laneConfig fn c)
  | 0x0900 => some (lockClaim fn c)
  | 0x0901 => some (lockRelease fn c)
  | 0x0902 => some (lockQuery fn c)
  | 0x0903 => some (lockGroupConfig fn c)
  | 0x0904 => some (lockPeer fn c)
  | 0x0905 => some (wordLockClaim fn c)
  | 0x0906 => some (wordLockRelease fn c)
  | 0x0A00 => some (twinQuery fn c)
  | 0x0A01 => some (twinConfig fn c)
  | 0x0A02 => some (twinRetrain fn c)
  | 0x0A03 => some (twinAdopt fn c)
  | 0x0B00 => some (counterRead fn c)
  | 0x0B01 => some (counterConfig fn c)
  | 0x0B02 => some (userPageConfig fn c)
  | 0x0B03 => some (dialConfig fn c)
  | 0x0B04 => some (dialRead fn c)
  | 0x0B05 => some (provConfig fn c)
  | 0x0B06 => some (provRead fn c)
  | 0x0B10 => some (faultSevSet fn c)
  | 0x0B11 => some (faultQuery fn c)
  | 0x0B12 => some (faultLogRead fn c)
  | 0x0C00 => some (registrarQuery fn c)
  | 0x0C01 => some (registrarRead fn c)
  | 0x0D00 => some (chanAlloc fn c)
  | 0x0D01 => some (chanFree fn c)
  | 0x0D02 => some (chanQuery fn c)
  | 0x0D03 => some (chanPriority fn c)
  | 0x0D04 => some (moverConfig fn c)
  | 0x0E00 => some (schedGroupQuery fn c)
  | 0x0E01 => some (schedGroupQuantum fn c)
  | 0x0E02 => some (schedShaperConfig fn c)
  | 0x0E03 => some (schedPolicerConfig fn c)
  | 0x0E04 => some (schedFnQuery fn c)
  | 0x0E05 => some (schedQueueSample fn c)
  | 0x0E06 => some (schedConfig fn c)
  | _ => none

/-- What part of the effect that leads from `s` to `u` has taken place: the units whose bits of `v` are set have changed, the others have not. -/
def partOf (v : Nat) (s u : State) : State :=
  let pick := fun {α : Type} (i : Nat) (a b : α) => if bitAt v i then b else a
  { u with
    brd := pick 0 s.brd u.brd, mon := pick 1 s.mon u.mon, hif := pick 2 s.hif u.hif, rings := pick 3 s.rings u.rings, cur := pick 4 s.cur u.cur,
    rgl := pick 5 s.rgl u.rgl, mvt := pick 6 s.mvt u.mvt, lne := pick 7 s.lne u.lne, stk := pick 8 s.stk u.stk, sch := pick 9 s.sch u.sch,
    xlt := pick 10 s.xlt u.xlt, ctx := pick 11 s.ctx u.ctx, pal := pick 12 s.pal u.pal, cat := pick 13 s.cat u.cat, car := pick 14 s.car u.car,
    mov := pick 15 s.mov u.mov, twn := pick 16 s.twn u.twn, host := pick 17 s.host u.host, cus := pick 18 s.cus u.cus, epo := pick 19 s.epo u.epo }

/-- The command that a stopped core was executing ends with TIMEOUT; the spec leaves open whether its effect is complete, partial or
none, and a free value decides, unit by unit (log entry 107). -/
def stopCommand (s : State) (fn : Nat) (c : Cmd) : State :=
  let (v, s) := draw s
  let s := match commandBody fn c with | some f => partOf v s (f s).1 | none => s
  finish s fn c stTimeout [] 0

/-- CUR_CORE_STOP: a running core stops, and with it the command of a function that it executes, if any, which is lost with the device where the
fault is fatal; the core's locks are freed. -/
def coreStop (s : State) (core : Nat) (fn : Option Nat) : State :=
  if core ≥ 4 || !(s.cur.cores.getD core false) then s
  else
    let s := { s with cur := { s.cur with cores := s.cur.cores.set core false } }
    let s := match fn with
      | none => s
      | some fn =>
        match (admOf s fn).cmd with
        | some c => if c.wait == .none && !actsFatal s 18 then stopCommand s fn c else s
        | none => s
    fault (abandonLocks s (isCoreOf core)) 18 core

/-! ### Occurrences (R543, R545, R551) -/

/-- A double-bit error in the translation caches drops the failing entry, which is walked again (R48, R547). Which entry lies at the error's byte offset
the spec does not say: a free value chooses it (log entry 150). -/
def dropCached (s : State) : State :=
  let (v, s) := draw s
  { s with xlt := { s.xlt with cache := s.xlt.cache.eraseIdx (v % s.xlt.cache.length) } }

/-- FAULT_OCCURRENCE: occurrences of sources that the device's hardware detects by itself, all in one tick. In the safe state they are
only counted. -/
def occurrences (os : List Occ) (s : State) : State :=
  let os := os.filter (fun o => decide (o.src < 312))
  if s.inReset then s
  else if s.cus.safe then handleOccs s os
  else
    let s := (os.filter (fun o => o.src == 293)).foldl (fun s _ => dropCached s) s
    settle { s with cus := { s.cus with raised := s.cus.raised ++ os } }

/-- An event of an input pin: in the safe state and in reset only the pin's level changes. -/
def pinEvent (level effect : State → State) (s : State) : State := if running s then settle (effect s) else level s

/-- The levels of FATAL_IN and TWIN_STOP_IN while the device does not act on them. -/
def fatalLevel (s : State) : State := { s with twn := { s.twn with fatalIn := true } }
def stopLevel (s : State) : State := { s with twn := { s.twn with stopIn := true } }

/-- CONFIGURATION_REQUEST: in the safe state configuration requests complete as ever, but nothing follows from them (R551); in reset the
host port answers nothing (R599). -/
def configurationRequest (s : State) (fn bus : Nat) (w : CfgWrite) : State :=
  if s.inReset then s
  else if running s then settle (configure s fn bus w)
  else match w with
    | .vfEnable on => setFn s fn (fun f => { f with vfEnable := on })
    | _ => configure s fn bus w

/-- ADMIN_QUEUE_ENABLE and ADMIN_QUEUE_DISABLE: a write of ADM_CFG with ENABLE as the command says (R244, R245). -/
def adminWrite (s : State) (fn v : Nat) (on : Bool) : State :=
  if !reaches s fn || fn ≥ 256 then s else if on then enableAdm s fn (v % 2 ^ 8 + 2 ^ 8) else disableAdm s fn (v % 2 ^ 8)

/-- ADM_DB: a write to the admin doorbell of a function's own page (R246). -/
def adminDoorbell (s : State) (fn : Nat) (v : Idx) : State := if !reaches s fn || fn ≥ 256 then s else admDoorbell s fn v

end Sys2Proof.Machine
end

