-- ==== Sys2Proof/Machine/Meanings.lean ====
section
/-! DEFINITION. The meanings: one definition for each command of the table, in the table's order, each a wrapper around the operation
that holds its effect. -/

namespace Sys2Proof.Machine

/-- DEVICE_NOP (R265): Command 0x0100 completes OK with no effect, confirming that the Curator serves the queue. -/
def execDeviceNop (fn : Nat) (s : State) : Host.Outcome State Fault Refusal := live (runCmd 0x0100 deviceNop fn) s

/-- DEVICE_IDENTIFY (R266): Command 0x0101 writes the 64-byte device identity reply. -/
def execDeviceIdentify (fn : Nat) (s : State) : Host.Outcome State Fault Refusal := live (runCmd 0x0101 deviceIdentify fn) s

/-- DEVICE_CONFIG (R267): Command 0x0102 sets masked RW fields of HIF_FN_CFG, RGL_CFG or MVT_PACE_LIMIT. -/
def execDeviceConfig (fn : Nat) (s : State) : Host.Outcome State Fault Refusal := live (runCmd 0x0102 deviceConfig fn) s

/-- EXPERT_ENTER (R268): Command 0x0103 waits for earlier writers of the block, then places the block in expert mode. -/
def execExpertEnter (fn : Nat) (s : State) : Host.Outcome State Fault Refusal := live (runCmd 0x0103 expertEnter fn) s

/-- EXPERT_LEAVE (R264): Command 0x0104 returns a block to basic mode, and the Curator adopts its register values. -/
def execExpertLeave (fn : Nat) (s : State) : Host.Outcome State Fault Refusal := live (runCmd 0x0104 expertLeave fn) s

/-- FW_QUERY (R274): Command 0x0105 writes the state of both firmware slots. -/
def execFwQuery (fn : Nat) (s : State) : Host.Outcome State Fault Refusal := live (runCmd 0x0105 fwQuery fn) s

/-- FW_STAGE (R271): Command 0x0106 writes image data into the slot that is not running and checks the image on LAST. -/
def execFwStage (fn : Nat) (s : State) : Host.Outcome State Fault Refusal := live (runCmd 0x0106 fwStage fn) s

/-- FW_COMMIT (R272): Command 0x0107 makes the staged slot the boot slot, optionally raising SVN_FUSED later. -/
def execFwCommit (fn : Nat) (s : State) : Host.Outcome State Fault Refusal := live (runCmd 0x0107 fwCommit fn) s

/-- FW_DISCARD (R273): Command 0x0108 clears STAGED or COMMITTED and invalidates the other slot. -/
def execFwDiscard (fn : Nat) (s : State) : Host.Outcome State Fault Refusal := live (runCmd 0x0108 fwDiscard fn) s

/-- QUEUE_GROUP_GRANT (R241): Command 0x0180 grants a queue group to a virtual function at a page index. -/
def execQueueGroupGrant (fn : Nat) (s : State) : Host.Outcome State Fault Refusal := live (runCmd 0x0180 groupGrant fn) s

/-- QUEUE_GROUP_RECLAIM (R242): Command 0x0181 returns a granted queue group to the physical function. -/
def execQueueGroupReclaim (fn : Nat) (s : State) : Host.Outcome State Fault Refusal := live (runCmd 0x0181 groupReclaim fn) s

/-- QUEUE_CREATE (R241): Command 0x0182 initialises the error ring and head index and makes the queue ACTIVE. -/
def execQueueCreate (fn : Nat) (s : State) : Host.Outcome State Fault Refusal := live (runCmd 0x0182 queueCreate fn) s

/-- QUEUE_DESTROY (R229): Command 0x0183 drains the queue, aborting unfinished jobs, and leaves it DISABLED. -/
def execQueueDestroy (fn : Nat) (s : State) : Host.Outcome State Fault Refusal := live (runCmd 0x0183 (drainQueue false) fn) s

/-- QUEUE_RESET (R232): Command 0x0184 drains the queue and restarts it ACTIVE at the restart index. -/
def execQueueReset (fn : Nat) (s : State) : Host.Outcome State Fault Refusal := live (runCmd 0x0184 (drainQueue true) fn) s

/-- QUEUE_QUERY (R241): Command 0x0185 writes 32 bytes of queue state. -/
def execQueueQuery (fn : Nat) (s : State) : Host.Outcome State Fault Refusal := live (runCmd 0x0185 queueQuery fn) s

/-- EVENT_RING_CREATE (R241): Command 0x0186 initialises an event ring and binds it to an MSI-X vector. -/
def execEventRingCreate (fn : Nat) (s : State) : Host.Outcome State Fault Refusal := live (runCmd 0x0186 eventRingCreate fn) s

/-- EVENT_RING_DESTROY (R241): Command 0x0187 removes an event ring that no queue names. -/
def execEventRingDestroy (fn : Nat) (s : State) : Host.Outcome State Fault Refusal :=
  live (runCmd 0x0187 eventRingDestroy fn) s

/-- EVENT_RING_CLEAR (R241): Command 0x0188 clears OVERFLOW unless marks are pending and returns the old status word. -/
def execEventRingClear (fn : Nat) (s : State) : Host.Outcome State Fault Refusal := live (runCmd 0x0188 eventRingClear fn) s

/-- CONN_CREATE (R374): Command 0x0200 takes the longest-free context into READY with the next incarnation. -/
def execConnCreate (fn : Nat) (s : State) : Host.Outcome State Fault Refusal := live (runCmd 0x0200 connCreate fn) s

/-- CONN_CONNECT (R374): Command 0x0201 sets the peer and retry parameters and enters CONNECTED without handshake. -/
def execConnConnect (fn : Nat) (s : State) : Host.Outcome State Fault Refusal := live (runCmd 0x0201 connConnect fn) s

/-- CONN_DESTROY (R374): Command 0x0202 fails unfinished jobs and puts the connection in QUARANTINE. -/
def execConnDestroy (fn : Nat) (s : State) : Host.Outcome State Fault Refusal := live (runCmd 0x0202 connDestroy fn) s

/-- CONN_RESET (R374): Command 0x0203 fails unfinished jobs and returns the connection to READY with the next incarnation. -/
def execConnReset (fn : Nat) (s : State) : Host.Outcome State Fault Refusal := live (runCmd 0x0203 connReset fn) s

/-- CONN_QUERY (R373): Command 0x0204 writes 32 bytes of connection state. -/
def execConnQuery (fn : Nat) (s : State) : Host.Outcome State Fault Refusal := live (runCmd 0x0204 connQuery fn) s

/-- COUNTER_ALLOC (R374): Command 0x0210 allocates the lowest free run of trigger counters and zeroes them. -/
def execCounterAlloc (fn : Nat) (s : State) : Host.Outcome State Fault Refusal := live (runCmd 0x0210 counterAlloc fn) s

/-- COUNTER_FREE (R374): Command 0x0211 frees a range of trigger counters. -/
def execCounterFree (fn : Nat) (s : State) : Host.Outcome State Fault Refusal := live (runCmd 0x0211 counterFree fn) s

/-- COUNTER_QUERY (R373): Command 0x0212 returns one CTX_COUNTER value. -/
def execCounterQuery (fn : Nat) (s : State) : Host.Outcome State Fault Refusal := live (runCmd 0x0212 counterQuery fn) s

/-- CTX_CONFIG (R373): Command 0x0220 sets CTX_CFG fields selected by VALID_MASK. -/
def execCtxConfig (fn : Nat) (s : State) : Host.Outcome State Fault Refusal := live (runCmd 0x0220 ctxConfig fn) s

/-- REGION_CREATE (R309): Command 0x0300 takes a free region index and registers the segments under a new key. -/
def execRegionCreate (fn : Nat) (s : State) : Host.Outcome State Fault Refusal := live (runCmd 0x0300 regionCreate fn) s

/-- REGION_REVOKE (R301): Command 0x0301 increments the generation, drains passed accesses and drops cached translations. -/
def execRegionRevoke (fn : Nat) (s : State) : Host.Outcome State Fault Refusal := live (runCmd 0x0301 regionRevoke fn) s

/-- REGION_DESTROY (R301): Command 0x0302 revokes the region and frees its index on completion. -/
def execRegionDestroy (fn : Nat) (s : State) : Host.Outcome State Fault Refusal := live (runCmd 0x0302 regionDestroy fn) s

/-- REGION_QUERY (R307): Command 0x0303 writes the region header and its segments. -/
def execRegionQuery (fn : Nat) (s : State) : Host.Outcome State Fault Refusal := live (runCmd 0x0303 regionQuery fn) s

/-- REGION_INVALIDATE (R295): Command 0x0304 drops cached translations of a range and waits for accesses that used them. -/
def execRegionInvalidate (fn : Nat) (s : State) : Host.Outcome State Fault Refusal :=
  live (runCmd 0x0304 regionInvalidate fn) s

/-- FAULT_RING_CREATE (R309): Command 0x0305 creates the function's page-fault ring. -/
def execFaultRingCreate (fn : Nat) (s : State) : Host.Outcome State Fault Refusal := live (runCmd 0x0305 faultRingCreate fn) s

/-- FAULT_RING_DESTROY (R309): Command 0x0306 removes the page-fault ring and fails waiting local faults. -/
def execFaultRingDestroy (fn : Nat) (s : State) : Host.Outcome State Fault Refusal :=
  live (runCmd 0x0306 faultRingDestroy fn) s

/-- PAGE_RESOLVE (R296): Command 0x0307 retries or fails a stalled local fault named by its record SEQ. -/
def execPageResolve (fn : Nat) (s : State) : Host.Outcome State Fault Refusal := live (runCmd 0x0307 pageResolve fn) s

/-- XLT_CONFIG (R307): Command 0x0308 sets XLT_CFG fields selected by VALID_MASK. -/
def execXltConfig (fn : Nat) (s : State) : Host.Outcome State Fault Refusal := live (runCmd 0x0308 xltConfig fn) s

/-- ENDPOINT_CREATE (R404): Command 0x0400 creates a messaging endpoint with its receive ring and limits. -/
def execEndpointCreate (fn : Nat) (s : State) : Host.Outcome State Fault Refusal := live (runCmd 0x0400 endpointCreate fn) s

/-- ENDPOINT_DESTROY (R404): Command 0x0401 removes receives, discards unexpected messages, refuses rendezvous and quarantines the endpoint. -/
def execEndpointDestroy (fn : Nat) (s : State) : Host.Outcome State Fault Refusal := live (runCmd 0x0401 endpointDestroy fn) s

/-- ENDPOINT_QUERY (R403): Command 0x0402 writes 32 bytes of endpoint state. -/
def execEndpointQuery (fn : Nat) (s : State) : Host.Outcome State Fault Refusal := live (runCmd 0x0402 endpointQuery fn) s

/-- CAT_CONFIG (R403): Command 0x0403 sets EAGER_MAX. -/
def execCatConfig (fn : Nat) (s : State) : Host.Outcome State Fault Refusal := live (runCmd 0x0403 catConfig fn) s

/-- GROUP_CREATE (R437): Command 0x0500 joins a member to a collective group and completes at T of tree epoch 1. -/
def execGroupCreate (fn : Nat) (s : State) : Host.Outcome State Fault Refusal := live (runCmd 0x0500 groupCreate fn) s

/-- GROUP_DESTROY (R439): Command 0x0501 destroys the group on every vertex and fails its unfinished jobs. -/
def execGroupDestroy (fn : Nat) (s : State) : Host.Outcome State Fault Refusal := live (runCmd 0x0501 groupDestroy fn) s

/-- GROUP_QUERY (R445): Command 0x0502 writes the 64-byte group state. -/
def execGroupQuery (fn : Nat) (s : State) : Host.Outcome State Fault Refusal := live (runCmd 0x0502 groupQuery fn) s

/-- GROUP_REBUILD (R446): Command 0x0503 starts a tree epoch change and completes at its T. -/
def execGroupRebuild (fn : Nat) (s : State) : Host.Outcome State Fault Refusal := live (runCmd 0x0503 groupRebuild fn) s

/-- CAR_CONFIG (R444): Command 0x0504 sets CAR_CFG fields selected by VALID_MASK. -/
def execCarConfig (fn : Nat) (s : State) : Host.Outcome State Fault Refusal := live (runCmd 0x0504 carConfig fn) s

/-- ROUTE_QUERY (R92): Command 0x0600 writes the 64-byte routing state record. -/
def execRouteQuery (fn : Nat) (s : State) : Host.Outcome State Fault Refusal := live (runCmd 0x0600 routeQuery fn) s

/-- ROUTE_CONFIG (R93): Command 0x0601 sets MVT_ROUTE_CFG fields selected by VALID_MASK. -/
def execRouteConfig (fn : Nat) (s : State) : Host.Outcome State Fault Refusal := live (runCmd 0x0601 routeConfig fn) s

/-- ROUTE_PORT_FENCE (R94): Command 0x0602 sets or clears the administrative fence of a fabric port or the twin bridge. -/
def execRoutePortFence (fn : Nat) (s : State) : Host.Outcome State Fault Refusal := live (runCmd 0x0602 routePortFence fn) s

/-- ROUTE_EPOCH_CHANGE (R95): Command 0x0603 asks the epoch master for a new route epoch and completes at this device's switch. -/
def execRouteEpochChange (fn : Nat) (s : State) : Host.Outcome State Fault Refusal :=
  live (runCmd 0x0603 routeEpochChange fn) s

/-- ROUTE_TABLE_READ (R96): Command 0x0604 writes one routing table entry of a bank. -/
def execRouteTableRead (fn : Nat) (s : State) : Host.Outcome State Fault Refusal := live (runCmd 0x0604 routeTableRead fn) s

/-- STRIKE_QUERY (R121): Command 0x0700 writes the Strike state and configuration registers. -/
def execStrikeQuery (fn : Nat) (s : State) : Host.Outcome State Fault Refusal := live (runCmd 0x0700 strikeQuery fn) s

/-- STRIKE_STAGE (R102): Command 0x0701 writes schedule image data into the idle bank and checks the image on LAST. -/
def execStrikeStage (fn : Nat) (s : State) : Host.Outcome State Fault Refusal := live (runCmd 0x0701 strikeStage fn) s

/-- STRIKE_ACTIVATE (R115): Command 0x0702 reports ready to the epoch master and completes at the schedule switch. -/
def execStrikeActivate (fn : Nat) (s : State) : Host.Outcome State Fault Refusal := live (runCmd 0x0702 strikeActivate fn) s

/-- STRIKE_DISCARD (R121): Command 0x0703 empties the idle schedule bank. -/
def execStrikeDiscard (fn : Nat) (s : State) : Host.Outcome State Fault Refusal := live (runCmd 0x0703 strikeDiscard fn) s

/-- STRIKE_FLOW_BIND (R104): Command 0x0704 binds a queue to a Strike flow with its late option. -/
def execStrikeFlowBind (fn : Nat) (s : State) : Host.Outcome State Fault Refusal := live (runCmd 0x0704 strikeFlowBind fn) s

/-- STRIKE_FLOW_UNBIND (R121): Command 0x0705 removes a flow binding, spilling held frames. -/
def execStrikeFlowUnbind (fn : Nat) (s : State) : Host.Outcome State Fault Refusal :=
  live (runCmd 0x0705 strikeFlowUnbind fn) s

/-- STRIKE_CONFIG (R121): Command 0x0706 sets STK_CFG fields selected by VALID_MASK. -/
def execStrikeConfig (fn : Nat) (s : State) : Host.Outcome State Fault Refusal := live (runCmd 0x0706 strikeConfig fn) s

/-- LANE_QUERY (R180): Command 0x0800 writes the five LNE_PORT registers of a port. -/
def execLaneQuery (fn : Nat) (s : State) : Host.Outcome State Fault Refusal := live (runCmd 0x0800 laneQuery fn) s

/-- LANE_RETRAIN (R180): Command 0x0801 retrains a fabric port and completes at READY or training failure. -/
def execLaneRetrain (fn : Nat) (s : State) : Host.Outcome State Fault Refusal := live (runCmd 0x0801 laneRetrain fn) s

/-- LANE_SLEEP_CONFIG (R180): Command 0x0802 sets SLEEP_EN and SLEEP_IDLE of a port. -/
def execLaneSleepConfig (fn : Nat) (s : State) : Host.Outcome State Fault Refusal := live (runCmd 0x0802 laneSleepConfig fn) s

/-- LANE_TABLE_READ (R180): Command 0x0803 writes bytes of the lane table in use. -/
def execLaneTableRead (fn : Nat) (s : State) : Host.Outcome State Fault Refusal := live (runCmd 0x0803 laneTableRead fn) s

/-- LANE_CONFIG (R180): Command 0x0804 sets LNE_CFG fields selected by VALID_MASK. -/
def execLaneConfig (fn : Nat) (s : State) : Host.Outcome State Fault Refusal := live (runCmd 0x0804 laneConfig fn) s

/-- LOCK_CLAIM (R515): Command 0x0900 claims a lock, optionally waiting once under the wait alias. -/
def execLockClaim (fn : Nat) (s : State) : Host.Outcome State Fault Refusal := live (runCmd 0x0900 lockClaim fn) s

/-- LOCK_RELEASE (R515): Command 0x0901 releases a lock held by the requester. -/
def execLockRelease (fn : Nat) (s : State) : Host.Outcome State Fault Refusal := live (runCmd 0x0901 lockRelease fn) s

/-- LOCK_QUERY (R515): Command 0x0902 returns a lock word. -/
def execLockQuery (fn : Nat) (s : State) : Host.Outcome State Fault Refusal := live (runCmd 0x0902 lockQuery fn) s

/-- LOCK_GROUP_CONFIG (R515): Command 0x0903 sets a lock group's rights and ABANDON_NOTIFY. -/
def execLockGroupConfig (fn : Nat) (s : State) : Host.Outcome State Fault Refusal := live (runCmd 0x0903 lockGroupConfig fn) s

/-- LOCK_PEER (R509): Command 0x0904 queries, claims or releases a lock on the twin or a remote device. -/
def execLockPeer (fn : Nat) (s : State) : Host.Outcome State Fault Refusal := live (runCmd 0x0904 lockPeer fn) s

/-- WORD_LOCK_CLAIM (R510): Command 0x0905 claims a word lock in SRAM or host memory. -/
def execWordLockClaim (fn : Nat) (s : State) : Host.Outcome State Fault Refusal := live (runCmd 0x0905 wordLockClaim fn) s

/-- WORD_LOCK_RELEASE (R510): Command 0x0906 releases a word lock. -/
def execWordLockRelease (fn : Nat) (s : State) : Host.Outcome State Fault Refusal := live (runCmd 0x0906 wordLockRelease fn) s

/-- TWIN_QUERY (R540): Command 0x0A00 writes the twin status registers and the partner serial. -/
def execTwinQuery (fn : Nat) (s : State) : Host.Outcome State Fault Refusal := live (runCmd 0x0A00 twinQuery fn) s

/-- TWIN_CONFIG (R541): Command 0x0A01 sets ADOPT_EN, STOP_EN and the mirror base. -/
def execTwinConfig (fn : Nat) (s : State) : Host.Outcome State Fault Refusal := live (runCmd 0x0A01 twinConfig fn) s

/-- TWIN_BRIDGE_RETRAIN (R541): Command 0x0A02 retrains the twin bridge outside SYNCING and PAIRED. -/
def execTwinBridgeRetrain (fn : Nat) (s : State) : Host.Outcome State Fault Refusal := live (runCmd 0x0A02 twinRetrain fn) s

/-- TWIN_ADOPT (R541): Command 0x0A03 runs adoption of a dead partner whose stop was not confirmed. -/
def execTwinAdopt (fn : Nat) (s : State) : Host.Outcome State Fault Refusal := live (runCmd 0x0A03 twinAdopt fn) s

/-- COUNTER_READ (R578): Command 0x0B00 samples a range of event counters in ascending order. -/
def execCounterRead (fn : Nat) (s : State) : Host.Outcome State Fault Refusal := live (runCmd 0x0B00 counterRead fn) s

/-- COUNTER_CONFIG (R579): Command 0x0B01 sets MODE, THRESH or CLEAR of a counter range in one tick. -/
def execCounterConfig (fn : Nat) (s : State) : Host.Outcome State Fault Refusal := live (runCmd 0x0B01 counterConfig fn) s

/-- USER_PAGE_CONFIG (R565): Command 0x0B02 enables a function's user counter page and sets its counters. -/
def execUserPageConfig (fn : Nat) (s : State) : Host.Outcome State Fault Refusal := live (runCmd 0x0B02 userPageConfig fn) s

/-- DIAL_CONFIG (R568): Command 0x0B03 sets or clears a Dial. -/
def execDialConfig (fn : Nat) (s : State) : Host.Outcome State Fault Refusal := live (runCmd 0x0B03 dialConfig fn) s

/-- DIAL_READ (R578): Command 0x0B04 writes a Dial's values from one tick. -/
def execDialRead (fn : Nat) (s : State) : Host.Outcome State Fault Refusal := live (runCmd 0x0B04 dialRead fn) s

/-- PROV_CONFIG (R569): Command 0x0B05 writes MON_PROV_CFG and reloads the sampling countdown. -/
def execProvConfig (fn : Nat) (s : State) : Host.Outcome State Fault Refusal := live (runCmd 0x0B05 provConfig fn) s

/-- PROV_READ (R579): Command 0x0B06 returns Provenance buffer slots as stored. -/
def execProvRead (fn : Nat) (s : State) : Host.Outcome State Fault Refusal := live (runCmd 0x0B06 provRead fn) s

/-- FAULT_SEV_SET (R579): Command 0x0B10 sets a fault source's severity, or its FLOOR. -/
def execFaultSevSet (fn : Nat) (s : State) : Host.Outcome State Fault Refusal := live (runCmd 0x0B10 faultSevSet fn) s

/-- FAULT_QUERY (R578): Command 0x0B11 returns both CUS_SRC words of a source. -/
def execFaultQuery (fn : Nat) (s : State) : Host.Outcome State Fault Refusal := live (runCmd 0x0B11 faultQuery fn) s

/-- FAULT_LOG_READ (R579): Command 0x0B12 returns fault log slots as stored. -/
def execFaultLogRead (fn : Nat) (s : State) : Host.Outcome State Fault Refusal := live (runCmd 0x0B12 faultLogRead fn) s

/-- REGISTRAR_QUERY (R597): Command 0x0C00 returns the 14 RGS registers. -/
def execRegistrarQuery (fn : Nat) (s : State) : Host.Outcome State Fault Refusal := live (runCmd 0x0C00 registrarQuery fn) s

/-- REGISTRAR_READ (R597): Command 0x0C01 returns Registrar record slots, filtered for virtual functions. -/
def execRegistrarRead (fn : Nat) (s : State) : Host.Outcome State Fault Refusal := live (runCmd 0x0C01 registrarRead fn) s

/-- MOVER_CHANNEL_ALLOC (R478): Command 0x0D00 allocates the lowest free Mover channel to a queue at a priority. -/
def execMoverChannelAlloc (fn : Nat) (s : State) : Host.Outcome State Fault Refusal := live (runCmd 0x0D00 chanAlloc fn) s

/-- MOVER_CHANNEL_FREE (R478): Command 0x0D01 frees an idle Mover channel. -/
def execMoverChannelFree (fn : Nat) (s : State) : Host.Outcome State Fault Refusal := live (runCmd 0x0D01 chanFree fn) s

/-- MOVER_CHANNEL_QUERY (R477): Command 0x0D02 returns a channel's state, position and counts. -/
def execMoverChannelQuery (fn : Nat) (s : State) : Host.Outcome State Fault Refusal := live (runCmd 0x0D02 chanQuery fn) s

/-- MOVER_CHANNEL_PRIORITY (R478): Command 0x0D03 changes a channel's priority from the next beat boundary. -/
def execMoverChannelPriority (fn : Nat) (s : State) : Host.Outcome State Fault Refusal :=
  live (runCmd 0x0D03 chanPriority fn) s

/-- MOVER_CONFIG (R477): Command 0x0D04 sets RR_BEATS. -/
def execMoverConfig (fn : Nat) (s : State) : Host.Outcome State Fault Refusal := live (runCmd 0x0D04 moverConfig fn) s

/-- SCHED_GROUP_QUERY (R498): Command 0x0E00 returns a SCH_GROUP value. -/
def execSchedGroupQuery (fn : Nat) (s : State) : Host.Outcome State Fault Refusal := live (runCmd 0x0E00 schedGroupQuery fn) s

/-- SCHED_GROUP_QUANTUM (R484): Command 0x0E01 sets a queue group's QUANTUM from its next turn. -/
def execSchedGroupQuantum (fn : Nat) (s : State) : Host.Outcome State Fault Refusal :=
  live (runCmd 0x0E01 schedGroupQuantum fn) s

/-- SCHED_SHAPER_CONFIG (R488): Command 0x0E02 changes a function's shaper settings as one change at a tick boundary. -/
def execSchedShaperConfig (fn : Nat) (s : State) : Host.Outcome State Fault Refusal :=
  live (runCmd 0x0E02 schedShaperConfig fn) s

/-- SCHED_POLICER_CONFIG (R490): Command 0x0E03 changes a function's policer settings and refills its bucket. -/
def execSchedPolicerConfig (fn : Nat) (s : State) : Host.Outcome State Fault Refusal :=
  live (runCmd 0x0E03 schedPolicerConfig fn) s

/-- SCHED_FN_QUERY (R498): Command 0x0E04 returns a function's shaper and policer registers. -/
def execSchedFnQuery (fn : Nat) (s : State) : Host.Outcome State Fault Refusal := live (runCmd 0x0E04 schedFnQuery fn) s

/-- SCHED_QUEUE_SAMPLE (R498): Command 0x0E05 returns the latest DEPTH and DELAY samples of a queue. -/
def execSchedQueueSample (fn : Nat) (s : State) : Host.Outcome State Fault Refusal :=
  live (runCmd 0x0E05 schedQueueSample fn) s

/-- SCHED_CONFIG (R498): Command 0x0E06 sets DEFAULT_QUANTUM and SAMPLE_EN. -/
def execSchedConfig (fn : Nat) (s : State) : Host.Outcome State Fault Refusal := live (runCmd 0x0E06 schedConfig fn) s

/-- COMMAND_TAKEN (R250): The Curator takes the next command covered by the admin doorbell and sets the mailbox to PENDING. -/
def execCommandTaken (fn : Nat) (s : State) : Host.Outcome State Fault Refusal := live (takeCommand · fn) s

/-- COMMAND_COMPLETE (R252): A command that waited on the fabric, a peer or a time ends and writes response, reply, head index and mailbox. -/
def execCommandComplete (fn : Nat) (status : Nat) (word : Nat) (s : State) : Host.Outcome State Fault Refusal :=
  live (fun s => completeCommand (claimAgain s fn) fn status word) s

/-- COMMAND_TIMEOUT (R254): A command reaching 250 ms completes with TIMEOUT. -/
def execCommandTimeout (fn : Nat) (s : State) : Host.Outcome State Fault Refusal := live (timeoutCommand · fn) s

/-- CUR_CORE_STOP (R277): A Curator core stops; its running command completes with TIMEOUT and its class 1 locks are freed. -/
def execCurCoreStop (core : Nat) (fn : Option Nat) (s : State) : Host.Outcome State Fault Refusal :=
  live (coreStop · core fn) s

/-- ADMIN_QUEUE_ENABLE (R244): A write of ENABLE = 1 to ADM_CFG makes a disabled admin queue IDLE. -/
def execAdminQueueEnable (fn : Nat) (value : BitVec 32) (s : State) : Host.Outcome State Fault Refusal :=
  live (adminWrite · fn value.toNat true) s

/-- ADMIN_QUEUE_DISABLE (R245): A write of ENABLE = 0 stops command taking; the queue becomes DISABLED after the running command. -/
def execAdminQueueDisable (fn : Nat) (value : BitVec 32) (s : State) : Host.Outcome State Fault Refusal :=
  live (adminWrite · fn value.toNat false) s

/-- ADM_DB (R246): A write to the admin doorbell advances the accepted producer value under R194. -/
def execAdmDb (fn : Nat) (value : Idx) (s : State) : Host.Outcome State Fault Refusal := live (adminDoorbell · fn value) s

/-- ADM_MAILBOX_READ (R258): A read of ADM_MAILBOX0 latches the other three mailbox words. -/
def execAdmMailboxRead (fn : Nat) (s : State) : Host.Outcome State Fault Refusal := live (mailboxRead · fn) s

/-- DB_PRODUCER (R194): A doorbell write is accepted, ignored as stale, or refused as out of range. -/
def execDbProducer (fn : Nat) (offset : Nat) (width : Nat) (value : Idx) (s : State) : Host.Outcome State Fault Refusal :=
  live (dbProducer · fn offset width value) s

/-- INLINE_STORE (R198): A BAR4 store is placed in the combining buffer slot of its key, possibly evicting the least recent slot. -/
def execInlineStore (fn : Nat) (offset : Nat) (bytes : List Byte) (s : State) : Host.Outcome State Fault Refusal :=
  live (inlineStore · fn offset bytes) s

/-- MOV_APPEND (R471): A physical-function write of a channel number delivers an append to that channel. -/
def execMovAppend (fn : Nat) (value : BitVec 32) (s : State) : Host.Outcome State Fault Refusal :=
  live (movAppend · fn value.toNat) s

/-- LOCK_WORD_WRITE (R504): A write to a lock word claims or releases the lock by its identity. -/
def execLockWordWrite (fn : Nat) (offset : Nat) (value : BitVec 32) (s : State) : Host.Outcome State Fault Refusal :=
  live (lockWordWrite · fn offset value.toNat) s

/-- LOCK_WAIT_READ (R506): A read of a lock's wait alias returns at once if free, else is held. -/
def execLockWaitRead (fn : Nat) (lock : Nat) (s : State) : Host.Outcome State Fault Refusal := live (lockWaitRead · fn lock) s

/-- WAIT_READ_RETURN (R506): A held wait read returns when the lock becomes free or 10 µs pass. -/
def execWaitReadReturn (lock : Nat) (s : State) : Host.Outcome State Fault Refusal := live (waitReadReturn · lock) s

/-- PORT_FENCE_WRITE (R90): A direct write of MVT_PORT_CFG.FENCE in expert mode sets or clears an administrative fence. -/
def execPortFenceWrite (fn port : Nat) (value : BitVec 32) (s : State) : Host.Outcome State Fault Refusal :=
  live (portFenceWrite · fn port value.toNat) s

/-- RETRAIN (R179): A write of LNE_PORT_CFG.RETRAIN takes a fabric port down and retrains it. -/
def execRetrain (fn port : Nat) (s : State) : Host.Outcome State Fault Refusal := live (retrainWrite · fn port) s

/-- MSIX_UNMASK (R204): Unmasking an MSI-X vector with its pending bit set sends one message. -/
def execMsixUnmask (fn : Nat) (vector : Nat) (s : State) : Host.Outcome State Fault Refusal := live (msixUnmask · fn vector) s

/-- LATCHING_REGISTER_READ (R17, R191): A read of a lower half or of a latching word latches the companion words for the following reads. -/
def execLatchingRegisterRead (fn : Nat) (place : BarPlace) (width : Nat) (s : State) : Host.Outcome State Fault Refusal :=
  live (barRead · fn place.bar place.offset width) s

/-- USER_PAGE_READ (R564): A read of a user counter page slot samples the counter and latches its time-stamp. -/
def execUserPageRead (fn : Nat) (offset : Nat) (width : Nat) (s : State) : Host.Outcome State Fault Refusal :=
  live (userPageRead · fn offset width) s

/-- REGISTER_WRITE (R14): A write to a register with no row of its own sets, clears or ignores fields by access code and mode. -/
def execRegisterWrite (fn : Nat) (offset : Nat) (width : Nat) (value : BitVec 64) (s : State) : Host.Outcome State Fault Refusal :=
  live (writeAccess · fn offset width value.toNat) s

/-- UNDEFINED_OFFSET_ACCESS (R18): An access to an undefined offset, or a bad-width access, reads 0 or is ignored and records a fault. -/
def execUndefinedOffsetAccess (fn : Nat) (offset : Nat) (width : Nat) (kind : AccessKind) (s : State) :
    Host.Outcome State Fault Refusal :=
  live (undefinedAccess · fn offset width kind.write kind.sparse) s

/-- NOP (R217): Job 0x00 does nothing and is done when reached. -/
def execNop (q : Nat) (s : State) : Host.Outcome State Fault Refusal := live (jobRow 0x00 · q) s

/-- PUT (R339): Job 0x01 segments a put into request packets to the connection's peer. -/
def execPut (q : Nat) (s : State) : Host.Outcome State Fault Refusal := live (jobRow 0x01 · q) s

/-- PUT_IMM (R340): Job 0x02 sends up to 128 bytes of data carried in the entries as one packet. -/
def execPutImm (q : Nat) (s : State) : Host.Outcome State Fault Refusal := live (jobRow 0x02 · q) s

/-- GET (R339): Job 0x03 sends GET request packets for remote data. -/
def execGet (q : Nat) (s : State) : Host.Outcome State Fault Refusal := live (jobRow 0x03 · q) s

/-- ATOMIC (R341): Job 0x04 sends a remote atomic on one 8-byte word. -/
def execAtomic (q : Nat) (s : State) : Host.Outcome State Fault Refusal := live (jobRow 0x04 · q) s

/-- COUNTER_ADD (R368): Job 0x08 adds VALUE to a trigger counter. -/
def execCounterAdd (q : Nat) (s : State) : Host.Outcome State Fault Refusal := live (jobRow 0x08 · q) s

/-- COUNTER_SET (R368): Job 0x09 sets a trigger counter to VALUE. -/
def execCounterSet (q : Nat) (s : State) : Host.Outcome State Fault Refusal := live (jobRow 0x09 · q) s

/-- BARRIER (R320): Job 0x20 waits for earlier jobs, flushes early-acknowledged connections and declares local writes visible. -/
def execBarrier (q : Nat) (s : State) : Host.Outcome State Fault Refusal := live (jobRow 0x20 · q) s

/-- RESERVE_LOAD (R326): Job 0x21 sends a reserving 8-byte load to the target. -/
def execReserveLoad (q : Nat) (s : State) : Host.Outcome State Fault Refusal := live (jobRow 0x21 · q) s

/-- COND_STORE (R326): Job 0x22 sends a conditional 8-byte store to the target. -/
def execCondStore (q : Nat) (s : State) : Host.Outcome State Fault Refusal := live (jobRow 0x22 · q) s

/-- SEND (R380): Job 0x30 sends a tagged message, eager or rendezvous, over the peer slot. -/
def execSend (q : Nat) (s : State) : Host.Outcome State Fault Refusal := live (jobRow 0x30 · q) s

/-- RECV (R378): Job 0x31 checks the buffer, searches the Accession store and posts the receive if unmatched. -/
def execRecv (q : Nat) (s : State) : Host.Outcome State Fault Refusal := live (jobRow 0x31 · q) s

/-- COLLECTIVE (R416): Job 0x40 checks operands and contributes to a group operation. -/
def execCollective (q : Nat) (s : State) : Host.Outcome State Fault Refusal := live (jobRow 0x40 · q) s

/-- MOVER_START (R452): Job 0x50 starts a Mover program on a channel. -/
def execMoverStart (q : Nat) (s : State) : Host.Outcome State Fault Refusal := live (jobRow 0x50 · q) s

/-- MOVER_CHAIN (R467): Job 0x51 starts a descriptor chain on a channel. -/
def execMoverChain (q : Nat) (s : State) : Host.Outcome State Fault Refusal := live (jobRow 0x51 · q) s

/-- MOVER_APPEND (R471): Job 0x52 delivers an append to a channel. -/
def execMoverAppend (q : Nat) (s : State) : Host.Outcome State Fault Refusal := live (jobRow 0x52 · q) s

/-- ARMED_JOB_RELEASE (R366): An armed job whose counter reaches its threshold starts as if just fetched. -/
def execArmedJobRelease (q : Nat) (idx : Idx) (s : State) : Host.Outcome State Fault Refusal := live (releaseJob · q idx) s

/-- HEAD_INDEX_PUBLISH (R221): The device writes a new head index covering done jobs in index order. -/
def execHeadIndexPublish (q : Nat) (s : State) : Host.Outcome State Fault Refusal := live (publishHead · q) s

/-- ERROR_RING_REREAD (R224): Every 2 µs a BLOCKED queue re-reads its error-ring consumer word and writes waiting records. -/
def execErrorRingReread (q : Nat) (s : State) : Host.Outcome State Fault Refusal := live (errorReread · q) s

/-- EVENT_RING_REREAD (R237): Every 2 µs a full event ring's consumer word is re-read and pending marks written as coalesced records. -/
def execEventRingReread (fn ring : Nat) (s : State) : Host.Outcome State Fault Refusal := live (eventReread · fn ring) s

/-- MSIX_MESSAGE (R238): An event ring's MSI-X message is sent after its record, no sooner than MOD_NS after the last. -/
def execMsixMessage (fn ring : Nat) (s : State) : Host.Outcome State Fault Refusal := live (msixMessage · fn ring) s

/-- FAULT_RING_REREAD (R300): Every 2 µs a full page-fault ring's consumer word is re-read and waiting local records written. -/
def execFaultRingReread (fn : Nat) (s : State) : Host.Outcome State Fault Refusal := live (faultReread · fn) s

/-- RECEIVE_RING_REREAD (R398): Every 2 µs a BLOCKED endpoint re-reads its receive-ring consumer word and writes waiting records. -/
def execReceiveRingReread (ep : Nat) (s : State) : Host.Outcome State Fault Refusal := live (recvReread · ep) s

/-- LOCAL_TIMEOUT (R296): An unresolved local fault fails its job with TRANSLATION_FAULT after LOCAL_TIMEOUT. -/
def execLocalTimeout (q : Nat) (idx : Idx) (s : State) : Host.Outcome State Fault Refusal := live (localTimeoutOf · q idx) s

/-- PAGE_PENDING_RESEND (R298): After the backoff wait the initiator re-sends a packet answered PAGE_PENDING or NO_RESOURCE. -/
def execPagePendingResend (c : Nat) (psn : Psn) (s : State) : Host.Outcome State Fault Refusal := live (resend · c psn) s

/-- RETRANSMIT_TIMEOUT (R351): A request packet's timer expires and it is retransmitted, or fails RETRY_EXCEEDED after the last send. -/
def execRetransmitTimeout (c : Nat) (psn : Psn) (s : State) : Host.Outcome State Fault Refusal :=
  live (retransmitTimeout · c psn) s

/-- ACK_SEND (R350): The target sends a coalesced ACK within ACK_DELAY + 100 ns of the acknowledgement point. -/
def execAckSend (c : Nat) (s : State) : Host.Outcome State Fault Refusal := live (ackSend · c) s

/-- FENCED_HOLD_EXPIRY (R358): After 100 µs of a fenced peer the context's jobs fail DEST_FENCED and it enters ERROR. -/
def execFencedHoldExpiry (c : Nat) (s : State) : Host.Outcome State Fault Refusal := live (fencedHoldExpiry · c) s

/-- PEER_IDLE_EXPIRY (R363): A peer slot idle for PEER_IDLE ms sends PEER_CLOSE and enters CLOSING. -/
def execPeerIdleExpiry (c : Nat) (s : State) : Host.Outcome State Fault Refusal := live (peerIdleExpiry · c) s

/-- CONTEXT_QUARANTINE_END (R336): A context becomes FREE 4 ms after entering QUARANTINE. -/
def execContextQuarantineEnd (c : Nat) (s : State) : Host.Outcome State Fault Refusal := live (contextFree · c) s

/-- ENDPOINT_QUARANTINE_END (R404): A destroyed endpoint becomes FREE 4 ms after entering QUARANTINE. -/
def execEndpointQuarantineEnd (ep : Nat) (s : State) : Host.Outcome State Fault Refusal := live (endpointFree · ep) s

/-- HANDLE_QUARANTINE_END (R439): A destroyed group handle becomes FREE after 4 ms. -/
def execHandleQuarantineEnd (handle : Nat) (s : State) : Host.Outcome State Fault Refusal := live (handleFree · handle) s

/-- EJECTION_RESERVE_TIMEOUT (R229): Ejection space reserved for an aborted job's reply is released after 4 ms. -/
def execEjectionReserveTimeout (c : Nat) (psn : Psn) (s : State) : Host.Outcome State Fault Refusal :=
  live (reserveTimeout · c psn) s

/-- RESERVATION_EXPIRY (R330): A reservation is cleared 64 µs after it was set. -/
def execReservationExpiry (g : Nat) (s : State) : Host.Outcome State Fault Refusal := live (expireReservations · g) s

/-- PUT_ARRIVAL (R313): A PUT request packet arrives, is classified and checked, and its payload written and acknowledged. -/
def execPutArrival (p : Packet) (s : State) : Host.Outcome State Fault Refusal := live (putArrival · p) s

/-- STRIKE_PUT_ARRIVAL (R112): A STRIKE_PUT packet is applied as a put, its acknowledgement marked late if it arrived as a request. -/
def execStrikePutArrival (p : Packet) (s : State) : Host.Outcome State Fault Refusal := live (strikePutArrival · p) s

/-- GET_ARRIVAL (R343): A GET request packet reads target memory and returns GET_DATA. -/
def execGetArrival (p : Packet) (s : State) : Host.Outcome State Fault Refusal := live (getArrival · p) s

/-- ATOMIC_ARRIVAL (R342): An ATOMIC packet reads, updates and writes the granule and returns the old value. -/
def execAtomicArrival (p : Packet) (s : State) : Host.Outcome State Fault Refusal := live (atomicArrival · p) s

/-- RESERVE_LOAD_ARRIVAL (R327): A RESERVE_LOAD packet reads the granule and sets the holder's reservation. -/
def execReserveLoadArrival (p : Packet) (s : State) : Host.Outcome State Fault Refusal := live (reserveLoadArrival · p) s

/-- COND_STORE_ARRIVAL (R328): A COND_STORE packet compares the granule with the loaded value and writes it on a match. -/
def execCondStoreArrival (p : Packet) (s : State) : Host.Outcome State Fault Refusal := live (condStoreArrival · p) s

/-- FLUSH (R320): A FLUSH request is answered once every write issued for the connection is visible. -/
def execFlush (p : Packet) (s : State) : Host.Outcome State Fault Refusal := live (flushArrival · p) s

/-- SKIP (R356): A SKIP marks an abandoned PSN or MSN received without applying it. -/
def execSkip (p : Packet) (s : State) : Host.Outcome State Fault Refusal := live (skipArrival · p) s

/-- PEER_OPEN (R362): A PEER_OPEN is answered by allocating or binding a peer slot. -/
def execPeerOpen (p : Packet) (s : State) : Host.Outcome State Fault Refusal := live (peerOpenArrival · p) s

/-- PEER_CLOSE (R363): A PEER_CLOSE is accepted into QUARANTINE or refused with NO_RESOURCE. -/
def execPeerClose (p : Packet) (s : State) : Host.Outcome State Fault Refusal := live (peerCloseArrival · p) s

/-- ACK (R350): An ACK marks PSNs answered at the sender, possibly completing jobs or fast-retransmitting. -/
def execAck (p : Packet) (s : State) : Host.Outcome State Fault Refusal := live (ackArrival · p) s

/-- NAK (R349): A NAK ends a request with a final status or schedules a re-send on a transient one. -/
def execNak (p : Packet) (s : State) : Host.Outcome State Fault Refusal := live (nakArrival · p) s

/-- GET_DATA (R322): A GET_DATA reply's data is written to local memory. -/
def execGetData (p : Packet) (s : State) : Host.Outcome State Fault Refusal := live (getDataArrival · p) s

/-- ATOMIC_DATA (R344): An ATOMIC_DATA reply's old or loaded value is written to local memory. -/
def execAtomicData (p : Packet) (s : State) : Host.Outcome State Fault Refusal := live (atomicDataArrival · p) s

/-- FLUSH_DONE (R643): A FLUSH_DONE clears or keeps the barrier's unflushed mark. -/
def execFlushDone (p : Packet) (s : State) : Host.Outcome State Fault Refusal := live (flushDoneArrival · p) s

/-- PEER_OPEN_ACK (R362): A PEER_OPEN_ACK connects the opener's slot or schedules a retry. -/
def execPeerOpenAck (p : Packet) (s : State) : Host.Outcome State Fault Refusal := live (peerOpenAckArrival · p) s

/-- PEER_CLOSE_ACK (R363): A PEER_CLOSE_ACK quarantines the closing slot or returns it to CONNECTED. -/
def execPeerCloseAck (p : Packet) (s : State) : Host.Outcome State Fault Refusal := live (peerCloseAckArrival · p) s

/-- MSG_EAGER (R388): An eager message packet is committed at its endpoint to a receive or the Accession store. -/
def execMsgEager (p : Packet) (s : State) : Host.Outcome State Fault Refusal := live (msgArrival · p 0x30) s

/-- MSG_RTS (R389): A rendezvous request is committed and, if matched, starts fetching data. -/
def execMsgRts (p : Packet) (s : State) : Host.Outcome State Fault Refusal := live (msgArrival · p 0x31) s

/-- MSG_RDV_GET (R392): A rendezvous get at the sender reads the SEND's range and returns GET_DATA. -/
def execMsgRdvGet (p : Packet) (s : State) : Host.Outcome State Fault Refusal := live (rdvGetArrival · p) s

/-- MSG_FIN (R392): An MSG_FIN completes the rendezvous SEND with its result. -/
def execMsgFin (p : Packet) (s : State) : Host.Outcome State Fault Refusal := live (finArrival · p) s

/-- PARKED_PACKET_COMMIT (R386): A parked match packet commits once every earlier MSN has committed or been skipped. -/
def execParkedPacketCommit (c : Nat) (msn : Psn) (s : State) : Host.Outcome State Fault Refusal :=
  live (parkedCommit · c msn) s

/-- DELIVERY_END (R397): Once a delivery's writes are visible, its receive record is written and LCNT and ARRIVAL advance. -/
def execDeliveryEnd (ep id : Nat) (s : State) : Host.Outcome State Fault Refusal := live (deliveryEnd · ep id) s

/-- CAR_UP (R429): An up-tree partial is added into the operation's partial at the vertex. -/
def execCarUp (port : Nat) (p : Packet) (s : State) : Host.Outcome State Fault Refusal := live (carUp · port p) s

/-- CAR_DOWN (R429): A down-tree result or data packet is forwarded to children and written for the member. -/
def execCarDown (port : Nat) (p : Packet) (s : State) : Host.Outcome State Fault Refusal := live (carDown · port p) s

/-- CAR_ACK (R429): A broadcast acknowledgement sweep packet is counted toward the subtree's CAR_ACK. -/
def execCarAck (port : Nat) (p : Packet) (s : State) : Host.Outcome State Fault Refusal := live (carAck · port p) s

/-- CAR_END (R419): A CAR_END carries final status and CONTRIB and completes waiting member jobs. -/
def execCarEnd (port : Nat) (p : Packet) (s : State) : Host.Outcome State Fault Refusal := live (carEnd · port p) s

/-- CAR_SLOT (R412): A CAR_SLOT returns one edge-buffer credit. -/
def execCarSlot (port : Nat) (p : Packet) (s : State) : Host.Outcome State Fault Refusal := live (carSlot · port p) s

/-- TREE_INSTALL (R434): A vertex stages the new tree in its idle bank and reports ready with its highest OPNUM. -/
def execTreeInstall (m : TreeInstall) (s : State) : Host.Outcome State Fault Refusal := live (treeInstall · m) s

/-- TREE_EPOCH_SWITCH (R434): At T operations from N run on the new tree and old operations crossing a fence end. -/
def execTreeEpochSwitch (handle : Nat) (s : State) : Host.Outcome State Fault Refusal := live (treeSwitch · handle) s

/-- TREE_EPOCH_RETIRE (R435): The old tree bank is retired when its operations end or at T + 2 ms + 40 ns. -/
def execTreeEpochRetire (handle : Nat) (s : State) : Host.Outcome State Fault Refusal := live (treeRetire · handle) s

/-- TREE_READY_TIMEOUT (R434): A tree change without every report within CREATE_TIMEOUT is dropped and restarted. -/
def execTreeReadyTimeout (group : Nat) (s : State) : Host.Outcome State Fault Refusal := live (treeReadyTimeout · group) s

/-- GROUP_JOIN (R437): The root Curator receives a member's join report and installs the tree at SIZE joins. -/
def execGroupJoin (j : JoinReport) (s : State) : Host.Outcome State Fault Refusal := live (groupJoin · j) s

/-- GROUP_CREATE_TIMEOUT (R437): A GROUP_CREATE not reaching epoch 1 within CREATE_TIMEOUT fails with TIMEOUT. -/
def execGroupCreateTimeout (fn : Nat) (s : State) : Host.Outcome State Fault Refusal := live (createTimeout · fn) s

/-- MOVE (R457): Instruction 0x01 reads source bytes and writes destination beats in order. -/
def execMove (ch : Nat) (s : State) : Host.Outcome State Fault Refusal := live (fun s => execute s ch [0x01] (moveInstr ch)) s

/-- MOVE_CHECKED (R458): Instructions 0x02 to 0x04 move data and write a checksum trailer. -/
def execMoveChecked (ch : Nat) (s : State) : Host.Outcome State Fault Refusal :=
  live (fun s => execute s ch [0x02, 0x03, 0x04] (moveInstr ch)) s

/-- LOOP (R460): Instruction 0x10 advances a loop level and jumps back or falls through. -/
def execLoop (ch : Nat) (s : State) : Host.Outcome State Fault Refusal := live (fun s => execute s ch [0x10] (loopInstr ch)) s

/-- WAIT (R461): Instruction 0x11 starts a wait on a counter, a time or the channel event. -/
def execWait (ch : Nat) (s : State) : Host.Outcome State Fault Refusal := live (fun s => execute s ch [0x11] (waitInstr ch)) s

/-- WAIT_END (R461): A Mover wait ends on its counter, time or event, or fails at TIMEOUT. -/
def execWaitEnd (ch : Nat) (s : State) : Host.Outcome State Fault Refusal := live (waitEnd · ch) s

/-- SIGNAL (R462): Instruction 0x12 adds to a counter or sets a channel's EVENT flag once earlier writes are visible. -/
def execSignal (ch : Nat) (s : State) : Host.Outcome State Fault Refusal :=
  live (fun s => execute s ch [0x12] (signalInstr ch)) s

/-- MOVER_FENCE (R463): Instruction 0x13 holds later instructions until earlier writes are visible. -/
def execMoverFence (ch : Nat) (s : State) : Host.Outcome State Fault Refusal :=
  live (fun s => execute s ch [0x13] (fenceInstr ch)) s

/-- MOVER_END (R464): Instruction 0x1F completes the program once its writes are visible. -/
def execMoverEnd (ch : Nat) (s : State) : Host.Outcome State Fault Refusal :=
  live (fun s => execute s ch [0x1F] (fun s _ => movDone s ch)) s

/-- MOVER_BEAT (R449): The shared datapath grants one beat to the ready channel of highest priority. -/
def execMoverBeat (s : State) : Host.Outcome State Fault Refusal := live moverBeat s

/-- DESCRIPTOR (R469): A chain descriptor is read and executed as a move, then its link is followed. -/
def execDescriptor (ch : Nat) (s : State) : Host.Outcome State Fault Refusal := live (descriptor · ch) s

/-- MOVER_READ_FAILURE (R466): A failed source read fails its beat with BUS_ERROR and ends the program. -/
def execMoverReadFailure (ch : Nat) (s : State) : Host.Outcome State Fault Refusal := live (readFailure · ch) s

/-- INJECTION_GRANT (R479): An injection port chooses its next packet by Strike, reply, maintenance, then deficit round robin. -/
def execInjectionGrant (port : Nat) (s : State) : Host.Outcome State Fault Refusal := live (injectionGrant · port) s

/-- SHAPER_TICK (R486): Each tick every enabled shaper and policer applies due resets and accrues RATE. -/
def execShaperTick (s : State) : Host.Outcome State Fault Refusal :=
  die (fun s => if running s then settle (deviceTick s) else deviceTick s) s

/-- QUEUE_SAMPLE (R493): Every 1,000 ticks every sampled queue's DEPTH and DELAY are taken. -/
def execQueueSample (s : State) : Host.Outcome State Fault Refusal := live queueSample s

/-- DIAL_SAMPLE (R567): A sample reaches a Dial and updates its count, sum, extremes and histogram. -/
def execDialSample (d : Nat) (s : State) : Host.Outcome State Fault Refusal := live (dialSample · d) s

/-- STRIKE_FRAME_START (R106): A flow's front frame starts at the first tick of a window occurrence in which it fits. -/
def execStrikeFrameStart (flow : Nat) (s : State) : Host.Outcome State Fault Refusal := live (frameStart · flow) s

/-- STRIKE_EPOCH_SWITCH (R115): At T the staged schedule bank becomes current. -/
def execStrikeEpochSwitch (s : State) : Host.Outcome State Fault Refusal := live strikeSwitchReport s

/-- STRIKE_EPOCH_RETIRE (R115): At R the old schedule bank is idled. -/
def execStrikeEpochRetire (s : State) : Host.Outcome State Fault Refusal := live strikeRetire s

/-- STRIKE_ACTIVATE_TIMEOUT (R116): Without all ready reports within 100 ms the master cancels the schedule change. -/
def execStrikeActivateTimeout (s : State) : Host.Outcome State Fault Refusal := live strikeTimeout s

/-- STRIKE_WAIT_EXPIRY (R67): A Strike packet waiting 64 ticks or facing a fenced port is moved to the request class on escape. -/
def execStrikeWaitExpiry (port : Nat) (s : State) : Host.Outcome State Fault Refusal := live (strikeWaitExpiry · port) s

/-- HEAD_FLIT_GRANT (R57): A waiting head flit is granted an output virtual channel, oldest first, or delivered. -/
def execHeadFlitGrant (port vc : Nat) (s : State) : Host.Outcome State Fault Refusal := live (headFlitGrant · port vc) s

/-- ESC_DELAY_EXPIRY (R61): A head flit waiting ESC_DELAY or DETOUR_WAIT ticks becomes eligible for escape. -/
def execEscDelayExpiry (port vc : Nat) (s : State) : Host.Outcome State Fault Refusal := live (escDelayExpiry · port vc) s

/-- AGE_CHECK (R84): Every 1 µs the head flit at the front of each buffer is discarded if 1,952 units old. -/
def execAgeCheck (s : State) : Host.Outcome State Fault Refusal := live ageCheck s

/-- EJECT_STALL (R71): A function whose ejection writes make no progress for 100 µs raises HIF_EJECT_STALL and is fenced. -/
def execEjectStall (fn : Nat) (s : State) : Host.Outcome State Fault Refusal := live (ejectStall · fn) s

/-- FLIT_GROUP_RECEIVE (R154): A flit group is decoded, checked and accepted in SEQ order or NAKed. -/
def execFlitGroupReceive (p : Nat) (g : RawGroup) (s : State) : Host.Outcome State Fault Refusal :=
  laneEvent p (fun s => advanceAll (groupReceive s p g)) s

/-- NAK_REPEAT (R161): Every 2 µs a receiver repeats its NAK until the expected group arrives. -/
def execNakRepeat (p : Nat) (s : State) : Host.Outcome State Fault Refusal := laneEvent p (nakRepeat · p) s

/-- TRAIN (R170): A TRAIN ordered set advances the port through its training phases. -/
def execTrain (p : Nat) (lanes : List Nat) (s : State) : Host.Outcome State Fault Refusal := laneEvent p (trainSet · p lanes) s

/-- TRAINING_TIMEOUT (R170): A port not READY within its bound fails training and retries every 100 ms. -/
def execTrainingTimeout (p : Nat) (s : State) : Host.Outcome State Fault Refusal := laneEvent p (trainingTimeout · p) s

/-- TIME_X_SEND (R130): Every 4 µs each ACTIVE fabric link direction sends a time-exchange ordered set. -/
def execTimeXSend (p : Nat) (s : State) : Host.Outcome State Fault Refusal := laneEvent p (timeXSend · p) s

/-- TIME_X (R130): A received time exchange yields offset and delay, steers the rate and may synchronise. -/
def execTimeX (p : Nat) (set : TimedSet) (s : State) : Host.Outcome State Fault Refusal :=
  laneEvent p (timeSet · p set.lanes set.frac) s

/-- HOLDOVER_EXPIRY (R139): A holdover lasting more than 1 ms raises RGL_SYNC_LOST. -/
def execHoldoverExpiry (s : State) : Host.Outcome State Fault Refusal := live holdoverExpiry s

/-- FENCE (R159): A received FENCE ordered set fences the port and raises LNE_PEER_FENCE. -/
def execFence (p : Nat) (lanes : List Nat) (s : State) : Host.Outcome State Fault Refusal := laneEvent p (fenceSet · p lanes) s

/-- SLEEP (R174): A received SLEEP ordered set puts the receiver to sleep. -/
def execSleep (set : PortSet) (s : State) : Host.Outcome State Fault Refusal :=
  laneEvent set.port (sleepSet · set.port set.lanes) s

/-- SLEEP_ENTRY (R174): A transmit direction idle for SLEEP_IDLE µs sends SLEEP and enters electrical idle. -/
def execSleepEntry (p : Nat) (s : State) : Host.Outcome State Fault Refusal := laneEvent p (sleepEntry · p) s

/-- SLEEP_WAKE (R175): A sleeping direction wakes when a flit, credit or acknowledgement becomes due. -/
def execSleepWake (p : Nat) (s : State) : Host.Outcome State Fault Refusal := laneEvent p (sleepWake · p) s

/-- LANE_SIGNAL_LOSS (R169): A lane loses signal or lock; a bridge lane signals the twin block at once. -/
def execLaneSignalLoss (p lane : Nat) (lock : Bool) (s : State) : Host.Outcome State Fault Refusal :=
  laneEvent p (signalLoss · p lane lock) s

/-- LNE_LINK_DOWN (R169): Loss lasting 500 ns takes the fabric link down and fences the port. -/
def execLneLinkDown (p : Nat) (s : State) : Host.Outcome State Fault Refusal := laneEvent p (linkDown · p) s

/-- REF_SIGNAL_LOSS (R169): REF_10M or TIME_IN_PPS loses signal or lock and REF_OK changes. -/
def execRefSignalLoss (bits : Nat) (s : State) : Host.Outcome State Fault Refusal :=
  live (refLost · bits) s

/-- TIME_IN_PPS (R128): A PPS edge aligns the root's time-stamp to the announced second. -/
def execTimeInPps (frac : Nat) (s : State) : Host.Outcome State Fault Refusal := live (ppsEdge · frac) s

/-- TIME_IN_TOD (R125): A time-of-day message naming the next PPS edge is checked and kept. -/
def execTimeInTod (m : List Byte) (s : State) : Host.Outcome State Fault Refusal := live (todMessage · m) s

/-- TIME_OUT_PPS (R126): The output pulse rises at each whole second of Regulator time. -/
def execTimeOutPps (s : State) : Host.Outcome State Fault Refusal := live ppsOut s

/-- ROOT_HANDOVER (R137): A root without its reference for 10 s hands the role to the backup root. -/
def execRootHandover (s : State) : Host.Outcome State Fault Refusal := live rootHandover s

/-- BACKUP_ROOT_TAKEOVER (R138): The backup root becomes root after 20 µs without a valid root exchange or on a root fence. -/
def execBackupRootTakeover (s : State) : Host.Outcome State Fault Refusal := live backupTakeover s

/-- PACE_WINDOW (R42): Every 1 µs a 512-tick replica window ends and MVT_PACE is updated and checked against LIMIT. -/
def execPaceWindow (count mv : Nat) (tj : Int) (s : State) : Host.Outcome State Fault Refusal :=
  live (paceWindow · count mv tj) s

/-- FENCE_REPORT (R641): The epoch master receives a fence or restored-link report and starts an epoch change. -/
def execFenceReport (device : Nat) (r : PortReport) (s : State) : Host.Outcome State Fault Refusal :=
  live (portReport · device r) s

/-- FENCE_REPORT_RESEND (R641): An unacknowledged fence report is re-sent every 100 µs. -/
def execFenceReportResend (s : State) : Host.Outcome State Fault Refusal := live resendReports s

/-- EPOCH_FLOOD (R79): A device receives a new epoch and fault map, writes its idle bank and reports ready. -/
def execEpochFlood (number : Nat) (map : FaultMap) (s : State) : Host.Outcome State Fault Refusal :=
  live (epochFlood · number map) s

/-- EPOCH_READY_REPORT (R79): The master collects ready reports and floods switch time T. -/
def execEpochReadyReport (r : ReadyReport) (s : State) : Host.Outcome State Fault Refusal := live (readyReport · r) s

/-- SWITCH_TIME_FLOOD (R80): A device receives T, switching on receipt if T has passed. -/
def execSwitchTimeFlood (f : SwitchFlood) (s : State) : Host.Outcome State Fault Refusal := live (switchFlood · f) s

/-- ROUTE_EPOCH_SWITCH (R79): At T the staged route bank becomes current and the switch is reported. -/
def execRouteEpochSwitch (s : State) : Host.Outcome State Fault Refusal := live routeSwitch s

/-- SWITCH_REPORT (R81): The master collects switch reports and floods retirement time R. -/
def execSwitchReport (r : SwitchReport) (s : State) : Host.Outcome State Fault Refusal := live (switchReport · r) s

/-- ROUTE_EPOCH_RETIRE (R81): At R the old route bank is returned to idle. -/
def execRouteEpochRetire (s : State) : Host.Outcome State Fault Refusal := live routeRetire s

/-- EPOCH_REPORT_TIMEOUT (R80): A device silent 1 ms after flood or after T is fenced and the change restarts. -/
def execEpochReportTimeout (s : State) : Host.Outcome State Fault Refusal := live epochTimeout s

/-- FAULT_MAP_REPORT (R77): A Curator receives its twin's plane fault map over the bridge. -/
def execFaultMapReport (map : FaultMap) (s : State) : Host.Outcome State Fault Refusal := live (faultMapReport · map) s

/-- COORDINATE_ANNOUNCEMENT (R610): A received coordinate announcement may fix the coordinate or reveal a miswire. -/
def execCoordinateAnnouncement (port : Nat) (coord : Nat) (s : State) : Host.Outcome State Fault Refusal :=
  live (announcement · port coord) s

/-- RE_AIM_NOTICE (R533): A peer re-aims its connections to the survivor and closes its peer slot to the failed device. -/
def execReAimNotice (coord : Nat) (failed : Nat) (s : State) : Host.Outcome State Fault Refusal :=
  live (reAimNotice · coord failed) s

/-- FABRIC_COMMANDED_RESET (R614): A reset from the epoch master warm-resets the device and takes its host link down. -/
def execFabricCommandedReset (sender : Nat) (s : State) : Host.Outcome State Fault Refusal := die (fabricReset · sender) s

/-- HEARTBEAT_SEND (R521): Every 1 µs a twin block sends a HEARTBEAT frame while the bridge is READY. -/
def execHeartbeatSend (s : State) : Host.Outcome State Fault Refusal := live heartbeatSend s

/-- HELLO (R517): A received HELLO frame drives pairing checks. -/
def execHello (frame : TwinFrame) (s : State) : Host.Outcome State Fault Refusal := live (helloFrame · frame) s

/-- HEARTBEAT (R521): A received HEARTBEAT refreshes the partner's liveness and state. -/
def execHeartbeat (frame : TwinFrame) (s : State) : Host.Outcome State Fault Refusal := live (heartbeatFrame · frame) s

/-- MIRROR (R522): A received mirror record is buffered, confirmed and written to the mirror area. -/
def execMirror (frame : TwinFrame) (s : State) : Host.Outcome State Fault Refusal := live (mirrorFrame · frame) s

/-- SYNC_DONE (R517): A SYNC_DONE frame confirms the configuration copy and leads to PAIRED. -/
def execSyncDone (frame : TwinFrame) (s : State) : Host.Outcome State Fault Refusal := live (syncDoneFrame · frame) s

/-- MIRROR_CONFIRM (R523): Confirmation of a mirror record releases the gated event waiting on it. -/
def execMirrorConfirm (seq : Nat) (s : State) : Host.Outcome State Fault Refusal := live (mirrorConfirm · seq) s

/-- HEARTBEAT_TIMEOUT (R524): No HEARTBEAT for 4 µs is a cause of death. -/
def execHeartbeatTimeout (s : State) : Host.Outcome State Fault Refusal := live heartbeatTimeout s

/-- FATAL_IN (R524): Assertion of FATAL_IN is a cause of death and confirms a stop. -/
def execFatalIn (s : State) : Host.Outcome State Fault Refusal := die (pinEvent fatalLevel fatalIn) s

/-- TWIN_STOP_DELAY_EXPIRY (R525): The plane 1 twin asserts TWIN_STOP_OUT 5 µs after a bridge cause unless stopped first. -/
def execTwinStopDelayExpiry (s : State) : Host.Outcome State Fault Refusal := live stopDelayExpiry s

/-- TWIN_STOP_IN (R525): Assertion of TWIN_STOP_IN forces the safe state. -/
def execTwinStopIn (s : State) : Host.Outcome State Fault Refusal := die (pinEvent stopLevel stopIn) s

/-- STOP_CONFIRM_TIMEOUT (R526): Without FATAL_IN 5 µs after TWIN_STOP_OUT, the twin enters PARTNER_DEAD without adopting. -/
def execStopConfirmTimeout (s : State) : Host.Outcome State Fault Refusal := live stopConfirmTimeout s

/-- STOP_OUT_RELEASE (R608): TWIN_STOP_OUT is deasserted 10 µs after FATAL_IN is seen. -/
def execStopOutRelease (s : State) : Host.Outcome State Fault Refusal := live stopOutRelease s

/-- ADOPT_QUEUE (R528): With a queue's head and shadow words read, the survivor recreates and replays it. -/
def execAdoptQueue (q : Nat) (s : State) : Host.Outcome State Fault Refusal := live (adoptQueue · q) s

/-- SHADOW_WORD_POLL (R534): Every 10 µs before its first doorbell, an adopted queue's shadow producer word is read. -/
def execShadowWordPoll (q : Nat) (s : State) : Host.Outcome State Fault Refusal := live (shadowPoll · q) s

/-- FAULT_OCCURRENCE (R543): A fault source occurrence is counted, logged and handled at its severity. -/
def execFaultOccurrence (occs : List Occ) (s : State) : Host.Outcome State Fault Refusal := die (occurrences occs) s

/-- POWER_ON_RESET (R599): A main-die rail below threshold or PWRGD low resets all main-die state. -/
def execPowerOnReset (s : State) : Host.Outcome State Fault Refusal := die (resetDevice · true) s

/-- RESET_RELEASE (R600): The main die leaves reset 1 ms after PWRGD and on PERST0# deassertion, sampling straps. -/
def execResetRelease (straps : Straps) (s : State) : Host.Outcome State Fault Refusal := die (resetRelease · straps) s

/-- WARM_RESET (R616): PERST0# asserted for 100 ns or more resets the main die except sticky fields. -/
def execWarmReset (s : State) : Host.Outcome State Fault Refusal := die (resetDevice · false) s

/-- LINK_HALF_RESET (R184): Link-down or hot reset of one half resets its functions as FLR. -/
def execLinkHalfReset (half : Nat) (s : State) : Host.Outcome State Fault Refusal := live (linkHalfReset · half) s

/-- FUNCTION_LEVEL_RESET (R206): FLR discards a function's queues and resources without host access. -/
def execFunctionLevelReset (fn : Nat) (s : State) : Host.Outcome State Fault Refusal := live (functionReset · fn) s

/-- MACHINE_RECORD_READ (R604): The machine record and lane table are read over I2C and accepted or defaulted. -/
def execMachineRecordRead (bytes : List Byte) (s : State) : Host.Outcome State Fault Refusal :=
  live (machineRecordRead · bytes) s

/-- FIRMWARE_LOAD (R605): The boot loader loads and checks the boot image, starts the Curator and releases FATAL_OUT at READY. -/
def execFirmwareLoad (s : State) : Host.Outcome State Fault Refusal := live firmwareLoad s

/-- COORDINATE_DISCOVERY (R609): After READY the Curator fixes the coordinate from anchor, neighbour or twin. -/
def execCoordinateDiscovery (s : State) : Host.Outcome State Fault Refusal := live discover s

/-- D3HOT_ENTRY (R618): A function entering D3hot stops fetching and NAKs its arrivals. -/
def execD3hotEntry (fn : Nat) (s : State) : Host.Outcome State Fault Refusal := live (d3hotEntry · fn) s

/-- D0_RETURN (R618): A function returning to D0 resumes fetching and delivering with its state kept. -/
def execD0Return (fn : Nat) (s : State) : Host.Outcome State Fault Refusal := live (d0Return · fn) s

/-- SUPPLY_MONITOR (R40): A rail or junction condition persisting for its time raises its supply or thermal source. -/
def execSupplyMonitor (src : Nat) (value : Int) (s : State) : Host.Outcome State Fault Refusal :=
  live (supplyMonitor · src value) s

/-- REGISTRAR_POWER_ON (R580): REG_VDD power-on starts a new Registrar session after the image digest check. -/
def execRegistrarPowerOn (s : State) : Host.Outcome State Fault Refusal := registrar regPowerOn s

/-- TAP_FRAME (R581): A tap frame adds per-tenant increments, or marks a gap. -/
def execTapFrame (lost : Bool) (bad : Bool) (s : State) : Host.Outcome State Fault Refusal := registrar (tapFrame · lost bad) s

/-- TAP_STOPPED (R581): No tap frame for 1 ms sets TAP_STOPPED and writes an event record. -/
def execTapStopped (s : State) : Host.Outcome State Fault Refusal := registrar tapStopped s

/-- ENERGY_SAMPLE (R585): 100,000 times a second each metered rail's power is integrated. -/
def execEnergySample (e : EnergySample) (s : State) : Host.Outcome State Fault Refusal := registrar (energySample · e) s

/-- PERIOD_BOUNDARY (R588): At each period boundary the Registrar writes ENERGY and per-tenant records. -/
def execPeriodBoundary (s : State) : Host.Outcome State Fault Refusal := registrar periodBoundary s

/-- SEAL (R592): A SEAL on the calibration port blows the SEAL fuse and freezes the parameters. -/
def execSeal (s : State) : Host.Outcome State Fault Refusal := registrar regSeal s

/-- CALIBRATION_WRITE (R593): A calibration-port write is accepted before SEAL, or refused and sets TAMPER after. -/
def execCalibrationWrite (w : CalWrite) (s : State) : Host.Outcome State Fault Refusal := registrar (calWrite · w) s

/-- CAL_EN (R593): Assertion of CAL_EN after SEAL sets the tamper flag. -/
def execCalEn (s : State) : Host.Outcome State Fault Refusal := registrar calEnable s

/-- HOST_READ_COMPLETION (R202): A device read over PCI Express returns its completion, or fails with Unsupported Request, Completer Abort, poison or completion timeout. -/
def execHostReadCompletion (addr : Nat) (data : List Byte) (error : Option CplError) (s : State) : Host.Outcome State Fault Refusal :=
  live (readCompletion · addr data error) s

/-- CONFIGURATION_REQUEST (R186): A host configuration write changes Bus Master Enable, VF Enable or Device Control of a function. -/
def execConfigurationRequest (fn : Nat) (bus : Nat) (w : CfgWrite) (s : State) : Host.Outcome State Fault Refusal :=
  die (configurationRequest · fn bus w) s

/-- HOST_LINK_TRAINED (R181): A host link half finishes training, and its rate and width are reported in HIF_LINK_STATUS. -/
def execHostLinkTrained (half : Nat) (speed : Nat) (width : Nat) (s : State) : Host.Outcome State Fault Refusal :=
  live (hostLinkTrained · half speed width) s

/-- SIGNAL_DETECT (R170): A lane receiver in DETECT detects signal and locks clock recovery. -/
def execSignalDetect (p lane : Nat) (s : State) : Host.Outcome State Fault Refusal := laneEvent p (signalDetect · p lane) s

/-- ADAPT (R170): The adaptation loop of every fabric lane reaches FOM_MIN and the ADAPT phase ends. -/
def execAdapt (p : Nat) (lanes : List (Nat × LaneEq)) (s : State) : Host.Outcome State Fault Refusal := laneEvent p (adapt · p lanes) s

/-- BLOCK_LOCK (R150): A lane receiver gains block lock after 64 consecutive valid sync headers. -/
def execBlockLock (p : Nat) (lane : LaneHeads) (s : State) : Host.Outcome State Fault Refusal :=
  laneEvent p (blockLock · p lane.lane lane.heads lane.skew) s

/-- LNE_FOM_LOW (R167): A lane's figure of merit stays below FOM_WARN for 1 ms and LNE_FOM_LOW is raised. -/
def execLneFomLow (p lane fom : Nat) (s : State) : Host.Outcome State Fault Refusal := laneEvent p (fomLow · p lane fom) s

/-- REF_OK (R169): REF_10M and TIME_IN_PPS are present and locked again and REF_OK returns to 1, raising LNE_REF_LOSS. -/
def execRefOk (s : State) : Host.Outcome State Fault Refusal := live refFound s

/-- REMOTE_RELAY (R509): A lock access or FLR report relayed from the twin or a remote Curator arrives at the target bank and is applied. -/
def execRemoteRelay (r : LockRelay) (s : State) : Host.Outcome State Fault Refusal := live (remoteRelay · r) s

/-- TREE_READY_REPORT (R434): The group's root Curator collects tree ready reports, sets N and floods N and switch time T. -/
def execTreeReadyReport (r : TreeReport) (s : State) : Host.Outcome State Fault Refusal := live (treeReadyReport · r) s

/-- DESTROY_FLOOD (R446): The root's GROUP_DESTROY flood reaches another vertex, which destroys the group there. -/
def execDestroyFlood (group : Nat) (s : State) : Host.Outcome State Fault Refusal := live (destroyFlood · group) s

/-- FATAL_IN_DEASSERTED (R517): FATAL_IN is deasserted when the partner's Curator becomes READY. -/
def execFatalInDeasserted (s : State) : Host.Outcome State Fault Refusal := die (pinEvent fatalInOff fatalInOff) s

/-- TWIN_STOP_IN_DEASSERTED (R608): TWIN_STOP_IN is deasserted, re-arming the source for a later assertion. -/
def execTwinStopInDeasserted (s : State) : Host.Outcome State Fault Refusal := die (pinEvent stopInOff stopInOff) s

/-- ASPM_L1 (R617): The host link enters ASPM L1 by host policy, and leaves it within 8 µs when the device requests exit for a pending access. -/
def execAspmL1 (half : Nat) (enter : Bool) (s : State) : Host.Outcome State Fault Refusal := live (aspmL1 · half enter) s

end Sys2Proof.Machine
end

