-- ==== Sys2Proof/Machine/Dispatch.lean ====
section
/-! DEFINITION. Which meaning each command has. -/

namespace Sys2Proof.Machine

def exec (i : Instr) (s : State) : Host.Outcome State Fault Refusal :=
  match i with
  | .deviceNop fn => Sys2Proof.Machine.execDeviceNop fn s
  | .deviceIdentify fn => Sys2Proof.Machine.execDeviceIdentify fn s
  | .deviceConfig fn => Sys2Proof.Machine.execDeviceConfig fn s
  | .expertEnter fn => Sys2Proof.Machine.execExpertEnter fn s
  | .expertLeave fn => Sys2Proof.Machine.execExpertLeave fn s
  | .fwQuery fn => Sys2Proof.Machine.execFwQuery fn s
  | .fwStage fn => Sys2Proof.Machine.execFwStage fn s
  | .fwCommit fn => Sys2Proof.Machine.execFwCommit fn s
  | .fwDiscard fn => Sys2Proof.Machine.execFwDiscard fn s
  | .queueGroupGrant fn => Sys2Proof.Machine.execQueueGroupGrant fn s
  | .queueGroupReclaim fn => Sys2Proof.Machine.execQueueGroupReclaim fn s
  | .queueCreate fn => Sys2Proof.Machine.execQueueCreate fn s
  | .queueDestroy fn => Sys2Proof.Machine.execQueueDestroy fn s
  | .queueReset fn => Sys2Proof.Machine.execQueueReset fn s
  | .queueQuery fn => Sys2Proof.Machine.execQueueQuery fn s
  | .eventRingCreate fn => Sys2Proof.Machine.execEventRingCreate fn s
  | .eventRingDestroy fn => Sys2Proof.Machine.execEventRingDestroy fn s
  | .eventRingClear fn => Sys2Proof.Machine.execEventRingClear fn s
  | .connCreate fn => Sys2Proof.Machine.execConnCreate fn s
  | .connConnect fn => Sys2Proof.Machine.execConnConnect fn s
  | .connDestroy fn => Sys2Proof.Machine.execConnDestroy fn s
  | .connReset fn => Sys2Proof.Machine.execConnReset fn s
  | .connQuery fn => Sys2Proof.Machine.execConnQuery fn s
  | .counterAlloc fn => Sys2Proof.Machine.execCounterAlloc fn s
  | .counterFree fn => Sys2Proof.Machine.execCounterFree fn s
  | .counterQuery fn => Sys2Proof.Machine.execCounterQuery fn s
  | .ctxConfig fn => Sys2Proof.Machine.execCtxConfig fn s
  | .regionCreate fn => Sys2Proof.Machine.execRegionCreate fn s
  | .regionRevoke fn => Sys2Proof.Machine.execRegionRevoke fn s
  | .regionDestroy fn => Sys2Proof.Machine.execRegionDestroy fn s
  | .regionQuery fn => Sys2Proof.Machine.execRegionQuery fn s
  | .regionInvalidate fn => Sys2Proof.Machine.execRegionInvalidate fn s
  | .faultRingCreate fn => Sys2Proof.Machine.execFaultRingCreate fn s
  | .faultRingDestroy fn => Sys2Proof.Machine.execFaultRingDestroy fn s
  | .pageResolve fn => Sys2Proof.Machine.execPageResolve fn s
  | .xltConfig fn => Sys2Proof.Machine.execXltConfig fn s
  | .endpointCreate fn => Sys2Proof.Machine.execEndpointCreate fn s
  | .endpointDestroy fn => Sys2Proof.Machine.execEndpointDestroy fn s
  | .endpointQuery fn => Sys2Proof.Machine.execEndpointQuery fn s
  | .catConfig fn => Sys2Proof.Machine.execCatConfig fn s
  | .groupCreate fn => Sys2Proof.Machine.execGroupCreate fn s
  | .groupDestroy fn => Sys2Proof.Machine.execGroupDestroy fn s
  | .groupQuery fn => Sys2Proof.Machine.execGroupQuery fn s
  | .groupRebuild fn => Sys2Proof.Machine.execGroupRebuild fn s
  | .carConfig fn => Sys2Proof.Machine.execCarConfig fn s
  | .routeQuery fn => Sys2Proof.Machine.execRouteQuery fn s
  | .routeConfig fn => Sys2Proof.Machine.execRouteConfig fn s
  | .routePortFence fn => Sys2Proof.Machine.execRoutePortFence fn s
  | .routeEpochChange fn => Sys2Proof.Machine.execRouteEpochChange fn s
  | .routeTableRead fn => Sys2Proof.Machine.execRouteTableRead fn s
  | .strikeQuery fn => Sys2Proof.Machine.execStrikeQuery fn s
  | .strikeStage fn => Sys2Proof.Machine.execStrikeStage fn s
  | .strikeActivate fn => Sys2Proof.Machine.execStrikeActivate fn s
  | .strikeDiscard fn => Sys2Proof.Machine.execStrikeDiscard fn s
  | .strikeFlowBind fn => Sys2Proof.Machine.execStrikeFlowBind fn s
  | .strikeFlowUnbind fn => Sys2Proof.Machine.execStrikeFlowUnbind fn s
  | .strikeConfig fn => Sys2Proof.Machine.execStrikeConfig fn s
  | .laneQuery fn => Sys2Proof.Machine.execLaneQuery fn s
  | .laneRetrain fn => Sys2Proof.Machine.execLaneRetrain fn s
  | .laneSleepConfig fn => Sys2Proof.Machine.execLaneSleepConfig fn s
  | .laneTableRead fn => Sys2Proof.Machine.execLaneTableRead fn s
  | .laneConfig fn => Sys2Proof.Machine.execLaneConfig fn s
  | .lockClaim fn => Sys2Proof.Machine.execLockClaim fn s
  | .lockRelease fn => Sys2Proof.Machine.execLockRelease fn s
  | .lockQuery fn => Sys2Proof.Machine.execLockQuery fn s
  | .lockGroupConfig fn => Sys2Proof.Machine.execLockGroupConfig fn s
  | .lockPeer fn => Sys2Proof.Machine.execLockPeer fn s
  | .wordLockClaim fn => Sys2Proof.Machine.execWordLockClaim fn s
  | .wordLockRelease fn => Sys2Proof.Machine.execWordLockRelease fn s
  | .twinQuery fn => Sys2Proof.Machine.execTwinQuery fn s
  | .twinConfig fn => Sys2Proof.Machine.execTwinConfig fn s
  | .twinBridgeRetrain fn => Sys2Proof.Machine.execTwinBridgeRetrain fn s
  | .twinAdopt fn => Sys2Proof.Machine.execTwinAdopt fn s
  | .counterRead fn => Sys2Proof.Machine.execCounterRead fn s
  | .counterConfig fn => Sys2Proof.Machine.execCounterConfig fn s
  | .userPageConfig fn => Sys2Proof.Machine.execUserPageConfig fn s
  | .dialConfig fn => Sys2Proof.Machine.execDialConfig fn s
  | .dialRead fn => Sys2Proof.Machine.execDialRead fn s
  | .provConfig fn => Sys2Proof.Machine.execProvConfig fn s
  | .provRead fn => Sys2Proof.Machine.execProvRead fn s
  | .faultSevSet fn => Sys2Proof.Machine.execFaultSevSet fn s
  | .faultQuery fn => Sys2Proof.Machine.execFaultQuery fn s
  | .faultLogRead fn => Sys2Proof.Machine.execFaultLogRead fn s
  | .registrarQuery fn => Sys2Proof.Machine.execRegistrarQuery fn s
  | .registrarRead fn => Sys2Proof.Machine.execRegistrarRead fn s
  | .moverChannelAlloc fn => Sys2Proof.Machine.execMoverChannelAlloc fn s
  | .moverChannelFree fn => Sys2Proof.Machine.execMoverChannelFree fn s
  | .moverChannelQuery fn => Sys2Proof.Machine.execMoverChannelQuery fn s
  | .moverChannelPriority fn => Sys2Proof.Machine.execMoverChannelPriority fn s
  | .moverConfig fn => Sys2Proof.Machine.execMoverConfig fn s
  | .schedGroupQuery fn => Sys2Proof.Machine.execSchedGroupQuery fn s
  | .schedGroupQuantum fn => Sys2Proof.Machine.execSchedGroupQuantum fn s
  | .schedShaperConfig fn => Sys2Proof.Machine.execSchedShaperConfig fn s
  | .schedPolicerConfig fn => Sys2Proof.Machine.execSchedPolicerConfig fn s
  | .schedFnQuery fn => Sys2Proof.Machine.execSchedFnQuery fn s
  | .schedQueueSample fn => Sys2Proof.Machine.execSchedQueueSample fn s
  | .schedConfig fn => Sys2Proof.Machine.execSchedConfig fn s
  | .commandTaken fn => Sys2Proof.Machine.execCommandTaken fn s
  | .commandComplete fn status word => Sys2Proof.Machine.execCommandComplete fn status word s
  | .commandTimeout fn => Sys2Proof.Machine.execCommandTimeout fn s
  | .curCoreStop core fn => Sys2Proof.Machine.execCurCoreStop core fn s
  | .adminQueueEnable fn value => Sys2Proof.Machine.execAdminQueueEnable fn value s
  | .adminQueueDisable fn value => Sys2Proof.Machine.execAdminQueueDisable fn value s
  | .admDb fn value => Sys2Proof.Machine.execAdmDb fn value s
  | .admMailboxRead fn => Sys2Proof.Machine.execAdmMailboxRead fn s
  | .dbProducer fn offset width value => Sys2Proof.Machine.execDbProducer fn offset width value s
  | .inlineStore fn offset bytes => Sys2Proof.Machine.execInlineStore fn offset bytes s
  | .movAppend fn value => Sys2Proof.Machine.execMovAppend fn value s
  | .lockWordWrite fn offset value => Sys2Proof.Machine.execLockWordWrite fn offset value s
  | .lockWaitRead fn lock => Sys2Proof.Machine.execLockWaitRead fn lock s
  | .waitReadReturn lock => Sys2Proof.Machine.execWaitReadReturn lock s
  | .portFenceWrite fn port value => Sys2Proof.Machine.execPortFenceWrite fn port value s
  | .retrain fn port => Sys2Proof.Machine.execRetrain fn port s
  | .msixUnmask fn vector => Sys2Proof.Machine.execMsixUnmask fn vector s
  | .latchingRegisterRead fn place width => Sys2Proof.Machine.execLatchingRegisterRead fn place width s
  | .userPageRead fn offset width => Sys2Proof.Machine.execUserPageRead fn offset width s
  | .registerWrite fn offset width value => Sys2Proof.Machine.execRegisterWrite fn offset width value s
  | .undefinedOffsetAccess fn offset width kind => Sys2Proof.Machine.execUndefinedOffsetAccess fn offset width kind s
  | .nop q => Sys2Proof.Machine.execNop q s
  | .put q => Sys2Proof.Machine.execPut q s
  | .putImm q => Sys2Proof.Machine.execPutImm q s
  | .get q => Sys2Proof.Machine.execGet q s
  | .atomic q => Sys2Proof.Machine.execAtomic q s
  | .counterAdd q => Sys2Proof.Machine.execCounterAdd q s
  | .counterSet q => Sys2Proof.Machine.execCounterSet q s
  | .barrier q => Sys2Proof.Machine.execBarrier q s
  | .reserveLoad q => Sys2Proof.Machine.execReserveLoad q s
  | .condStore q => Sys2Proof.Machine.execCondStore q s
  | .send q => Sys2Proof.Machine.execSend q s
  | .recv q => Sys2Proof.Machine.execRecv q s
  | .collective q => Sys2Proof.Machine.execCollective q s
  | .moverStart q => Sys2Proof.Machine.execMoverStart q s
  | .moverChain q => Sys2Proof.Machine.execMoverChain q s
  | .moverAppend q => Sys2Proof.Machine.execMoverAppend q s
  | .armedJobRelease q idx => Sys2Proof.Machine.execArmedJobRelease q idx s
  | .headIndexPublish q => Sys2Proof.Machine.execHeadIndexPublish q s
  | .errorRingReread q => Sys2Proof.Machine.execErrorRingReread q s
  | .eventRingReread fn ring => Sys2Proof.Machine.execEventRingReread fn ring s
  | .msixMessage fn ring => Sys2Proof.Machine.execMsixMessage fn ring s
  | .faultRingReread fn => Sys2Proof.Machine.execFaultRingReread fn s
  | .receiveRingReread ep => Sys2Proof.Machine.execReceiveRingReread ep s
  | .localTimeout q idx => Sys2Proof.Machine.execLocalTimeout q idx s
  | .pagePendingResend ctx psn => Sys2Proof.Machine.execPagePendingResend ctx psn s
  | .retransmitTimeout ctx psn => Sys2Proof.Machine.execRetransmitTimeout ctx psn s
  | .ackSend ctx => Sys2Proof.Machine.execAckSend ctx s
  | .fencedHoldExpiry ctx => Sys2Proof.Machine.execFencedHoldExpiry ctx s
  | .peerIdleExpiry ctx => Sys2Proof.Machine.execPeerIdleExpiry ctx s
  | .contextQuarantineEnd ctx => Sys2Proof.Machine.execContextQuarantineEnd ctx s
  | .endpointQuarantineEnd ep => Sys2Proof.Machine.execEndpointQuarantineEnd ep s
  | .handleQuarantineEnd handle => Sys2Proof.Machine.execHandleQuarantineEnd handle s
  | .ejectionReserveTimeout ctx psn => Sys2Proof.Machine.execEjectionReserveTimeout ctx psn s
  | .reservationExpiry granule => Sys2Proof.Machine.execReservationExpiry granule s
  | .putArrival p => Sys2Proof.Machine.execPutArrival p s
  | .strikePutArrival p => Sys2Proof.Machine.execStrikePutArrival p s
  | .getArrival p => Sys2Proof.Machine.execGetArrival p s
  | .atomicArrival p => Sys2Proof.Machine.execAtomicArrival p s
  | .reserveLoadArrival p => Sys2Proof.Machine.execReserveLoadArrival p s
  | .condStoreArrival p => Sys2Proof.Machine.execCondStoreArrival p s
  | .flush p => Sys2Proof.Machine.execFlush p s
  | .skip p => Sys2Proof.Machine.execSkip p s
  | .peerOpen p => Sys2Proof.Machine.execPeerOpen p s
  | .peerClose p => Sys2Proof.Machine.execPeerClose p s
  | .ack p => Sys2Proof.Machine.execAck p s
  | .nak p => Sys2Proof.Machine.execNak p s
  | .getData p => Sys2Proof.Machine.execGetData p s
  | .atomicData p => Sys2Proof.Machine.execAtomicData p s
  | .flushDone p => Sys2Proof.Machine.execFlushDone p s
  | .peerOpenAck p => Sys2Proof.Machine.execPeerOpenAck p s
  | .peerCloseAck p => Sys2Proof.Machine.execPeerCloseAck p s
  | .msgEager p => Sys2Proof.Machine.execMsgEager p s
  | .msgRts p => Sys2Proof.Machine.execMsgRts p s
  | .msgRdvGet p => Sys2Proof.Machine.execMsgRdvGet p s
  | .msgFin p => Sys2Proof.Machine.execMsgFin p s
  | .parkedPacketCommit ctx msn => Sys2Proof.Machine.execParkedPacketCommit ctx msn s
  | .deliveryEnd ep id => Sys2Proof.Machine.execDeliveryEnd ep id s
  | .carUp port p => Sys2Proof.Machine.execCarUp port p s
  | .carDown port p => Sys2Proof.Machine.execCarDown port p s
  | .carAck port p => Sys2Proof.Machine.execCarAck port p s
  | .carEnd port p => Sys2Proof.Machine.execCarEnd port p s
  | .carSlot port p => Sys2Proof.Machine.execCarSlot port p s
  | .treeInstall m => Sys2Proof.Machine.execTreeInstall m s
  | .treeEpochSwitch handle => Sys2Proof.Machine.execTreeEpochSwitch handle s
  | .treeEpochRetire handle => Sys2Proof.Machine.execTreeEpochRetire handle s
  | .treeReadyTimeout group => Sys2Proof.Machine.execTreeReadyTimeout group s
  | .groupJoin j => Sys2Proof.Machine.execGroupJoin j s
  | .groupCreateTimeout fn => Sys2Proof.Machine.execGroupCreateTimeout fn s
  | .move ch => Sys2Proof.Machine.execMove ch s
  | .moveChecked ch => Sys2Proof.Machine.execMoveChecked ch s
  | .loop ch => Sys2Proof.Machine.execLoop ch s
  | .wait ch => Sys2Proof.Machine.execWait ch s
  | .waitEnd ch => Sys2Proof.Machine.execWaitEnd ch s
  | .signal ch => Sys2Proof.Machine.execSignal ch s
  | .moverFence ch => Sys2Proof.Machine.execMoverFence ch s
  | .moverEnd ch => Sys2Proof.Machine.execMoverEnd ch s
  | .moverBeat => Sys2Proof.Machine.execMoverBeat s
  | .descriptor ch => Sys2Proof.Machine.execDescriptor ch s
  | .moverReadFailure ch => Sys2Proof.Machine.execMoverReadFailure ch s
  | .injectionGrant port => Sys2Proof.Machine.execInjectionGrant port s
  | .shaperTick => Sys2Proof.Machine.execShaperTick s
  | .queueSample => Sys2Proof.Machine.execQueueSample s
  | .dialSample dial => Sys2Proof.Machine.execDialSample dial s
  | .strikeFrameStart flow => Sys2Proof.Machine.execStrikeFrameStart flow s
  | .strikeEpochSwitch => Sys2Proof.Machine.execStrikeEpochSwitch s
  | .strikeEpochRetire => Sys2Proof.Machine.execStrikeEpochRetire s
  | .strikeActivateTimeout => Sys2Proof.Machine.execStrikeActivateTimeout s
  | .strikeWaitExpiry port => Sys2Proof.Machine.execStrikeWaitExpiry port s
  | .headFlitGrant port vc => Sys2Proof.Machine.execHeadFlitGrant port vc s
  | .escDelayExpiry port vc => Sys2Proof.Machine.execEscDelayExpiry port vc s
  | .ageCheck => Sys2Proof.Machine.execAgeCheck s
  | .ejectStall fn => Sys2Proof.Machine.execEjectStall fn s
  | .flitGroupReceive port g => Sys2Proof.Machine.execFlitGroupReceive port g s
  | .nakRepeat port => Sys2Proof.Machine.execNakRepeat port s
  | .train port lanes => Sys2Proof.Machine.execTrain port lanes s
  | .trainingTimeout port => Sys2Proof.Machine.execTrainingTimeout port s
  | .timeXSend port => Sys2Proof.Machine.execTimeXSend port s
  | .timeX port msg => Sys2Proof.Machine.execTimeX port msg s
  | .holdoverExpiry => Sys2Proof.Machine.execHoldoverExpiry s
  | .fence port lanes => Sys2Proof.Machine.execFence port lanes s
  | .sleep set => Sys2Proof.Machine.execSleep set s
  | .sleepEntry port => Sys2Proof.Machine.execSleepEntry port s
  | .sleepWake port => Sys2Proof.Machine.execSleepWake port s
  | .laneSignalLoss port lane lock => Sys2Proof.Machine.execLaneSignalLoss port lane lock s
  | .lneLinkDown port => Sys2Proof.Machine.execLneLinkDown port s
  | .refSignalLoss bits => Sys2Proof.Machine.execRefSignalLoss bits s
  | .timeInPps frac => Sys2Proof.Machine.execTimeInPps frac s
  | .timeInTod message => Sys2Proof.Machine.execTimeInTod message s
  | .timeOutPps => Sys2Proof.Machine.execTimeOutPps s
  | .rootHandover => Sys2Proof.Machine.execRootHandover s
  | .backupRootTakeover => Sys2Proof.Machine.execBackupRootTakeover s
  | .paceWindow count mv tj => Sys2Proof.Machine.execPaceWindow count mv tj s
  | .fenceReport device r => Sys2Proof.Machine.execFenceReport device r s
  | .fenceReportResend => Sys2Proof.Machine.execFenceReportResend s
  | .epochFlood number map => Sys2Proof.Machine.execEpochFlood number map s
  | .epochReadyReport r => Sys2Proof.Machine.execEpochReadyReport r s
  | .switchTimeFlood f => Sys2Proof.Machine.execSwitchTimeFlood f s
  | .routeEpochSwitch => Sys2Proof.Machine.execRouteEpochSwitch s
  | .switchReport r => Sys2Proof.Machine.execSwitchReport r s
  | .routeEpochRetire => Sys2Proof.Machine.execRouteEpochRetire s
  | .epochReportTimeout => Sys2Proof.Machine.execEpochReportTimeout s
  | .faultMapReport map => Sys2Proof.Machine.execFaultMapReport map s
  | .coordinateAnnouncement port coord => Sys2Proof.Machine.execCoordinateAnnouncement port coord s
  | .reAimNotice coord failed => Sys2Proof.Machine.execReAimNotice coord failed s
  | .fabricCommandedReset sender => Sys2Proof.Machine.execFabricCommandedReset sender s
  | .heartbeatSend => Sys2Proof.Machine.execHeartbeatSend s
  | .hello frame => Sys2Proof.Machine.execHello frame s
  | .heartbeat frame => Sys2Proof.Machine.execHeartbeat frame s
  | .mirror frame => Sys2Proof.Machine.execMirror frame s
  | .syncDone frame => Sys2Proof.Machine.execSyncDone frame s
  | .mirrorConfirm seq => Sys2Proof.Machine.execMirrorConfirm seq s
  | .heartbeatTimeout => Sys2Proof.Machine.execHeartbeatTimeout s
  | .fatalIn => Sys2Proof.Machine.execFatalIn s
  | .twinStopDelayExpiry => Sys2Proof.Machine.execTwinStopDelayExpiry s
  | .twinStopIn => Sys2Proof.Machine.execTwinStopIn s
  | .stopConfirmTimeout => Sys2Proof.Machine.execStopConfirmTimeout s
  | .stopOutRelease => Sys2Proof.Machine.execStopOutRelease s
  | .adoptQueue q => Sys2Proof.Machine.execAdoptQueue q s
  | .shadowWordPoll q => Sys2Proof.Machine.execShadowWordPoll q s
  | .faultOccurrence occs => Sys2Proof.Machine.execFaultOccurrence occs s
  | .powerOnReset => Sys2Proof.Machine.execPowerOnReset s
  | .resetRelease straps => Sys2Proof.Machine.execResetRelease straps s
  | .warmReset => Sys2Proof.Machine.execWarmReset s
  | .linkHalfReset half => Sys2Proof.Machine.execLinkHalfReset half s
  | .functionLevelReset fn => Sys2Proof.Machine.execFunctionLevelReset fn s
  | .machineRecordRead bytes => Sys2Proof.Machine.execMachineRecordRead bytes s
  | .firmwareLoad => Sys2Proof.Machine.execFirmwareLoad s
  | .coordinateDiscovery => Sys2Proof.Machine.execCoordinateDiscovery s
  | .d3hotEntry fn => Sys2Proof.Machine.execD3hotEntry fn s
  | .d0Return fn => Sys2Proof.Machine.execD0Return fn s
  | .supplyMonitor src value => Sys2Proof.Machine.execSupplyMonitor src value s
  | .registrarPowerOn => Sys2Proof.Machine.execRegistrarPowerOn s
  | .tapFrame lost bad => Sys2Proof.Machine.execTapFrame lost bad s
  | .tapStopped => Sys2Proof.Machine.execTapStopped s
  | .energySample e => Sys2Proof.Machine.execEnergySample e s
  | .periodBoundary => Sys2Proof.Machine.execPeriodBoundary s
  | .seal_ => Sys2Proof.Machine.execSeal s
  | .calibrationWrite w => Sys2Proof.Machine.execCalibrationWrite w s
  | .calEn => Sys2Proof.Machine.execCalEn s
  | .hostReadCompletion addr data error => Sys2Proof.Machine.execHostReadCompletion addr data error s
  | .configurationRequest fn bus w => Sys2Proof.Machine.execConfigurationRequest fn bus w s
  | .hostLinkTrained half speed width => Sys2Proof.Machine.execHostLinkTrained half speed width s
  | .signalDetect port lane => Sys2Proof.Machine.execSignalDetect port lane s
  | .adapt port lanes => Sys2Proof.Machine.execAdapt port lanes s
  | .blockLock port lane => Sys2Proof.Machine.execBlockLock port lane s
  | .lneFomLow port lane fom => Sys2Proof.Machine.execLneFomLow port lane fom s
  | .refOk => Sys2Proof.Machine.execRefOk s
  | .remoteRelay r => Sys2Proof.Machine.execRemoteRelay r s
  | .treeReadyReport r => Sys2Proof.Machine.execTreeReadyReport r s
  | .destroyFlood group => Sys2Proof.Machine.execDestroyFlood group s
  | .fatalInDeasserted => Sys2Proof.Machine.execFatalInDeasserted s
  | .twinStopInDeasserted => Sys2Proof.Machine.execTwinStopInDeasserted s
  | .aspmL1 half enter => Sys2Proof.Machine.execAspmL1 half enter s

end Sys2Proof.Machine
end

