-- ==== Sys2Proof/Safety.lean ====
section
/-! DEFINITION. Notions that the statements use: a command that the Curator serves and how it ends, a job that has reached its turn,
and a state in which nothing is waiting to happen. -/

namespace Sys2Proof.Machine

/-- The device runs, its Curator is READY, and it has taken command `c` of opcode `op` from the admin queue of `fn` and not yet begun its
work, and no command taken earlier is to change the same resource first (R250, R254, R255). -/
abbrev Serves (s : State) (fn op : Nat) (c : Cmd) : Prop :=
  running s = true ∧ s.cur.ready = true ∧ (admOf s fn).cmd = some c ∧ c.opcode = op ∧ c.wait = .none ∧ inTurn s fn c = true

/-- The state after a command of state `s` whose work has led to `u` and ends OK with the response `resp` (R252). -/
def completed (s u : State) (fn : Nat) (c : Cmd) (resp : List Byte) : State := conclude s (finish u fn c stOk resp 0)

/-- The state after a command of state `s` whose work has led to `u` and goes on when `w` comes (R254). -/
def awaits (s u : State) (fn : Nat) (c : Cmd) (w : Wait) : State :=
  conclude s (setAdm u fn { admOf u fn with cmd := some { c with wait := w } })

/-- The job commands with their opcodes (R217). -/
def jobCommands : List (Nat × (Nat → Instr)) :=
  [(0x00, .nop), (0x01, .put), (0x02, .putImm), (0x03, .get), (0x04, .atomic), (0x08, .counterAdd), (0x09, .counterSet),
   (0x20, .barrier), (0x21, .reserveLoad), (0x22, .condStore), (0x30, .send), (0x31, .recv), (0x40, .collective), (0x50, .moverStart),
   (0x51, .moverChain), (0x52, .moverAppend)]

/-- A request of a connection arrives at a running device: its connection is open under the incarnations that it names, the function
behind it takes requests, and its PSN is new there; `t` is the state in which it has been taken (R347, R348, R357). -/
abbrev NewRequest (s : State) (p : Packet) (i : CtxIds) (fn : Nat) (t : State) : Prop :=
  running s = true ∧ idsOf p.tt = i ∧ ctxFn s i.dstCtx = fn ∧ ctxCheck s p i = .classify ∧ fnGate s fn = .takes ∧
  delivered (modCtx (consume s p) i.dstCtx (fun x => { x with used := now s })) fn p = t ∧ ctxFn t i.dstCtx = fn ∧
  psnClass (ctxOf t i.dstCtx) i.psn = .new ∧ (ctxOf t i.dstCtx).inFlight.contains i.psn = false

/-- A reply of a connection arrives at a running device: its connection is open under the incarnations that it names, and the memory
of the function that it is for, if any, may be accessed; `t` is the state in which it has been taken (R186, R357). -/
abbrev NewReply (s : State) (p : Packet) (h : ConnHdr) (o : Option Nat) (t : State) : Prop :=
  running s = true ∧ p.tt = .conn h ∧ ctxCheck s p (connIds h) = .classify ∧ o.all (canAccess s) = true ∧
  modCtx (match o with | some fn => delivered (consume s p) fn p | none => consume s p) h.dstCtx (fun x => { x with used := now s }) = t

/-- A message packet arrives at a running device on an open peer slot, the function behind it takes requests, and its PSN is new;
`t` is the state in which it has been taken (R384, R386). -/
abbrev NewMessage (s : State) (p : Packet) (h : MsgHdr) (fn : Nat) (g : FnGate) (t : State) : Prop :=
  running s = true ∧ p.tt = .msg h ∧ g = .takes ∧ ctxCheck s p (msgIds h) = .classify ∧
  delivered (modCtx (consume s p) h.dstCtx (fun x => { x with used := now s })) fn p = t ∧
  psnClass (ctxOf t h.dstCtx) h.psn = .new ∧ (ctxOf t h.dstCtx).inFlight.contains h.psn = false

/-- A Carillon packet of this type arrives at a running device for a group that it holds under handle `n`, over an edge of the tree
that it names; `t` is the state in which it has been taken (R427, R429). -/
abbrev NewCarPacket (s : State) (p : Packet) (hd : CarHdr) (ttype : Nat) (edge : CarTree → Bool) (n : Nat) (t : State) : Prop :=
  running s = true ∧ p.tt = .car hd ∧ hd.ttype = ttype ∧ consume s p = t ∧ carHandle t hd.groupId = some n ∧
  (carTree (carGroup t n) hd.tepoch).any edge = true

/-- Channel `ch` of a running device reads its job's next instruction, whose 16 bytes are `l` and well formed; `t` is the state after the
read (R454, R455). -/
abbrev Fetches (s : State) (ch : Nat) (j : Job) (l : List Byte) (t : State) : Prop :=
  running s = true ∧ chanReady s ch = true ∧ (chanOf s ch).chain = false ∧ chanJob s ch = some j ∧ (chanOf s ch).pc ≤ 4095 ∧
  movRead s ch (opnd j 128 32) (opnd j 160 48 + 16 * (chanOf s ch).pc) 16 4 = (t, some l) ∧ instrOk (chanOf s ch).pc (leNat l) = true

/-- The commands that are the Registrar's own events: its power, its frames and samples, and its calibration port (R580, R592). -/
def registrarEvent : Instr → Bool
  | .registrarPowerOn | .tapFrame .. | .tapStopped | .energySample _ | .periodBoundary | .seal_ | .calibrationWrite _ | .calEn => true
  | _ => false

/-- The commands that reach the main die also while it is held in reset or in the safe state: time, resets and their release,
occurrences (which are counted), levels of pins, and configuration requests (R551, R552, R599). -/
def actsWhenStopped : Instr → Bool
  | .shaperTick | .faultOccurrence _ | .powerOnReset | .resetRelease _ | .warmReset | .fabricCommandedReset _ | .fatalIn
  | .fatalInDeasserted | .twinStopIn | .twinStopInDeasserted | .configurationRequest .. => true
  | _ => false

/-- Bits [lo + n - 1 : lo] of the register that the physical function reads at a BAR0 offset, if there is one (R14). -/
def registerField (s : State) (offset width lo n : Nat) : Option Nat :=
  (locate s 0 offset width).map (fun r => field (regValue s 0 r.name r.i) lo n)

/-- Fields with their values in the Reset column: offset, width of the register, low bit, width, value (R44, R88, R142, R176, R209, R304,
R369, R400, R441, R473, R494, R511, R575). -/
def resetReads : List (Nat × Nat × Nat × Nat × Nat) :=
  [(0x01200050, 32, 0, 16, 0x04B8), (0x01200050, 32, 16, 1, 1), (0x01200010, 32, 0, 10, 64), (0x01200010, 32, 10, 1, 1),
   (0x01200010, 32, 11, 10, 512), (0x01600008, 32, 8, 4, 0xF), (0x01600008, 32, 16, 6, 0x3F), (0x01800000, 32, 0, 8, 64),
   (0x01800000, 32, 8, 8, 40), (0x01800000, 32, 16, 4, 8), (0x00200010, 32, 0, 4, 7), (0x00200010, 32, 4, 1, 1)] ++
  [(0x00A00000, 32, 0, 8, 100), (0x00A00000, 32, 8, 1, 1), (0x00C00000, 32, 0, 8, 20), (0x00C00000, 32, 8, 8, 10),
   (0x00C00000, 32, 16, 1, 1), (0x00E00000, 32, 0, 14, 8192), (0x01000000, 32, 0, 8, 100), (0x01000000, 32, 8, 1, 1),
   (0x00800000, 32, 0, 8, 64), (0x02400000, 32, 0, 8, 4), (0x02400000, 32, 8, 1, 1), (0x01A00000, 32, 0, 1, 1),
   (0x020A0000, 64, 0, 24, 1024), (0x020A0000, 64, 40, 1, 1), (0x020A0000, 64, 49, 1, 1)]

/-- The first fatal occurrence of those of one tick, in the order in which they are handled (R545, R552). -/
def firstFatal (s : State) (os : List Occ) : Option Occ := (sortOccs os).find? (fun x => actsFatal s x.src)

/-- One shaper over consecutive ticks, in each of which it admits this many packets: every packet needs 10^9 tokens when it goes, and takes
them (R485, R486). None where the tokens do not suffice. -/
def admits : Shaper → List Nat → Option Shaper
  | x, [] => some x
  | x, k :: ks =>
    let y := shaperTick x x.resetFull
    if k * 1000000000 ≤ y.tokens then admits (Nat.repeat takeToken k y) ks else none

/-- How the vertices of a tree combine contributions: in whatever groups and order. -/
inductive Shape where
  | leaf (source : List Byte)
  | node (a b : Shape)
  deriving DecidableEq, Repr

/-- The source bytes at the leaves of a shape. -/
def leaves : Shape → List (List Byte)
  | .leaf l => [l]
  | .node a b => leaves a ++ leaves b

/-- What the contributions of a shape combine to. -/
def combined (p : CarParams) : Shape → CarData
  | .leaf l => contribution p l
  | .node a b => combine p (combined p a) (combined p b)

/-- Nothing that the device does by itself at the end of a step is due. -/
abbrev Calm (s : State) : Prop := s.cus.raised = [] ∧ react s = s ∧ flushOut s = s

end Sys2Proof.Machine
end

