-- ==== Sys2Proof/Certificates/Slice0/Obligations.lean ====
section
/-! DEFINITION. The statements for the provers, one for each kind of command and of state; OBLIGATIONS.json lists them. -/

open Sys2Proof Sys2Proof.Machine

/-- DEVICE_NOP, DEVICE_IDENTIFY, DEVICE_CONFIG, EXPERT_ENTER, EXPERT_LEAVE, FW_QUERY, FW_STAGE, FW_COMMIT and FW_DISCARD: once taken, with
parameters that their rules accept, each has its own effect and ends OK (R264 to R274). `completed s u fn c resp` is `u` with the command
ended: its response, reply, head index and mailbox written. -/
def Obligations.DeviceCommandsComplete : Prop :=
  ∀ (s : State) (fn : Nat) (c : Cmd), let p := c.params
    (Serves s fn 0x0100 c → exec (.deviceNop fn) s = .next (completed s s fn c [])) ∧
    (Serves s fn 0x0101 c →
      exec (.deviceIdentify fn) s = .next (completed s s
        fn c (leBytes 8 (glbId s) ++ leBytes 8 (glbSerial s) ++ leBytes 4 (glbStraps s) ++ leBytes 4 0 ++ leBytes 8 (glbFw s) ++
            leBytes 8 (glbDigest0 s) ++ leBytes 8 (glbDigest1 s) ++ leBytes 1 fn ++ leBytes 7 0 ++ leBytes 8 (stamp s)))) ∧
    (Serves s fn 0x0102 c → byteAt p 0 = 0 → zeroAt p 1 3 = true → zeroAt p 12 4 = true → numAt p 8 4 ≠ 0 →
      wholeFields (numAt p 8 4) [(0, 4), (4, 1)] = true →
      (field (numAt p 8 4) 0 4 ≠ 0 → 1 ≤ field (numAt p 4 4) 0 4 ∧ field (numAt p 4 4) 0 4 ≤ 8 ∧ vfEnabled s = false) →
      isExpert s 0x02 = false →
      exec (.deviceConfig fn) s = .next (completed s (writeFnCfg s (numAt p 4 4) (numAt p 8 4))
        fn c (leBytes 8 (hifFnCfg (writeFnCfg s (numAt p 4 4) (numAt p 8 4)))))) ∧
    (Serves s fn 0x0102 c → byteAt p 0 = 1 → zeroAt p 1 3 = true → zeroAt p 12 4 = true → numAt p 8 4 ≠ 0 →
      wholeFields (numAt p 8 4) [(0, 2), (2, 1), (8, 8)] = true → (field (numAt p 8 4) 0 2 ≠ 0 → field (numAt p 4 4) 0 2 ≠ 3) →
      isExpert s 0x16 = false →
      exec (.deviceConfig fn) s = .next (completed s (writeRglCfg s (numAt p 4 4) (numAt p 8 4))
        fn c (leBytes 8 (rglCfg (writeRglCfg s (numAt p 4 4) (numAt p 8 4)))))) ∧
    (Serves s fn 0x0102 c → byteAt p 0 = 2 → zeroAt p 1 3 = true → zeroAt p 12 4 = true → numAt p 8 4 ≠ 0 →
      wholeFields (numAt p 8 4) [(0, 16), (16, 1)] = true → isExpert s 0x12 = false →
      exec (.deviceConfig fn) s = .next (completed s (writePaceLimit s (numAt p 4 4) (numAt p 8 4))
        fn c (leBytes 8 (mvtPaceLimit (writePaceLimit s (numAt p 4 4) (numAt p 8 4)))))) ∧
    (Serves s fn 0x0103 c → byteAt p 0 ∈ expertCodes → zeroAt p 1 7 = true → isExpert s (byteAt p 0) = false →
      writerBefore s fn c (byteAt p 0) = false →
      exec (.expertEnter fn) s = .next (completed s { s with cur := { s.cur with expert := s.cur.expert ++ [byteAt p 0] } } fn c [])) ∧
    (Serves s fn 0x0104 c → byteAt p 0 ∈ expertCodes → zeroAt p 1 7 = true →
      exec (.expertLeave fn) s = .next (completed s { s with cur := { s.cur with expert := without s.cur.expert (byteAt p 0) } }
        fn c [])) ∧
    (Serves s fn 0x0105 c →
      exec (.fwQuery fn) s = .next (completed s s
        fn c (slotBytes s s.brd.slotA ++ slotBytes s s.brd.slotB ++ leBytes 1 (b2n s.brd.bootB) ++ leBytes 1 (b2n s.brd.fallback) ++
            leBytes 2 s.brd.svnFused ++ leBytes 28 0))) ∧
    (Serves s fn 0x0106 c → numAt p 0 4 % 16 = 0 → numAt p 4 2 % 16 = 0 → 16 ≤ numAt p 4 2 → numAt p 4 2 ≤ 4080 → byteAt p 6 = 0 →
      zeroAt p 7 9 = true → s.cur.committed = false → numAt p 0 4 + numAt p 4 2 ≤ 4194304 →
      exec (.fwStage fn) s = .next (completed s (withStaged s (stagedSlot s (numAt p 0 4) (p.drop 16)) false) fn c [])) ∧
    (∀ (x : FwSlot), Serves s fn 0x0106 c → numAt p 0 4 % 16 = 0 → numAt p 4 2 % 16 = 0 → 16 ≤ numAt p 4 2 → numAt p 4 2 ≤ 4080 →
      byteAt p 6 = 1 → zeroAt p 7 9 = true → s.cur.committed = false → numAt p 0 4 + numAt p 4 2 ≤ 4194304 →
      stagedSlot s (numAt p 0 4) (p.drop 16) = x →
      exec (.fwStage fn) s = .next (if imageStatus s x = stOk then completed s (withStaged s (identified x .valid) true) fn c [] else
          conclude s (finish (withStaged s { x with st := .invalid } false) fn c (imageStatus s x) [] 0))) ∧
    (Serves s fn 0x0107 c → byteAt p 0 ≤ 1 → zeroAt p 1 7 = true → s.cur.staged = true →
      exec (.fwCommit fn) s = .next (completed s
        { s with
          cur := { s.cur with staged := false, committed := true, fwRaise := decide (byteAt p 0 = 1) },
          brd := { s.brd with bootB := !s.brd.runB } } fn c [])) ∧
    (Serves s fn 0x0108 c → (s.cur.staged || s.cur.committed) = true →
      exec (.fwDiscard fn) s = .next (completed s
        { setOtherSlot s { otherSlot s with st := .invalid } with
          cur := { s.cur with staged := false, committed := false, fwErased := false, fwRaise := false },
          brd := { (setOtherSlot s { otherSlot s with st := .invalid }).brd with bootB := s.brd.runB } } fn c []))

/-- QUEUE_GROUP_GRANT, QUEUE_GROUP_RECLAIM, QUEUE_CREATE, QUEUE_QUERY, EVENT_RING_CREATE, EVENT_RING_DESTROY and EVENT_RING_CLEAR, taken with
parameters that their rules accept, have their own effect and end OK (R241, R242). The memory that a command writes is the function's own. -/
def Obligations.QueueCommandsComplete : Prop :=
  ∀ (s : State) (fn : Nat) (c : Cmd), let p := c.params
    (Serves s fn 0x0180 c → numAt p 0 4 ≤ 65535 → byteAt p 4 ≠ 0 → zeroAt p 6 2 = true → fmFind s.hif.grants (numAt p 0 4) = none →
      s.hif.grants.any (fun kv => kv.2 == (byteAt p 4, byteAt p 5)) = false → groupIdle s (numAt p 0 4) = true →
      (onPartner s && (partnerGroup s (numAt p 0 4) || s.twn.mirror.grants.any (fun kv => kv.1 == numAt p 0 4 || kv.2 == (byteAt p 4,
        byteAt p 5)))) = false → isExpert s 0x24 = false →
      exec (.queueGroupGrant fn) s = .next (completed s (mirror (defaultGroup
        { s with hif := { s.hif with grants := fmSet s.hif.grants (numAt p 0 4) (byteAt p 4, byteAt p 5) } }
        (numAt p 0 4)) (.grant (numAt p 0 4) (byteAt p 4) (byteAt p 5))) fn c [])) ∧
    (Serves s fn 0x0181 c → numAt p 0 4 ≤ 65535 → zeroAt p 4 4 = true → fmFind s.hif.grants (numAt p 0 4) ≠ none →
      groupIdle s (numAt p 0 4) = true → isExpert s 0x24 = false →
      exec (.queueGroupReclaim fn) s = .next (completed s (mirror (defaultGroup
        { s with hif := { s.hif with grants := fmErase s.hif.grants (numAt p 0 4) } } (numAt p 0 4)) (.grantGone (numAt p 0 4)))
        fn c [])) ∧
    (∀ (g q : Nat) (u : State), Serves s fn 0x0182 c → queueCreateOk p = true → groupOf s fn (numAt p 0 4) = .inl g →
      q = 4 * g + byteAt p 4 → fmFind s.rings.rings (evKey fn (byteAt p 7)) ≠ none → (queueOf s q).st = .disabled →
      (onPartner s && partnerGroup s g) = false → initQueueMemory s fn (newQueue fn p) = (u, true) →
      exec (.queueCreate fn) s = .next (completed s
        (mirror (setQueue u q (newQueue fn p)) (.queue q (cfgOf (newQueue fn p)) (newQueue fn p).cons)) fn c [])) ∧
    (∀ (q : Nat), Serves s fn 0x0185 c → namedQueue s fn p = .inl q → (queueOf s q).st ≠ .disabled →
      exec (.queueQuery fn) s = .next (completed s s
        fn c (leBytes 8 (queueState s q) ++ leBytes 4 (queueOf s q).last.toNat ++ leBytes 4 (queueOf s q).cons.toNat ++ leBytes 4
            (queueOf s q).errSeq.toNat ++ leBytes 4 (queueOf s q).errCached.toNat ++ leBytes 8 0))) ∧
    (∀ (u : State), Serves s fn 0x0186 c → byteAt p 0 ≤ 63 → 6 ≤ byteAt p 1 → byteAt p 1 ≤ 16 → numAt p 2 2 < vectorsOf s fn →
      zeroAt p 6 2 = true → numAt p 8 8 % 4096 = 0 → numAt p 16 8 % 4 = 0 → numAt p 24 8 % 8 = 0 →
      fmFind s.rings.rings (evKey fn (byteAt p 0)) = none → s.rings.rings.length < 4096 →
      (onPartner s && (fmFind s.twn.mirror.rings (evKey fn (byteAt p 0))).isSome) = false →
      initRingMemory s fn (newRing p) = (u, true) →
      exec (.eventRingCreate fn) s = .next (completed s
        (flushMarks (mirror (setRing u (evKey fn (byteAt p 0)) (newRing p)) (.evRing fn (byteAt p 0) (ringCfg (newRing p)))) (evKey fn
            (byteAt p 0)) (fmGet u.rings.marks (evKey fn (byteAt p 0)) [])) fn c [])) ∧
    (Serves s fn 0x0187 c → byteAt p 0 ≤ 63 → zeroAt p 1 7 = true → fmFind s.rings.rings (evKey fn (byteAt p 0)) ≠ none →
      s.rings.queues.any (fun kv => kv.2.st != .disabled && kv.2.fn == fn && kv.2.evr == byteAt p 0) = false →
      exec (.eventRingDestroy fn) s = .next (completed s (mirror
        { s with rings := { s.rings with rings := fmErase s.rings.rings (evKey fn (byteAt p 0)) } } (.evRingGone fn (byteAt p 0)))
        fn c [])) ∧
    (∀ (r r2 : EvRing), Serves s fn 0x0188 c → byteAt p 0 ≤ 63 → zeroAt p 1 7 = true →
      fmFind s.rings.rings (evKey fn (byteAt p 0)) = some r → clearedRing s (evKey fn (byteAt p 0)) r = r2 →
      exec (.eventRingClear fn) s = .next (completed s
        (hostWrite (setRing s (evKey fn (byteAt p 0)) r2) fn r.statusAddr (leBytes 8 (statusWord r2))) fn c (leBytes 8 (statusWord r))))

/-- REGION_CREATE, REGION_REVOKE, REGION_DESTROY, REGION_QUERY, REGION_INVALIDATE, FAULT_RING_CREATE, FAULT_RING_DESTROY, PAGE_RESOLVE and
XLT_CONFIG, taken with parameters that their rules accept, have their own effect and end OK (R281 to R286, R295, R296, R299, R301, R309). -/
def Obligations.RegionCommandsComplete : Prop :=
  ∀ (s : State) (fn : Nat) (c : Cmd), let p := c.params
    (∀ (r : Region) (i : Nat), Serves s fn 0x0300 c → regionCreateOk p = true → newRegion p = r →
      (if fn = 0 then enabledFn s r.fn else r.fn == fn) = true → regionFits s r = true → longestFree s = some i →
      exec (.regionCreate fn) s = .next (completed s (mirror
        { s with xlt := { s.xlt with regions := fmSet s.xlt.regions i r, freed := fmErase s.xlt.freed i } }
        (.region i (regionCfg (genOf s i) r))) fn c (leBytes 4 (keyOf s i) ++ leBytes 4 0))) ∧
    (∀ (i : Nat) (r : Region) (u t v : State) (st : Nat), Serves s fn 0x0301 c → zeroAt p 4 4 = true →
      namedRegion s fn (numAt p 0 4) = .inl (i, r) → revokeStalls (revokeIndex s i) i = u →
      mirror u (.region i (regionCfg (genOf u i) r)) = t → t.twn.gate.any (fun g => accesses t fn (some i) g.2) = false →
      endAccesses t fn (some i) false = (v, st) →
      exec (.regionRevoke fn) s = .next (conclude s (finish v fn c st (if st = stOk then leBytes 4 (keyOf u i) ++ leBytes 4 0 else [])
        0))) ∧
    (∀ (i : Nat) (r : Region) (u t : State), Serves s fn 0x0301 c → zeroAt p 4 4 = true →
      namedRegion s fn (numAt p 0 4) = .inl (i, r) → revokeStalls (revokeIndex s i) i = u →
      mirror u (.region i (regionCfg (genOf u i) r)) = t → t.twn.gate.any (fun g => accesses t fn (some i) g.2) = true →
      exec (.regionRevoke fn) s = .next (awaits s t fn c (.accesses (some i) false (leBytes 4 (keyOf u i) ++ leBytes 4 0)))) ∧
    (∀ (i : Nat) (r : Region) (t v : State) (st : Nat), Serves s fn 0x0302 c → zeroAt p 4 4 = true →
      namedRegion s fn (numAt p 0 4) = .inl (i, r) → revokeStalls (revokeIndex s i) i = t →
      t.twn.gate.any (fun g => accesses t fn (some i) g.2) = false → endAccesses t fn (some i) true = (v, st) →
      exec (.regionDestroy fn) s = .next (conclude s (finish v fn c st [] 0))) ∧
    (∀ (i : Nat) (r : Region) (t : State), Serves s fn 0x0302 c → zeroAt p 4 4 = true → namedRegion s fn (numAt p 0 4) = .inl (i, r) →
      revokeStalls (revokeIndex s i) i = t → t.twn.gate.any (fun g => accesses t fn (some i) g.2) = true →
      exec (.regionDestroy fn) s = .next (awaits s t fn c (.accesses (some i) true []))) ∧
    (∀ (i : Nat) (r : Region), Serves s fn 0x0303 c → zeroAt p 4 4 = true → namedRegion s fn (numAt p 0 4) = .inl (i, r) →
      exec (.regionQuery fn) s = .next (completed s s fn c (headerBytes s i r ++ padTo 256 (r.segs.flatMap segBytes)))) ∧
    (∀ (i : Nat) (r : Region) (t v : State) (st : Nat), Serves s fn 0x0304 c → byteAt p 4 = 0 → zeroAt p 5 3 = true →
      numAt p 8 8 + numAt p 16 8 ≤ 2 ^ 48 → namedRegion s fn (numAt p 0 4) = .inl (i, r) →
      bump (dropCache s i (fun e => numAt p 16 8 = 0 || cachedIn r (numAt p 8 8) (numAt p 16 8) e)) 296 = t →
      t.twn.gate.any (fun g => accesses t fn (some i) g.2) = false → endAccesses t fn (some i) false = (v, st) →
      exec (.regionInvalidate fn) s = .next (conclude s (finish v fn c st [] 0))) ∧
    (∀ (i : Nat) (r : Region) (t : State), Serves s fn 0x0304 c → byteAt p 4 = 0 → zeroAt p 5 3 = true →
      numAt p 8 8 + numAt p 16 8 ≤ 2 ^ 48 → namedRegion s fn (numAt p 0 4) = .inl (i, r) →
      bump (dropCache s i (fun e => numAt p 16 8 = 0 || cachedIn r (numAt p 8 8) (numAt p 16 8) e)) 296 = t →
      t.twn.gate.any (fun g => accesses t fn (some i) g.2) = true →
      exec (.regionInvalidate fn) s = .next (awaits s t fn c (.accesses (some i) false []))) ∧
    (∀ (t v : State) (st : Nat), Serves s fn 0x0304 c → byteAt p 4 = 1 → zeroAt p 5 3 = true →
      bump (s.xlt.regions.foldl (fun s kv => if kv.2.fn = fn then dropCache s kv.1 (fun _ => true) else s) s) 296 = t →
      t.twn.gate.any (fun g => accesses t fn none g.2) = false → endAccesses t fn none false = (v, st) →
      exec (.regionInvalidate fn) s = .next (conclude s (finish v fn c st [] 0))) ∧
    (∀ (t : State), Serves s fn 0x0304 c → byteAt p 4 = 1 → zeroAt p 5 3 = true →
      bump (s.xlt.regions.foldl (fun s kv => if kv.2.fn = fn then dropCache s kv.1 (fun _ => true) else s) s) 296 = t →
      t.twn.gate.any (fun g => accesses t fn none g.2) = true →
      exec (.regionInvalidate fn) s = .next (awaits s t fn c (.accesses none false []))) ∧
    (∀ (r : FaultRing) (u : State), Serves s fn 0x0305 c → 6 ≤ byteAt p 0 → byteAt p 0 ≤ 16 → zeroAt p 1 7 = true →
      numAt p 8 8 % 4096 = 0 → numAt p 16 8 % 4 = 0 → faultRingOf s fn = none →
      (onPartner s && (fmFind s.twn.mirror.faultRings fn).isSome) = false → newFaultRing p = r → initFaultRing s fn r = (u, true) →
      exec (.faultRingCreate fn) s = .next (completed s (mirror (setFaultRing u fn r) (.faultRing fn r.base r.log2 r.cons)) fn c [])) ∧
    (∀ (u : State), Serves s fn 0x0306 c → faultRingOf s fn ≠ none → zeroAt p 0 8 = true →
      u = { s with xlt := { s.xlt with faultRings := fmErase s.xlt.faultRings fn } } →
      exec (.faultRingDestroy fn) s = .next (completed s
        (mirror ((u.xlt.stalls.filter (fun x => x.fn == fn && x.seq.isNone)).foldl (fun s x => failStall s x stTranslation) u)
            (.faultRingGone fn)) fn c [])) ∧
    (∀ (x : Stall), Serves s fn 0x0307 c → byteAt p 4 ≤ 1 → zeroAt p 5 3 = true →
      s.xlt.stalls.find? (fun x => x.fn == fn && x.seq == some (numAt p 0 4)) = some x →
      exec (.pageResolve fn) s = .next (completed s (if byteAt p 4 = 0 then retryStall s x else failStall s x stTranslation) fn c [])) ∧
    (Serves s fn 0x0308 c → byteAt p 2 ≤ 3 → zeroAt p 3 5 = true → (bitAt (byteAt p 2) 1 && decide (byteAt p 1 > 1)) = false →
      (byteAt p 2 != 0 && isExpert s 0x0A) = false →
      exec (.xltConfig fn) s = .next (completed s
        { s with
          xlt := { s.xlt with
              localTimeout := if bitAt (byteAt p 2) 0 then byteAt p 0 else s.xlt.localTimeout,
              tgtEn := if bitAt (byteAt p 2) 1 then byteAt p 1 == 1 else s.xlt.tgtEn } } fn c []))

/-- CONN_CREATE, CONN_CONNECT, CONN_DESTROY, CONN_RESET, CONN_QUERY, COUNTER_ALLOC, COUNTER_FREE, COUNTER_QUERY and CTX_CONFIG, taken with
parameters that their rules accept, have their own effect and end OK (R359, R369 to R374). -/
def Obligations.ConnectionCommandsComplete : Prop :=
  ∀ (s : State) (fn : Nat) (c : Cmd), let p := c.params
    (∀ (n : Nat) (u v : State), Serves s fn 0x0200 c → zeroAt p 1 7 = true → tenantOk s fn (byteAt p 0) = true →
      freeContext s = some n → takeContext s n { st := .ready, fn := byteAt p 0 } = u →
      mirror u (.conn n (connCfgOf (ctxOf u n))) = v →
      exec (.connCreate fn) s = .next (completed s v fn c (leBytes 2 n ++ leBytes 1 (ctxOf v n).inc ++ leBytes 5 0))) ∧
    (∀ (u : State), Serves s fn 0x0201 c → byteAt p 3 = 0 → numAt p 4 4 / 2 ^ 25 = 0 → numAt p 10 2 ≤ 1000 → byteAt p 12 ≤ 15 →
      zeroAt p 13 3 = true → validCoord s (numAt p 4 3) = true → connOk s fn (numAt p 0 2) = true →
      (ctxOf s (numAt p 0 2)).st = .ready → setCtx s (numAt p 0 2) (connectedCtx s (ctxOf s (numAt p 0 2)) p) = u →
      exec (.connConnect fn) s = .next (completed s (mirror u (.conn (numAt p 0 2) (connCfgOf (ctxOf u (numAt p 0 2))))) fn c [])) ∧
    (∀ (u : State), Serves s fn 0x0202 c → zeroAt p 2 6 = true → connOk s fn (numAt p 0 2) = true →
      quarantine (closeConn s (numAt p 0 2)) (numAt p 0 2) = u →
      exec (.connDestroy fn) s = .next (completed s (mirror u (.connGone (numAt p 0 2) (ctxOf u (numAt p 0 2)).inc)) fn c [])) ∧
    (∀ (u v : State) (x : Ctx), Serves s fn 0x0203 c → zeroAt p 2 6 = true → connOk s fn (numAt p 0 2) = true →
      closeConn s (numAt p 0 2) = u → ctxOf u (numAt p 0 2) = x →
      setCtx (clearHolder u x (numAt p 0 2)) (numAt p 0 2) { st := .ready, fn := x.fn, inc := (x.inc + 1) % 256 } = v →
      exec (.connReset fn) s = .next (completed s (mirror v (.conn (numAt p 0 2) (connCfgOf (ctxOf v (numAt p 0 2)))))
        fn c (leBytes 8 ((x.inc + 1) % 256)))) ∧
    (∀ (x : Ctx), Serves s fn 0x0204 c → zeroAt p 2 6 = true → ctxOf s (numAt p 0 2) = x →
      (fn != 0 && (x.peer || x.st == .free || x.fn != fn)) = false →
      exec (.connQuery fn) s = .next (completed s s
        fn c (leBytes 8 (ctxState s (numAt p 0 2)) ++ leBytes 4 (x.pCoord + x.pPlane * 2 ^ 24) ++ leBytes 2 x.pCtx ++ leBytes 2 x.pInc
            ++ leBytes 4 x.e.toNat ++ leBytes 4 x.retx ++ leBytes 8 0))) ∧
    (∀ (n : Nat), Serves s fn 0x0210 c → numAt p 0 2 ≠ 0 → numAt p 0 2 ≤ 8192 → zeroAt p 3 5 = true →
      tenantOk s fn (byteAt p 2) = true → lowestRun s (numAt p 0 2) 8193 0 0 = some n →
      exec (.counterAlloc fn) s = .next (completed s (allocCounters s n (numAt p 0 2) (byteAt p 2)) fn c (leBytes 8 n))) ∧
    (∀ (l : List Nat), Serves s fn 0x0211 c → numAt p 2 2 ≠ 0 → numAt p 0 2 + numAt p 2 2 ≤ 8192 → zeroAt p 4 4 = true →
      (List.range (numAt p 2 2)).map (numAt p 0 2 + ·) = l → l.all (mayFree s fn) = true →
      s.ctx.armed.any (fun a => l.contains a.counter && !a.released) = false →
      exec (.counterFree fn) s = .next (completed s (freeCounters s l) fn c [])) ∧
    (Serves s fn 0x0212 c → numAt p 0 2 < 8192 → zeroAt p 2 6 = true → (fn != 0 && !counterOwned s (numAt p 0 2) fn) = false →
      exec (.counterQuery fn) s = .next (completed s s fn c (leBytes 8 (ctxCounter s (numAt p 0 2))))) ∧
    (Serves s fn 0x0220 c → byteAt p 3 ≤ 7 → zeroAt p 4 4 = true → (bitAt (byteAt p 3) 2 && decide (byteAt p 2 > 1)) = false →
      (byteAt p 3 != 0 && isExpert s 0x0C) = false →
      exec (.ctxConfig fn) s = .next (completed s
        { s with
          ctx := { s.ctx with
              ackDelay := if bitAt (byteAt p 3) 0 then byteAt p 0 else s.ctx.ackDelay,
              peerIdle := if bitAt (byteAt p 3) 1 then byteAt p 1 else s.ctx.peerIdle,
              fastRetx := if bitAt (byteAt p 3) 2 then byteAt p 2 == 1 else s.ctx.fastRetx } } fn c []))

/-- ENDPOINT_CREATE, ENDPOINT_DESTROY, ENDPOINT_QUERY, CAT_CONFIG, and SCHED_GROUP_QUERY, SCHED_GROUP_QUANTUM, SCHED_SHAPER_CONFIG,
SCHED_POLICER_CONFIG, SCHED_FN_QUERY, SCHED_QUEUE_SAMPLE and SCHED_CONFIG, taken with parameters that their rules accept, have their own
effect and end OK (R403, R404, R484, R488, R490, R498, R499). -/
def Obligations.MessagingAndSchedulerCommandsComplete : Prop :=
  ∀ (s : State) (fn : Nat) (c : Cmd), let p := c.params
    (∀ (e : Endpoint) (u : State), Serves s fn 0x0400 c → endpointCreateOk p = true → newEndpoint p = e →
      tenantOk s fn e.owner = true → fieldOwned s e.owner (numAt p 4 2) = true → fmFind s.cat.eps (numAt p 0 2) = none →
      (onPartner s && (fmFind s.twn.mirror.eps (numAt p 0 2)).isSome) = false → initReceiveRing s e = (u, true) →
      exec (.endpointCreate fn) s = .next (completed s (mirror (setEp u (numAt p 0 2) e) (.endpoint (numAt p 0 2) (epCfgOf e)))
        fn c [])) ∧
    (∀ (ep : Nat) (e : Endpoint) (l : List Delivery), Serves s fn 0x0401 c → namedEp s fn p = .inl (ep, e) →
      s.cat.deliveries.filter (fun d => d.ep == ep) = l →
      exec (.endpointDestroy fn) s = .next (completed s (destroyEp s ep e)
        fn c (leBytes 4 e.posted.length ++ leBytes 4 (e.unexp.filter (fun u => !u.msg.rdv)).length ++ leBytes 4 ((e.unexp.filter
            (·.msg.rdv)).length + (l.filter (fun d => d.msg.rdv && !d.finSent)).length) ++ leBytes 4 (e.waiting.length + (l.filter (fun
            d => d.ended && !d.recorded)).length)))) ∧
    (∀ (e : Endpoint), Serves s fn 0x0402 c → numAt p 0 2 < 4096 → zeroAt p 2 6 = true → fmFind s.cat.eps (numAt p 0 2) = some e →
      (fn != 0 && e.owner != fn) = false →
      exec (.endpointQuery fn) s = .next (completed s s
        fn c (leBytes 8 (catEp s (numAt p 0 2)) ++ leBytes 4 e.pseq.toNat ++ leBytes 4 e.seq.toNat ++ leBytes 4 e.cached.toNat ++
            leBytes 12 0))) ∧
    (Serves s fn 0x0403 c → byteAt p 2 = 1 → zeroAt p 3 5 = true → numAt p 0 2 ≤ 8192 → isExpert s 0x0E = false →
      exec (.catConfig fn) s = .next (completed s { s with cat := { s.cat with eagerMax := numAt p 0 2 } } fn c [])) ∧
    (∀ (g : Nat), Serves s fn 0x0E00 c → zeroAt p 4 4 = true → schedGroup s fn (numAt p 0 4) = .inl g →
      exec (.schedGroupQuery fn) s = .next (completed s s fn c (leBytes 8 (schGroup s g)))) ∧
    (∀ (g : Nat), Serves s fn 0x0E01 c → zeroAt p 5 3 = true → schedGroup s fn (numAt p 0 4) = .inl g → isExpert s 0x24 = false →
      exec (.schedGroupQuantum fn) s = .next (completed s (setGroup s g { groupSched s g with quantum := byteAt p 4 }) fn c [])) ∧
    (∀ (f : FnSched) (x : Shaper), Serves s fn 0x0E02 c → byteAt p 1 ≤ 1 → byteAt p 2 ≤ 3 → byteAt p 3 ≤ 15 →
      (bitAt (byteAt p 3) 3 && decide (numAt p 8 2 = 0)) = false → zeroAt p 10 6 = true → enabledFn s (byteAt p 0) = true →
      (byteAt p 3 != 0 && isExpert s 0x24) = false → fnSched s (byteAt p 0) = f →
      shaperSet (if byteAt p 1 = 0 then f.sh0 else f.sh1) p = x →
      exec (.schedShaperConfig fn) s = .next (completed s
        (setFnSched s (byteAt p 0) (if byteAt p 1 = 0 then { f with sh0 := x } else { f with sh1 := x }))
        fn c (leBytes 8 (shaperCfg x true)))) ∧
    (∀ (x : Shaper), Serves s fn 0x0E03 c → byteAt p 1 = 0 → byteAt p 2 ≤ 1 → byteAt p 3 ≤ 7 →
      (bitAt (byteAt p 3) 2 && decide (numAt p 8 2 = 0)) = false → zeroAt p 10 6 = true → enabledFn s (byteAt p 0) = true →
      (byteAt p 3 != 0 && isExpert s 0x24) = false → policerSet (fnSched s (byteAt p 0)).pol p = x →
      exec (.schedPolicerConfig fn) s = .next (completed s (setFnSched s (byteAt p 0) { fnSched s (byteAt p 0) with pol := x })
        fn c (leBytes 8 (shaperCfg x false)))) ∧
    (Serves s fn 0x0E04 c → zeroAt p 1 7 = true → enabledFn s (byteAt p 0) = true → (fn != 0 && byteAt p 0 != fn) = false →
      exec (.schedFnQuery fn) s = .next (completed s s fn c ((schFn s (byteAt p 0)).flatMap (leBytes 8)))) ∧
    (∀ (g : Nat) (x : Nat × Nat × Nat), Serves s fn 0x0E05 c → byteAt p 4 ≤ 3 → zeroAt p 5 3 = true →
      schedGroup s fn (numAt p 0 4) = .inl g → (queueOf s (4 * g + byteAt p 4)).st ≠ .disabled →
      fmGet s.sch.samples (4 * g + byteAt p 4) (0, 0, 0) = x →
      exec (.schedQueueSample fn) s = .next (completed s s fn c (leBytes 4 x.1 ++ leBytes 4 x.2.1 ++ leBytes 8 x.2.2 ++ leBytes 8 0))) ∧
    (Serves s fn 0x0E06 c → byteAt p 2 ≤ 3 → zeroAt p 3 5 = true → (bitAt (byteAt p 2) 1 && decide (byteAt p 1 > 1)) = false →
      (byteAt p 2 != 0 && isExpert s 0x24) = false →
      exec (.schedConfig fn) s = .next (completed s
        { s with
          sch := { s.sch with
              defaultQuantum := pick (byteAt p 2) 0 (byteAt p 0) s.sch.defaultQuantum,
              sampleEn := pick (byteAt p 2) 1 (byteAt p 1 == 1) s.sch.sampleEn } } fn c []))

/-- GROUP_CREATE, GROUP_DESTROY, GROUP_QUERY, GROUP_REBUILD and CAR_CONFIG, taken with parameters that their rules accept, have their own
effect: GROUP_CREATE and GROUP_REBUILD go on to wait for T of the tree epoch (`awaits`), the others end OK (R437, R439, R444 to R446). -/
def Obligations.CollectiveCommandsComplete : Prop :=
  ∀ (s : State) (fn : Nat) (c : Cmd), let p := c.params
    (∀ (g : Nat) (l : List Byte) (u v : State), Serves s fn 0x0500 c → groupCreateOk p = true → groupOf s fn (numAt p 16 4) = .inl g →
      (queueOf s (4 * g + byteAt p 20)).st = .active → (queueOf s (4 * g + byteAt p 20)).fn = fn →
      hostRead s fn (numAt p 32 8) (8 * numAt p 8 4) = (u, some l) → memberListOk u fn p l = true →
      beginJoin u fn (4 * g + byteAt p 20) (joinOf u fn p) (listEntries (numAt p 8 4) l) = v → fmFind v.car.creates fn ≠ none →
      exec (.groupCreate fn) s = .next (awaits s v fn c (.groupEpoch (numAt p 0 4)))) ∧
    (∀ (h : Nat), Serves s fn 0x0501 c → namedGroup s fn p = .inl h → fmFind s.car.groups h ≠ none → (carGroup s h).st = .active →
      exec (.groupDestroy fn) s = .next (completed s
        (sendCur (destroyHere s h) (if (carGroup s h).root = s.mvt.coord then none else some (carGroup s h).root) (.destroy (carGroup s
            h).id)) fn c [])) ∧
    (∀ (h : Nat), Serves s fn 0x0502 c → namedGroup s fn p = .inl h →
      exec (.groupQuery fn) s = .next (completed s s fn c (groupReply s h))) ∧
    (∀ (h : Nat) (g : CarGroup) (u : State), Serves s fn 0x0503 c → namedGroup s fn p = .inl h → carGroup s h = g →
      fmFind s.car.groups h ≠ none → g.st = .active → g.change = none → g.oldLive = false → rebuildGroup s h = u →
      ((carGroup u h).change.isNone && decide (groupRoot s g.list (currentBank s).map = some s.mvt.coord)) = false →
      exec (.groupRebuild fn) s = .next (awaits s u fn c (.groupEpoch g.id))) ∧
    (Serves s fn 0x0504 c → byteAt p 2 ≤ 3 → zeroAt p 3 5 = true → (bitAt (byteAt p 2) 1 && decide (byteAt p 1 > 1)) = false →
      (byteAt p 2 != 0 && isExpert s 0x10) = false →
      exec (.carConfig fn) s = .next (completed s
        { s with
          car := { s.car with
              createTimeout := pick (byteAt p 2) 0 (byteAt p 0) s.car.createTimeout,
              lostNotify := pick (byteAt p 2) 1 (byteAt p 1 == 1) s.car.lostNotify } } fn c []))

/-- ROUTE_QUERY, ROUTE_CONFIG, ROUTE_PORT_FENCE, ROUTE_EPOCH_CHANGE, ROUTE_TABLE_READ, LANE_QUERY, LANE_RETRAIN, LANE_SLEEP_CONFIG,
LANE_TABLE_READ and LANE_CONFIG, taken with parameters that their rules accept, have their own effect: ROUTE_EPOCH_CHANGE and
LANE_RETRAIN go on to wait, the others end OK (R92 to R96, R180). -/
def Obligations.RoutingAndLaneCommandsComplete : Prop :=
  ∀ (s : State) (fn : Nat) (c : Cmd), let p := c.params
    (Serves s fn 0x0600 c → exec (.routeQuery fn) s = .next (completed s s fn c (routeReply s))) ∧
    (Serves s fn 0x0601 c → byteAt p 5 ≤ 7 → zeroAt p 6 2 = true → (bitAt (byteAt p 5) 0 && decide (numAt p 0 2 > 1023)) = false →
      (bitAt (byteAt p 5) 1 && decide (numAt p 2 2 > 1023)) = false → (bitAt (byteAt p 5) 2 && decide (byteAt p 4 > 1)) = false →
      (byteAt p 5 != 0 && isExpert s 0x12) = false →
      exec (.routeConfig fn) s = .next (completed s
        { s with
          mvt := { s.mvt with
              escDelay := if bitAt (byteAt p 5) 0 then numAt p 0 2 else s.mvt.escDelay,
              detourWait := if bitAt (byteAt p 5) 1 then numAt p 2 2 else s.mvt.detourWait,
              detourEn := if bitAt (byteAt p 5) 2 then byteAt p 4 = 1 else s.mvt.detourEn } } fn c [])) ∧
    (Serves s fn 0x0602 c → hasLanes (byteAt p 0) = true → byteAt p 1 ≤ 1 → zeroAt p 2 6 = true → isExpert s 0x12 = false →
      (byteAt p 0 = 14 → twinPaired s = false) →
      exec (.routePortFence fn) s = .next (completed s (setAdminFence s (byteAt p 0) (byteAt p 1 = 1)) fn c [])) ∧
    (Serves s fn 0x0603 c → zeroAt p 0 8 = true → changeInProgress s = false →
      exec (.routeEpochChange fn) s = .next (awaits s (sendCur s (some s.rgl.rootCoord) (.report (linearOf s s.mvt.coord) .change))
        fn c .routeEpoch)) ∧
    (∀ (b : RouteBank) (e : Nat × Nat × Nat × Nat), Serves s fn 0x0604 c → byteAt p 4 ≤ 1 → zeroAt p 5 3 = true →
      numAt p 0 4 < 131072 → numAt p 0 4 < nodeCount s → bankOf s (if byteAt p 4 = 0 then currentBit s else 1 - currentBit s) = b →
      tableEntry s b (numAt p 0 4) = e →
      exec (.routeTableRead fn) s = .next (completed s s
        fn c (leBytes 1 e.1 ++ leBytes 1 e.2.1 ++ leBytes 1 e.2.2.1 ++ leBytes 1 e.2.2.2 ++ leBytes 4 b.number))) ∧
    (Serves s fn 0x0800 c → hasLanes (byteAt p 0) = true → zeroAt p 1 7 = true →
      exec (.laneQuery fn) s = .next (completed s s
        fn c ([lnePortStatus s (byteAt p 0), lnePortCfg s (byteAt p 0), lnePortFom s (byteAt p 0), lnePortPeer s (byteAt p 0),
            lnePortRetry s (byteAt p 0)].flatMap (leBytes 8)))) ∧
    (Serves s fn 0x0801 c → byteAt p 0 ≤ 11 → zeroAt p 1 7 = true → isExpert s 0x18 = false →
      s.mvt.adminFence.contains (byteAt p 0) = false →
      exec (.laneRetrain fn) s = .next (awaits s (retrain s (byteAt p 0)) fn c (.laneTrain (byteAt p 0)))) ∧
    (Serves s fn 0x0802 c → byteAt p 0 ≤ 11 → byteAt p 4 ≤ 3 → zeroAt p 5 3 = true →
      (bitAt (byteAt p 4) 0 && decide (byteAt p 1 > 1)) = false →
      (bitAt (byteAt p 4) 1 && (decide (numAt p 2 2 = 0) || decide (numAt p 2 2 > 1023))) = false →
      (byteAt p 4 != 0 && isExpert s 0x18) = false →
      exec (.laneSleepConfig fn) s = .next (completed s (modLane s (byteAt p 0) (fun l =>
        { sleepOn (bitAt (byteAt p 4) 0 && byteAt p 1 = 1) (now s) l with
          sleepEn := if bitAt (byteAt p 4) 0 then byteAt p 1 = 1 else l.sleepEn,
          sleepIdle := if bitAt (byteAt p 4) 1 then numAt p 2 2 else l.sleepIdle })) fn c [])) ∧
    (Serves s fn 0x0803 c → numAt p 2 2 ≠ 0 → numAt p 0 2 + numAt p 2 2 ≤ 464 → zeroAt p 4 4 = true →
      exec (.laneTableRead fn) s = .next (completed s s
        fn c (((tableBytes s.lne.rev s.lne.table).drop (numAt p 0 2)).take (numAt p 2 2)))) ∧
    (Serves s fn 0x0804 c → byteAt p 3 ≤ 7 → zeroAt p 4 4 = true →
      (bitAt (byteAt p 3) 2 && (decide (byteAt p 2 = 0) || decide (byteAt p 2 > 15))) = false →
      (byteAt p 3 != 0 && isExpert s 0x18) = false →
      exec (.laneConfig fn) s = .next (completed s
        { s with
          lne := { s.lne with
              fomMin := if bitAt (byteAt p 3) 0 then byteAt p 0 else s.lne.fomMin,
              fomWarn := if bitAt (byteAt p 3) 1 then byteAt p 1 else s.lne.fomWarn,
              retryMax := if bitAt (byteAt p 3) 2 then byteAt p 2 else s.lne.retryMax } } fn c []))

/-- STRIKE_QUERY, STRIKE_STAGE, STRIKE_ACTIVATE, STRIKE_DISCARD, STRIKE_FLOW_BIND, STRIKE_FLOW_UNBIND and STRIKE_CONFIG, taken with
parameters that their rules accept, have their own effect: STRIKE_ACTIVATE goes on to wait for the switch, the others end OK (R102, R104,
R115, R121, R122). -/
def Obligations.StrikeCommandsComplete : Prop :=
  ∀ (s : State) (fn : Nat) (c : Cmd), let p := c.params
    (Serves s fn 0x0700 c → zeroAt p 0 8 = true →
      exec (.strikeQuery fn) s = .next (completed s s
        fn c (leBytes 8 (stkState s) ++ leBytes 8 s.stk.epochT ++ leBytes 8 s.stk.epochR ++ leBytes 8 (stkCfg s)))) ∧
    (Serves s fn 0x0701 c → numAt p 0 4 % 16 = 0 → numAt p 4 2 % 16 = 0 → 16 ≤ numAt p 4 2 → numAt p 4 2 ≤ 4080 → byteAt p 6 = 0 →
      zeroAt p 7 9 = true → strikeBusy s = false → numAt p 0 4 + numAt p 4 2 ≤ 2097152 →
      exec (.strikeStage fn) s = .next (completed s (setStkBank s (1 - s.stk.current) (stagedBank s (numAt p 0 4) (p.drop 16)))
        fn c [])) ∧
    (∀ (b : StrikeBank), Serves s fn 0x0701 c → numAt p 0 4 % 16 = 0 → numAt p 4 2 % 16 = 0 → 16 ≤ numAt p 4 2 → numAt p 4 2 ≤ 4080 →
      byteAt p 6 = 1 → zeroAt p 7 9 = true → strikeBusy s = false → numAt p 0 4 + numAt p 4 2 ≤ 2097152 →
      stagedBank s (numAt p 0 4) (p.drop 16) = b →
      exec (.strikeStage fn) s = .next (match acceptImage s b.data with
        | some x => completed s (setStkBank s (1 - s.stk.current) { b with sched := some x }) fn c []
        | none => conclude s (finish (setStkBank s (1 - s.stk.current) {}) fn c stMalformed [] 0))) ∧
    (∀ (x : Schedule), Serves s fn 0x0702 c → strikeBusy s = false → (idleBank s).sched = some x → x.id = numAt p 0 4 →
      x.epoch = numAt p 4 4 →
      exec (.strikeActivate fn) s = .next (awaits s (sendCur { s with stk := { s.stk with activating := true } }
        (some s.rgl.rootCoord) (.ready (.strike (linearOf s s.mvt.coord) x.id x.epoch x.participants))) fn c .strikeSwitch)) ∧
    (Serves s fn 0x0703 c → zeroAt p 0 8 = true → strikeBusy s = false →
      exec (.strikeDiscard fn) s = .next (completed s (setStkBank s (1 - s.stk.current) {}) fn c [])) ∧
    (∀ (n : Nat), Serves s fn 0x0704 c → numAt p 0 4 ≤ 262143 → numAt p 4 2 ≠ 0 → byteAt p 6 ≤ 1 → byteAt p 7 = 0 →
      (queueOf s (numAt p 0 4)).st ≠ .disabled → bindingOfQueue s (numAt p 0 4) = none → bindingOfFlow s (numAt p 4 2) = none →
      (List.range 4096).find? (fun n => (fmFind s.stk.bindings n).isNone) = some n →
      exec (.strikeFlowBind fn) s = .next (completed s
        (setBinding s n { flow := numAt p 4 2, spill := byteAt p 6 = 1, queue := numAt p 0 4 }) fn c [])) ∧
    (∀ (n : Nat) (b : Binding) (u : State), Serves s fn 0x0705 c → numAt p 0 2 ≠ 0 → zeroAt p 2 6 = true →
      bindingOfFlow s (numAt p 0 2) = some (n, b) → spillHeld s b.queue = u →
      exec (.strikeFlowUnbind fn) s = .next (completed s { u with stk := { u.stk with bindings := fmErase u.stk.bindings n } } fn c [])) ∧
    (Serves s fn 0x0706 c → byteAt p 2 ≤ 3 → zeroAt p 3 5 = true → (bitAt (byteAt p 2) 0 && decide (byteAt p 0 > 1)) = false →
      (bitAt (byteAt p 2) 1 && decide (byteAt p 1 > 1)) = false → (byteAt p 2 != 0 && isExpert s 0x14) = false →
      exec (.strikeConfig fn) s = .next (completed s
        { s with
          stk := { s.stk with
              checkEn := if bitAt (byteAt p 2) 0 then byteAt p 0 = 1 else s.stk.checkEn,
              lateEvt := if bitAt (byteAt p 2) 1 then byteAt p 1 = 1 else s.stk.lateEvt } } fn c []))

/-- LOCK_CLAIM, LOCK_RELEASE, LOCK_QUERY, LOCK_GROUP_CONFIG, LOCK_PEER, WORD_LOCK_CLAIM and WORD_LOCK_RELEASE, taken with parameters that
their rules accept by a function that has the right, have their own effect. A claim that wins or already owns ends with the lock word,
and with LOCK_ABANDONED where the word shows that (R502 to R510, R515). -/
def Obligations.LockCommandsComplete : Prop :=
  ∀ (s : State) (fn : Nat) (c : Cmd), let p := c.params
    (∀ (u : State) (out : LockOut), Serves s fn 0x0900 c → numAt p 0 2 ≤ 4095 → byteAt p 2 ≠ 0 → byteAt p 2 ≤ 63 → byteAt p 3 ≤ 1 →
      zeroAt p 4 4 = true → fnMayLock s fn (numAt p 0 2) = true →
      lockWrite s (numAt p 0 2) (localId fn (byteAt p 2)) false = (u, out) → out ≠ .lost →
      exec (.lockClaim fn) s = .next (conclude s (finish u fn c (claimStatus u (numAt p 0 2) out) (lockResp u (numAt p 0 2)) 0))) ∧
    (∀ (u : State), Serves s fn 0x0900 c → numAt p 0 2 ≤ 4095 → byteAt p 2 ≠ 0 → byteAt p 2 ≤ 63 → byteAt p 3 = 1 →
      zeroAt p 4 4 = true → fnMayLock s fn (numAt p 0 2) = true →
      lockWrite s (numAt p 0 2) (localId fn (byteAt p 2)) false = (u, .lost) → waitsHeld s < 64 →
      exec (.lockClaim fn) s = .next (awaits s (bump u 321) fn c (.lockWait (numAt p 0 2) (localId fn (byteAt p 2)) (now u + 10000)))) ∧
    (Serves s fn 0x0901 c → numAt p 0 2 ≤ 4095 → byteAt p 2 ≠ 0 → byteAt p 2 ≤ 63 → zeroAt p 3 5 = true →
      fnMayLock s fn (numAt p 0 2) = true → (lockOf s (numAt p 0 2)).owner = localId fn (byteAt p 2) →
      exec (.lockRelease fn) s = .next (completed s (lockFreed (setLock s (numAt p 0 2) {}) (numAt p 0 2))
        fn c (lockResp (lockFreed (setLock s (numAt p 0 2) {}) (numAt p 0 2)) (numAt p 0 2)))) ∧
    (Serves s fn 0x0902 c → numAt p 0 2 ≤ 4095 → zeroAt p 2 6 = true → fnMayLock s fn (numAt p 0 2) = true →
      exec (.lockQuery fn) s = .next (completed s s fn c (lockResp s (numAt p 0 2)))) ∧
    (Serves s fn 0x0903 c → byteAt p 0 ≤ 63 → (bitAt (byteAt p 4) 1 && decide (byteAt p 2 > 31)) = false →
      (bitAt (byteAt p 4) 2 && decide (byteAt p 3 > 1)) = false → byteAt p 4 ≠ 0 → byteAt p 4 ≤ 7 → zeroAt p 5 3 = true →
      isExpert s 0x1A = false →
      exec (.lockGroupConfig fn) s = .next (completed s
        { s with
          pal := { s.pal with
              groups := fmSet s.pal.groups (byteAt p 0) (groupRights (lockGroup s (byteAt p 0)) p),
              notify := pick (byteAt p 4) 2 (byteAt p 3 = 1) s.pal.notify } } fn c [])) ∧
    (Serves s fn 0x0903 c → byteAt p 0 ≤ 63 → byteAt p 4 = 0 → zeroAt p 5 3 = true →
      exec (.lockGroupConfig fn) s = .next (completed s s fn c [])) ∧
    (Serves s fn 0x0904 c → lockPeerOk s p = true → peerShut s (byteAt p 0 == 0) (byteAt p 7) (numAt p 4 3) = false →
      exec (.lockPeer fn) s = .next (awaits s
        (sendCur s (some (numAt p 4 3)) (.lockAsk (byteAt p 0 == 0) fn (byteAt p 2) (numAt p 8 2) (byteAt p 1))) fn c .lockPeer)) ∧
    (∀ (w : WordLock) (t u : State) (v v2 : Nat) (l : Lock) (out : LockOut), Serves s fn 0x0905 c → wordLockOk p = true →
      namedWord fn p = w → readWordLock s w.space fn w.addr = (t, some v) → lockRule (wordOf v) w.id false = (l, out) → out ≠ .lost →
      (out = .won → t.pal.words.length < 256) → readWordLock (claimWord t w v (out == .won)) w.space fn w.addr = (u, some v2) →
      exec (.wordLockClaim fn) s = .next (conclude s
        (finish u fn c (if l.abandoned then stLockAbandoned else stOk) (leBytes 8 (lockWord l)) 0))) ∧
    (∀ (w : WordLock) (t u : State) (v v2 : Nat), Serves s fn 0x0906 c → wordLockOk p = true → namedWord fn p = w →
      readWordLock s w.space fn w.addr = (t, some v) → (wordOf v).owner = w.id →
      readWordLock (releaseWord t w v) w.space fn w.addr = (u, some v2) →
      exec (.wordLockRelease fn) s = .next (completed s u fn c (leBytes 8 0)))

/-- COUNTER_READ, COUNTER_CONFIG, USER_PAGE_CONFIG, DIAL_CONFIG, DIAL_READ, PROV_CONFIG, PROV_READ, FAULT_SEV_SET, FAULT_QUERY,
FAULT_LOG_READ, REGISTRAR_QUERY and REGISTRAR_READ, taken with parameters that their rules accept, have their own effect and end OK
(R578, R579, R597). -/
def Obligations.MonitorCommandsComplete : Prop :=
  ∀ (s : State) (fn : Nat) (c : Cmd), let p := c.params
    (Serves s fn 0x0B00 c → numAt p 2 2 ≠ 0 → numAt p 2 2 ≤ 256 → numAt p 0 2 + numAt p 2 2 ≤ 1427 → zeroAt p 4 4 = true →
      (fn != 0 && !(List.range (numAt p 2 2)).all (fun i => pageHolds s fn (numAt p 0 2 + i))) = false →
      exec (.counterRead fn) s = .next (completed s s
        fn c ((List.range (numAt p 2 2)).flatMap (fun i => leBytes 8 (cntSlot s (numAt p 0 2 + i)).1 ++ leBytes 8 (cntSlot s (numAt p 0
            2 + i)).2)))) ∧
    (Serves s fn 0x0B01 c → numAt p 2 2 ≠ 0 → numAt p 0 2 + numAt p 2 2 ≤ 1427 → byteAt p 4 ≤ 3 → byteAt p 5 ≠ 0 → byteAt p 5 ≤ 7 →
      zeroAt p 6 2 = true → zeroAt p 12 4 = true → (bitAt (byteAt p 5) 1 && decide (numAt p 8 4 ≥ 2 ^ 24)) = false →
      isExpert s 0x20 = false →
      exec (.counterConfig fn) s = .next (completed s
        (cntConfigs s (numAt p 0 2) (numAt p 2 2) (if bitAt (byteAt p 5) 0 then some (bitAt (byteAt p 4) 0) else none) (if bitAt
            (byteAt p 5) 1 then some (numAt p 8 4) else none) (bitAt (byteAt p 5) 2 && bitAt (byteAt p 4) 1)) fn c [])) ∧
    (Serves s fn 0x0B01 c → numAt p 2 2 ≠ 0 → numAt p 0 2 + numAt p 2 2 ≤ 1427 → byteAt p 4 ≤ 3 → byteAt p 5 = 0 →
      zeroAt p 6 2 = true → zeroAt p 12 4 = true → exec (.counterConfig fn) s = .next (completed s s fn c [])) ∧
    (∀ (l : List Nat), Serves s fn 0x0B02 c → byteAt p 1 ≤ 1 → numAt p 2 2 ≤ 252 → zeroAt p 4 4 = true →
      (List.range (numAt p 2 2)).map (fun i => numAt p (8 + 2 * i) 2) = l → l.any (fun k => decide (k ≥ 1427)) = false →
      isExpert s 0x20 = false → (fnOf s (byteAt p 0)).present = true →
      l.any (fun k => decide (k ≥ 403) && (k - 403) / 4 != byteAt p 0) = false →
      exec (.userPageConfig fn) s = .next (completed s
        { s with mon := { s.mon with pages := fmSet s.mon.pages (byteAt p 0) { en := byteAt p 1 = 1, slots := l } } } fn c [])) ∧
    (Serves s fn 0x0B03 c → byteAt p 0 ≤ 15 → byteAt p 1 ≤ 3 → byteAt p 8 ≠ 0 → byteAt p 8 ≤ 7 → zeroAt p 9 7 = true →
      (bitAt (byteAt p 8) 2 && (byteAt p 2 > 10 || byteAt p 3 > 31 || numAt p 4 4 ≥ 2 ^ dialArgBits (byteAt p 2))) = false →
      isExpert s 0x20 = false →
      exec (.dialConfig fn) s = .next (completed s (setDial s (byteAt p 0) (dialSet (dialOf s (byteAt p 0)) p)) fn c [])) ∧
    (Serves s fn 0x0B03 c → byteAt p 0 ≤ 15 → byteAt p 1 ≤ 3 → byteAt p 8 = 0 → zeroAt p 9 7 = true →
      exec (.dialConfig fn) s = .next (completed s s fn c [])) ∧
    (Serves s fn 0x0B04 c → byteAt p 0 ≤ 15 → zeroAt p 1 7 = true →
      exec (.dialRead fn) s = .next (completed s s fn c (dialBytes (dialOf s (byteAt p 0))))) ∧
    (Serves s fn 0x0B05 c → field (numAt p 0 8) 27 5 = 0 → field (numAt p 0 8) 50 14 = 0 → isExpert s 0x20 = false →
      exec (.provConfig fn) s = .next (completed s (setProv s (numAt p 0 8)) fn c (leBytes 8 (provStatus (setProv s (numAt p 0 8)))))) ∧
    (Serves s fn 0x0B06 c → numAt p 4 2 ≠ 0 → numAt p 4 2 ≤ 64 → zeroAt p 6 2 = true →
      exec (.provRead fn) s = .next (completed s s
        fn c ((List.range (numAt p 4 2)).flatMap (fun i => provBytes (provSlot s ((numAt p 0 4 + i) % 8192)))))) ∧
    (Serves s fn 0x0B10 c → numAt p 0 2 ≤ 311 → byteAt p 2 ≤ 3 → zeroAt p 3 5 = true → isExpert s 0x1E = false →
      exec (.faultSevSet fn) s = .next (completed s (setSev s (numAt p 0 2) (byteAt p 2))
        fn c (leBytes 8 (srcWord (setSev s (numAt p 0 2) (byteAt p 2)) (numAt p 0 2))))) ∧
    (Serves s fn 0x0B11 c → numAt p 0 2 ≤ 311 → zeroAt p 2 6 = true →
      exec (.faultQuery fn) s = .next (completed s s
        fn c (leBytes 8 (srcWord s (numAt p 0 2)) ++ leBytes 8 (srcDetail s (numAt p 0 2))))) ∧
    (Serves s fn 0x0B12 c → numAt p 4 2 ≠ 0 → numAt p 4 2 ≤ 128 → zeroAt p 6 2 = true →
      exec (.faultLogRead fn) s = .next (completed s s
        fn c ((List.range (numAt p 4 2)).flatMap (fun i => logBytes (logSlot s ((numAt p 0 4 + i) % 1024)))))) ∧
    (Serves s fn 0x0C00 c → zeroAt p 0 8 = true →
      exec (.registrarQuery fn) s = .next (completed s s fn c ((rgsWords s).flatMap (leBytes 8)))) ∧
    (Serves s fn 0x0C01 c → numAt p 4 2 ≠ 0 → numAt p 4 2 ≤ 64 → zeroAt p 6 2 = true →
      exec (.registrarRead fn) s = .next (completed s s
        fn c ((List.range (numAt p 4 2)).flatMap (fun i => regReadable s fn ((numAt p 0 4 + i) % 16384)))))

/-- TWIN_QUERY, TWIN_CONFIG, TWIN_BRIDGE_RETRAIN, TWIN_ADOPT, MOVER_CHANNEL_ALLOC, MOVER_CHANNEL_FREE, MOVER_CHANNEL_QUERY,
MOVER_CHANNEL_PRIORITY and MOVER_CONFIG, taken with parameters that their rules accept, have their own effect: TWIN_BRIDGE_RETRAIN, and
TWIN_ADOPT while queues are left to adopt, go on to wait, the others end OK (R477, R478, R540, R541). -/
def Obligations.TwinAndMoverCommandsComplete : Prop :=
  ∀ (s : State) (fn : Nat) (c : Cmd), let p := c.params
    (Serves s fn 0x0A00 c → zeroAt p 0 8 = true →
      exec (.twinQuery fn) s = .next (completed s s
        fn c ([twnStatus s, twnDeathTs s, twnAdoptCount s, twnCfg s, s.twn.pSerial].flatMap (leBytes 8)))) ∧
    (Serves s fn 0x0A01 c → byteAt p 2 ≤ 7 → zeroAt p 3 5 = true → (bitAt (byteAt p 2) 0 && byteAt p 0 > 1) = false →
      (bitAt (byteAt p 2) 1 && byteAt p 1 > 1) = false → (bitAt (byteAt p 2) 2 && numAt p 8 8 % 2 ^ 21 != 0) = false → byteAt p 2 ≠ 0 →
      onPartner s = false → isExpert s 0x1C = false →
      exec (.twinConfig fn) s = .next (completed s
        { s with
          twn := { s.twn with
              adoptEn := pick (byteAt p 2) 0 (byteAt p 0 = 1) s.twn.adoptEn,
              stopEn := pick (byteAt p 2) 1 (byteAt p 1 = 1) s.twn.stopEn,
              base := pick (byteAt p 2) 2 (numAt p 8 8) s.twn.base } } fn c [])) ∧
    (Serves s fn 0x0A01 c → byteAt p 2 = 0 → zeroAt p 3 5 = true → exec (.twinConfig fn) s = .next (completed s s fn c [])) ∧
    (Serves s fn 0x0A02 c → zeroAt p 0 8 = true → onPartner s = false →
      exec (.twinBridgeRetrain fn) s = .next (awaits s (if s.mvt.adminFence.contains 14 then s else linkLost s 14 1) fn c .trainBridge)) ∧
    (∀ (u : State), Serves s fn 0x0A03 c → zeroAt p 0 8 = true → s.twn.state = .partnerDead → s.twn.adopted = false →
      s.twn.adopting = [] → mirrorComplete s = true → startAdoption s = u → u.twn.adopted = false →
      exec (.twinAdopt fn) s = .next (awaits s u fn c .adopt)) ∧
    (∀ (u : State), Serves s fn 0x0A03 c → zeroAt p 0 8 = true → s.twn.state = .partnerDead → s.twn.adopted = false →
      s.twn.adopting = [] → mirrorComplete s = true → startAdoption s = u → u.twn.adopted = true →
      exec (.twinAdopt fn) s = .next (completed s u fn c [])) ∧
    (∀ (g q ch : Nat), Serves s fn 0x0D00 c → byteAt p 1 ≤ 3 → zeroAt p 2 2 = true → byteAt p 8 ≤ 3 → zeroAt p 9 7 = true →
      tenantOk s fn (byteAt p 0) = true → schedGroup s fn (numAt p 4 4) = .inl g → q = 4 * g + byteAt p 8 →
      (queueOf s q).st ≠ .disabled → (queueOf s q).fn = byteAt p 0 → freeChannel s = some ch →
      exec (.moverChannelAlloc fn) s = .next (completed s (mirror (setChan s ch
        { st := .idle, owner := byteAt p 0, queue := q, prio := byteAt p 1 }) (.channel ch (byteAt p 0) q (byteAt p 1)))
        fn c (leBytes 8 ch))) ∧
    (Serves s fn 0x0D01 c → byteAt p 0 ≤ 31 → zeroAt p 1 7 = true → chanOk s fn (byteAt p 0) = true → chanBusy s (byteAt p 0) = false →
      exec (.moverChannelFree fn) s = .next (completed s (mirror
        { s with mov := { s.mov with chans := fmErase s.mov.chans (byteAt p 0) } } (.channelGone (byteAt p 0))) fn c [])) ∧
    (Serves s fn 0x0D02 c → byteAt p 0 ≤ 31 → zeroAt p 1 7 = true → (fn != 0 && !chanOk s fn (byteAt p 0)) = false →
      exec (.moverChannelQuery fn) s = .next (completed s s fn c ((movCh s (byteAt p 0)).flatMap (leBytes 8)))) ∧
    (∀ (x : Channel), Serves s fn 0x0D03 c → byteAt p 0 ≤ 31 → byteAt p 1 ≤ 3 → zeroAt p 2 6 = true → chanOk s fn (byteAt p 0) = true →
      chanOf s (byteAt p 0) = x →
      exec (.moverChannelPriority fn) s = .next (completed s
        (mirror (setChan s (byteAt p 0) { x with prio := byteAt p 1 }) (.channel (byteAt p 0) x.owner x.queue (byteAt p 1))) fn c [])) ∧
    (Serves s fn 0x0D04 c → byteAt p 1 ≤ 1 → zeroAt p 2 6 = true → (byteAt p 1 != 0 && isExpert s 0x08) = false →
      exec (.moverConfig fn) s = .next (completed s
        { s with mov := { s.mov with rrBeats := pick (byteAt p 1) 0 (byteAt p 0) s.mov.rrBeats } } fn c []))

/-- QUEUE_DESTROY and QUEUE_RESET of a queue whose entries can be read end OK: the unfinished and the ungrouped jobs are aborted, the head
index passes all of them, and the queue is DISABLED, or ACTIVE again from LAST (R229 to R232, R242). -/
def Obligations.DrainCommandsComplete : Prop :=
  ∀ (s : State) (fn : Nat) (c : Cmd), let p := c.params
    (∀ (q : Nat) (x : Queue) (a b u : State) (w : List Byte) (rest : List (Idx × Bool)), Serves s fn 0x0183 c →
      namedQueue s fn p = .inl q → queueOf s q = x → x.st ≠ .disabled → beginDrain s q false = (a, some w) →
      ungrouped (releaseQueue ((dueRecords a q).foldl (putStatus q) a) q) q (x.last - x.cons).toNat [] = (b, some rest) →
      endDrain b q x rest = (u, true) →
      exec (.queueDestroy fn) s = .next (completed s (mirror (setQueue u q (drainedQueue (queueOf u q) x .disabled)) (.queueGone q))
        fn c (drainReply x rest (dueRecords s q).length))) ∧
    (∀ (q : Nat) (x : Queue) (a b u : State) (w : List Byte) (rest : List (Idx × Bool)), Serves s fn 0x0184 c →
      namedQueue s fn p = .inl q → queueOf s q = x → x.st ≠ .disabled → beginDrain s q true = (a, some w) →
      ungrouped (releaseQueue ((dueRecords a q).foldl (putStatus q) a) q) q (x.last - x.cons).toNat [] = (b, some rest) →
      endDrain b q x rest = (u, true) →
      exec (.queueReset fn) s = .next (completed s
        (mirror (setQueue u q (drainedQueue (queueOf u q) x .active)) (.queue q (cfgOf x) x.last))
        fn c (drainReply x rest (dueRecords s q).length)))

/-- COMMAND_TAKEN, COMMAND_COMPLETE, COMMAND_TIMEOUT, CUR_CORE_STOP, ADMIN_QUEUE_ENABLE, ADMIN_QUEUE_DISABLE and ADM_DB on a running device
have the effect that the rules of the admin queue give them (R244 to R254, R277). -/
def Obligations.AdminQueueEventsComplete : Prop :=
  ∀ (s : State) (fn : Nat),
    (∀ (a : AdmQ) (t : State) (h : List Byte) (c : Cmd), running s = true → s.cur.ready = true → busyCores s < runningCores s →
      nextTenant s = some fn → admOf s fn = a → hostRead s fn (commandSlot a) 64 = (t, some h) → paramBytes h = 0 →
      framingStatus fn a.cons h [] = stOk → cmdIn t a h [] = c →
      exec (.commandTaken fn) s = .next (conclude s (leaveAtTaking (beginCmd t fn a c) c))) ∧
    (∀ (a : AdmQ) (t u : State) (h p : List Byte) (n : Nat) (c : Cmd), running s = true → s.cur.ready = true →
      busyCores s < runningCores s → nextTenant s = some fn → admOf s fn = a → hostRead s fn (commandSlot a) 64 = (t, some h) →
      paramBytes h = n + 1 → hostRead t fn (commandSlot a + 64) (n + 1) = (u, some p) → framingStatus fn a.cons h p = stOk →
      cmdIn u a h p = c → exec (.commandTaken fn) s = .next (conclude s (leaveAtTaking (beginCmd u fn a c) c))) ∧
    (∀ (a : AdmQ) (t : State) (c : Cmd), running s = true → s.cur.ready = true → busyCores s < runningCores s →
      nextTenant s = some fn → admOf s fn = a → hostRead s fn (commandSlot a) 64 = (t, none) → unreadCmd t a = c →
      exec (.commandTaken fn) s = .next (conclude s (finish (beginCmd t fn a c) fn c stBusError [] 0))) ∧
    (∀ (st w r d : Nat) (c : Cmd) (resp : List Byte), running s = true → (admOf s fn).cmd = some c → c.wait = .ready r resp d →
      exec (.commandComplete fn st w) s = .next (conclude s (finish s fn c r resp d))) ∧
    (∀ (w : Nat) (c : Cmd), running s = true → (admOf s fn).cmd = some c → c.wait = .lockPeer →
      exec (.commandComplete fn stOk w) s = .next (conclude s (finish s fn c stOk (leBytes 8 (w % 2 ^ 17)) 0))) ∧
    (∀ (c : Cmd), running s = true → (admOf s fn).cmd = some c → now s ≥ c.tTaken + 250000000 →
      exec (.commandTimeout fn) s = .next (conclude s (finish (undoWait s c.wait) fn c stTimeout [] 0))) ∧
    (∀ (core : Nat) (t : State), running s = true → core < 4 → s.cur.cores.getD core false = true →
      { s with cur := { s.cur with cores := s.cur.cores.set core false } } = t →
      exec (.curCoreStop core none) s = .next (conclude s (fault (abandonLocks t (isCoreOf core)) 18 core))) ∧
    (∀ (v : BitVec 32), running s = true → reaches s fn = true → fn < 256 → (admOf s fn).st = .disabled → 6 ≤ v.toNat % 32 →
      v.toNat % 32 ≤ 16 →
      exec (.adminQueueEnable fn v) s = .next (conclude s (hostWrite (setAdm s fn
        { admOf s fn with log2 := v.toNat % 32, enable := true, st := .idle, cons := 0, last := 0, mailbox := idleReply })
        fn (admOf s fn).head (leBytes 4 0)))) ∧
    (∀ (v : BitVec 32), running s = true → reaches s fn = true → fn < 256 → (admOf s fn).st ≠ .disabled →
      exec (.adminQueueDisable fn v) s = .next (conclude s (setAdm s fn
        { admOf s fn with enable := false, st := if (admOf s fn).cmd.isSome then .busy else .disabled }))) ∧
    (∀ (v : Idx) (a : AdmQ), running s = true → reaches s fn = true → fn < 256 → admOf s fn = a → (v - a.cons).toNat ≤ 2 ^ a.log2 →
      (v - a.cons).toNat > (a.last - a.cons).toNat →
      exec (.admDb fn v) s = .next (conclude s (bump (setAdm s fn { a with last := v, tDb := now s }) (hifCounter s fn 0)))) ∧
    (∀ (v : Idx) (a : AdmQ), running s = true → reaches s fn = true → fn < 256 → admOf s fn = a → (v - a.cons).toNat ≤ 2 ^ a.log2 →
      (v - a.cons).toNat ≤ (a.last - a.cons).toNat → exec (.admDb fn v) s = .next (conclude s (bump s (hifCounter s fn 1)))) ∧
    (∀ (v : Idx) (a : AdmQ), running s = true → reaches s fn = true → fn < 256 → admOf s fn = a → (v - a.cons).toNat > 2 ^ a.log2 →
      exec (.admDb fn v) s = .next (conclude s (fault s 33 (fn + v.toNat * 2 ^ 32))))

/-- DB_PRODUCER, INLINE_STORE, MOV_APPEND, LOCK_WORD_WRITE, LOCK_WAIT_READ, WAIT_READ_RETURN and MSIX_UNMASK on a running device have the
effect that the rules of the doorbell page, the combining buffer, the Mover channels, the lock words and the vectors give them (R194,
R198, R204, R471, R504, R506). -/
def Obligations.RingStoresAndLockWordsComplete : Prop :=
  ∀ (s : State),
    (∀ (fn offset g q : Nat) (v : Idx) (t : State) (x : Queue), running s = true → reaches s fn = true → (fnOf s fn).sinceFlr = false →
      pageGroup s fn (offset / 4096) = some g → offset % 64 = 0 → offset % 4096 / 64 ≤ 3 → q = 4 * g + offset % 4096 / 64 →
      (queueOf s q).st ≠ .disabled → (queueOf s q).st ≠ .draining → modQueue s q (fun x => { x with adopted := false }) = t →
      queueOf t q = x → (v - x.cons).toNat ≤ 2 ^ x.log2 → (v - x.cons).toNat > (x.last - x.cons).toNat →
      exec (.dbProducer fn offset 32 v) s = .next (conclude s (advanceProducer t q x v))) ∧
    (∀ (fn offset g q : Nat) (v : Idx) (t : State) (x : Queue), running s = true → reaches s fn = true → (fnOf s fn).sinceFlr = false →
      pageGroup s fn (offset / 4096) = some g → offset % 64 = 0 → offset % 4096 / 64 ≤ 3 → q = 4 * g + offset % 4096 / 64 →
      (queueOf s q).st ≠ .disabled → (queueOf s q).st ≠ .draining → modQueue s q (fun x => { x with adopted := false }) = t →
      queueOf t q = x → (v - x.cons).toNat ≤ 2 ^ x.log2 → (v - x.cons).toNat ≤ (x.last - x.cons).toNat →
      exec (.dbProducer fn offset 32 v) s = .next (conclude s (bump t (hifCounter t x.fn 1)))) ∧
    (∀ (fn offset g q : Nat) (v : Idx) (t : State) (x : Queue), running s = true → reaches s fn = true → (fnOf s fn).sinceFlr = false →
      pageGroup s fn (offset / 4096) = some g → offset % 64 = 0 → offset % 4096 / 64 ≤ 3 → q = 4 * g + offset % 4096 / 64 →
      (queueOf s q).st ≠ .disabled → (queueOf s q).st ≠ .draining → modQueue s q (fun x => { x with adopted := false }) = t →
      queueOf t q = x → (v - x.cons).toNat > 2 ^ x.log2 →
      exec (.dbProducer fn offset 32 v) s = .next (conclude s (fault t 33 (x.fn + v.toNat * 2 ^ 32)))) ∧
    (∀ (fn offset : Nat) (bytes : List Byte), running s = true → reaches s fn = true → (fnOf s fn).sinceFlr = false →
      s.hif.wcEn = true → exec (.inlineStore fn offset bytes) s = .next (conclude s (bytes.zipIdx.foldl (storeByte fn offset) s))) ∧
    (∀ (fn offset g a : Nat) (b : Byte), running s = true → reaches s fn = true → (fnOf s fn).sinceFlr = false → s.hif.wcEn = true →
      pageGroup s fn (offset / 2048) = some g → offset % 2048 = a →
      s.hif.wc.all (fun x => !(x.group == g && x.slot == a / 512 && x.j8 == a % 512 / 64)) = true → s.hif.wc.length < 1024 →
      exec (.inlineStore fn offset [b]) s = .next (conclude s
        { s with
          hif := { s.hif with wc := s.hif.wc ++ [{ group := g, slot := a / 512, j8 := a % 512 / 64, bytes := [(a % 64, b)] }] } })) ∧
    (∀ (v : BitVec 32) (x : Channel), running s = true → reaches s 0 = true → chanOf s (v.toNat % 32) = x → x.job.isSome = true →
      x.chain = true → exec (.movAppend 0 v) s = .next (conclude s (setChan s (v.toNat % 32) { x with append := true }))) ∧
    (∀ (v : BitVec 32), running s = true → reaches s 0 = true → (chanOf s (v.toNat % 32)).job = none →
      exec (.movAppend 0 v) s = .next (conclude s (bump s 349))) ∧
    (∀ (n : Nat) (v : BitVec 32) (u : State) (out : LockOut), running s = true → n < 4096 → fnMayLock s 0 n = true → v.toNat < 2 ^ 17 →
      field v.toNat 0 16 ≠ 0 → field v.toNat 0 16 ≤ 63 → lockWrite s n (field v.toNat 0 16) (bitAt v.toNat 16) = (u, out) →
      exec (.lockWordWrite 0 (palLockBase + 16 * n) v) s = .next (conclude s u)) ∧
    (∀ (n : Nat), running s = true → n < 4096 → fnMayLock s 0 n = true → (lockOf s n).owner = 0 →
      exec (.lockWaitRead 0 n) s = .next (conclude s (readBack s 0 (lockWord (lockOf s n))))) ∧
    (∀ (n : Nat), running s = true → n < 4096 → fnMayLock s 0 n = true → (lockOf s n).owner ≠ 0 → waitsHeld s < 64 →
      exec (.lockWaitRead 0 n) s = .next (conclude s (bump
        { s with
          pal := { s.pal with waits := s.pal.waits ++ [{ lock := n, fn := 0, at_ := now s }] },
          hif := { s.hif with rdData := none } } 321))) ∧
    (∀ (n w : Nat) (r : WaitRead), running s = true →
      s.pal.waits.find? (fun r => r.lock == n && (r.word.isSome || decide (now s ≥ r.at_ + 10000))) = some r → r.word = some w →
      exec (.waitReadReturn n) s = .next (conclude s (readBack { s with pal := { s.pal with waits := s.pal.waits.erase r } } r.fn w))) ∧
    (∀ (n : Nat) (r : WaitRead), running s = true →
      s.pal.waits.find? (fun r => r.lock == n && (r.word.isSome || decide (now s ≥ r.at_ + 10000))) = some r → r.word = none →
      exec (.waitReadReturn n) s = .next (conclude s (readBack (bump { s with pal := { s.pal with waits := s.pal.waits.erase r } }
        322) r.fn (lockWord (lockOf s n))))) ∧
    (∀ (fn v : Nat) (t u : State) (x : MsixVec), running s = true → reaches s fn = true → v < vectorsOf s fn →
      setVec s fn v { vecOf s fn v with masked := false } = t → (fnOf t fn).msixEn = true → (fnOf t fn).fnMask = false →
      (vecOf t fn v).masked = false → (fnOf t fn).pend.contains v = true → canAccess t fn = true → vecOf t fn v = x →
      ringsSent (setFn (pushWrites t fn) fn (fun f => { f with pend := without f.pend v })) fn v = u →
      exec (.msixUnmask fn v) s = .next (conclude s (bump
        { u with hif := { u.hif with msgs := u.hif.msgs ++ [(fn, v, x.addr, x.data)] } } (hifCounter u fn 5)))) ∧
    (∀ (fn v : Nat) (t : State), running s = true → reaches s fn = true → v < vectorsOf s fn →
      setVec s fn v { vecOf s fn v with masked := false } = t → (fnOf t fn).pend.contains v = false →
      exec (.msixUnmask fn v) s = .next (conclude s t))

/-- ADM_MAILBOX_READ, LATCHING_REGISTER_READ, USER_PAGE_READ, REGISTER_WRITE, PORT_FENCE_WRITE, RETRAIN and UNDEFINED_OFFSET_ACCESS on a
running device have the effect that the register rules give them (R14, R15, R17, R18, R90, R179, R258, R264, R564). -/
def Obligations.RegisterAccessesComplete : Prop :=
  ∀ (s : State),
    (∀ (w : Nat → Nat), running s = true → reaches s 0 = true → fmFind s.hif.latch (latchKey 0 0x00100040) = none →
      recordWord (replyBytes (admOf s 0).mailbox) = w →
      exec (.admMailboxRead 0) s = .next (conclude s
        (readBack (setLatch 0 0x00100058 (w 3) (setLatch 0 0x00100050 (w 2) (setLatch 0 0x00100048 (w 1) (dropLatch 0 0x00100040 s))))
        0 (w 0 % 2 ^ 64)))) ∧
    (∀ (fn offset width : Nat) (r : RegAt) (t u : State), running s = true → reaches s fn = true → offset < bar0Size fn →
      locate s fn offset width = some r → r.upper = false → r.name ≠ .palLock → r.name ≠ .palWait → r.name ≠ .userTs →
      width = r.width → fmFind s.hif.latch (latchKey fn r.at_) = none → sampleRead s r = t →
      latchCompanions (dropLatch fn r.at_ t) fn r = u →
      exec (.latchingRegisterRead fn ⟨0, offset⟩ width) s = .next (conclude s (readBack u fn (regValue t fn r.name r.i % 2 ^ width)))) ∧
    (∀ (fn offset v : Nat) (r : RegAt), running s = true → reaches s fn = true → offset < bar0Size fn →
      locate s fn offset 32 = some r → r.upper = true → r.name ≠ .palLock → r.name ≠ .palWait → isMsix r.name = false →
      fmFind s.hif.latch (latchKey fn (r.at_ + 4)) = some v →
      exec (.latchingRegisterRead fn ⟨0, offset⟩ 32) s = .next (conclude s (readBack (dropLatch fn (r.at_ + 4) s) fn v))) ∧
    (∀ (fn bar offset width : Nat), running s = true → reaches s fn = true → (bar = 2 ∨ bar = 4) → fn ≠ 256 →
      exec (.latchingRegisterRead fn ⟨bar, offset⟩ width) s = .next (conclude s (readBack s fn 0))) ∧
    (∀ (offset : Nat) (r : RegAt) (u : State), running s = true → offset < 4096 → reaches s 0 = true →
      locate s 0 (0x02090000 + offset) 64 = some r → r.name = .userValue → r.upper = false → r.width = 64 →
      fmFind s.hif.latch (latchKey 0 r.at_) = none → latchCompanions (dropLatch 0 r.at_ s) 0 r = u →
      exec (.userPageRead 0 offset 64) s = .next (conclude s (readBack u 0 (regValue s 0 .userValue r.i % 2 ^ 64)))) ∧
    (∀ (offset width : Nat) (v : BitVec 64) (r : RegAt), running s = true → reaches s 0 = true → offset < bar0Size 0 →
      locate s 0 offset width = some r → (width = 64 ∨ r.width = 32) → exempt r.name = false →
      ((controlled r.name).1 || (controlled r.name).2) = true → isExpert s (r.at_ / 2 ^ 20) = true →
      exec (.registerWrite 0 offset width v) s = .next (conclude s (writeReg s r (v.toNat % 2 ^ width)))) ∧
    (∀ (fn offset width : Nat) (v : BitVec 64) (r : RegAt), running s = true → reaches s fn = true → offset < bar0Size fn →
      locate s fn offset width = some r → (width = 64 ∨ r.width = 32) → exempt r.name = false →
      ((controlled r.name).1 || (controlled r.name).2) = true → (fn != 0 || !isExpert s (r.at_ / 2 ^ 20)) = true →
      exec (.registerWrite fn offset width v) s = .next (conclude s (fault s 16 offset))) ∧
    (∀ (fn offset width : Nat) (v : BitVec 64) (r : RegAt), running s = true → reaches s fn = true → offset < bar0Size fn →
      locate s fn offset width = some r → (width = 64 ∨ r.width = 32) → exempt r.name = false → r.name ≠ .userValue →
      r.name ≠ .userTs → ((controlled r.name).1 || (controlled r.name).2) = false →
      exec (.registerWrite fn offset width v) s = .next (conclude s s)) ∧
    (∀ (fn offset : Nat) (v : BitVec 64) (r : RegAt), running s = true → reaches s fn = true → offset < bar0Size fn →
      locate s fn offset 32 = some r → r.width = 64 → isMsix r.name = false → r.name ≠ .userValue → r.name ≠ .userTs →
      r.upper = false →
      exec (.registerWrite fn offset 32 v) s = .next (conclude s
        { s with hif := { s.hif with held := fmSet s.hif.held (latchKey fn r.at_) (v.toNat % 2 ^ 32) } })) ∧
    (∀ (port : Nat) (v : BitVec 32), running s = true → isExpert s 0x12 = true → hasLanes port = true →
      (port = 14 → twinPaired s = false) →
      exec (.portFenceWrite 0 port v) s = .next (conclude s (setAdminFence s port (bitAt v.toNat 0)))) ∧
    (∀ (fn port : Nat) (v : BitVec 32), running s = true → (fn != 0 || !isExpert s 0x12) = true →
      exec (.portFenceWrite fn port v) s = .next (conclude s (fault s 16 (0x01200100 + 8 * port)))) ∧
    (∀ (port : Nat), running s = true → isExpert s 0x18 = true → port < 12 → s.mvt.adminFence.contains port = false →
      exec (.retrain 0 port) s = .next (conclude s (linkFault s port))) ∧
    (∀ (fn port : Nat), running s = true → hasLanes port = true → (fn != 0 || !isExpert s 0x18) = true →
      exec (.retrain fn port) s = .next (conclude s (fault s 16 (0x01801008 + 0x100 * port)))) ∧
    (∀ (fn offset width : Nat) (sparse : Bool), running s = true → reaches s fn = true → offset < bar0Size fn →
      ((locate s fn offset width).isSome && !sparse) = false →
      exec (.undefinedOffsetAccess fn offset width ⟨true, sparse⟩) s = .next (conclude s (fault s 36 offset))) ∧
    (∀ (fn offset width : Nat) (sparse : Bool), running s = true → reaches s fn = true → offset < bar0Size fn →
      ((locate s fn offset width).isSome && !sparse) = false →
      exec (.undefinedOffsetAccess fn offset width ⟨false, sparse⟩) s = .next (conclude s (readBack (fault s 36 offset) fn 0)))

/-- Each of the 16 job commands, when no job of its opcode waits and its queue may start jobs and has no barrier standing, groups the entries
from CONS on (R217, R218, R227, R228, R365, R366): a job of its opcode is appended and then armed, started at once, or left until its
hold ends; and a malformed one is completed with MALFORMED, whichever command it is. -/
def Obligations.JobCommandsTakeTheNextJob : Prop :=
  ∀ (s : State) (q : Nat),
    (∀ (p : Nat × (Nat → Instr)) (t u : State) (l : List Line) (broken : Bool) (j : Job), p ∈ jobCommands → running s = true →
      startable s q p.1 = none → mayStart s q = true → barrierStands s q = false → groupNext s q = (t, .job l broken) →
      newJob t q l broken = j → j.opcode = p.1 → j.malformed = false → appendJob t q j = u →
      exec (p.2 q) s = .next (conclude s (if j.arm then armJob u q j else if canStart u q j then startJob u q j.idx p.1 else u))) ∧
    (∀ (p : Nat × (Nat → Instr)) (t u : State) (l : List Line) (broken : Bool) (j : Job), p ∈ jobCommands → running s = true →
      startable s q p.1 = none → mayStart s q = true → barrierStands s q = false → groupNext s q = (t, .job l broken) →
      newJob t q l broken = j → j.malformed = true → appendJob t q j = u →
      exec (p.2 q) s = .next (conclude s (endJob u q j.idx stMalformed 0 (if j.opcode = 0x40 then 1 else 0)))) ∧
    (∀ (p : Nat × (Nat → Instr)) (t : State) (l : List Line) (j : Job), p ∈ jobCommands → running s = true → startable s q p.1 = none →
      mayStart s q = true → barrierStands s q = false → groupNext s q = (t, .failed l) →
      { newJob t q (l ++ [0]) false with malformed := false } = j →
      exec (p.2 q) s = .next (conclude s (endJob (appendJob t q j) q j.idx stBusError 0 0)))

/-- A waiting job of each opcode that may start does so: NOP is done; PUT, PUT_IMM, GET, ATOMIC, RESERVE_LOAD and COND_STORE on a CONNECTED
context, with a good local operand, go on to have their packets built; COUNTER_ADD and COUNTER_SET change the counter; BARRIER with
everything before it done and nothing unflushed ends; SEND joins its peer slot; RECV is posted; COLLECTIVE contributes; Mover jobs begin
on their channel (R217, R319, R320, R338, R368, R378, R380, R416, R452, R467, R471). -/
def Obligations.JobsStartOnTheirTurn : Prop :=
  ∀ (s : State) (q : Nat),
    (∀ (j : Job) , running s = true → startable s q 0x00 = some j → j.opcode = 0x00 → jobOf s q j.idx = some j →
      exec (.nop q) s = .next (conclude s
        (completeJob (modJob (beginJob s q j.idx) q j.idx (fun j => { j with built := true })) q j.idx))) ∧
    (∀ (j : Job) (t u : State) (x : Ctx) (i : Job) (key off len need : Nat), running s = true → startable s q 0x01 = some j →
      j.opcode = 0x01 → jobOf s q j.idx = some j → beginJob s q j.idx = t → ctxOf t j.context = x → x.peer = false →
      x.fn = (queueOf t q).fn → x.st = .connected → fieldOwned t x.fn (jobCounter j) = true → jobOf t q j.idx = some i →
      i.opcode ≠ 0x30 → localRange i = some (key, off, len, need) → localOperand t q j.idx key off len need = (u, true) →
      bindingOfQueue u q = none →
      exec (.put q) s = .next (conclude s (pushItem (modJob u q j.idx (fun j => { j with started := true })) q (.job j.idx)))) ∧
    (∀ (j : Job) (t : State) (x : Ctx) (i : Job), running s = true → startable s q 0x02 = some j → j.opcode = 0x02 →
      jobOf s q j.idx = some j → beginJob s q j.idx = t → ctxOf t j.context = x → x.peer = false → x.fn = (queueOf t q).fn →
      x.st = .connected → fieldOwned t x.fn (jobCounter j) = true → jobOf t q j.idx = some i → i.opcode ≠ 0x30 → localRange i = none →
      bindingOfQueue t q = none →
      exec (.putImm q) s = .next (conclude s (pushItem (modJob t q j.idx (fun j => { j with started := true })) q (.job j.idx)))) ∧
    (∀ (j : Job) (t u : State) (x : Ctx) (i : Job) (key off len need : Nat), running s = true → startable s q 0x03 = some j →
      j.opcode = 0x03 → jobOf s q j.idx = some j → beginJob s q j.idx = t → ctxOf t j.context = x → x.peer = false →
      x.fn = (queueOf t q).fn → x.st = .connected → fieldOwned t x.fn (jobCounter j) = true → jobOf t q j.idx = some i →
      i.opcode ≠ 0x30 → localRange i = some (key, off, len, need) → localOperand t q j.idx key off len need = (u, true) →
      bindingOfQueue u q = none →
      exec (.get q) s = .next (conclude s (pushItem (modJob u q j.idx (fun j => { j with started := true })) q (.job j.idx)))) ∧
    (∀ (j : Job) (t : State) (x : Ctx) (i : Job), running s = true → startable s q 0x04 = some j → j.opcode = 0x04 →
      jobOf s q j.idx = some j → beginJob s q j.idx = t → ctxOf t j.context = x → x.peer = false → x.fn = (queueOf t q).fn →
      x.st = .connected → fieldOwned t x.fn (jobCounter j) = true → jobOf t q j.idx = some i → i.opcode ≠ 0x30 → localRange i = none →
      bindingOfQueue t q = none →
      exec (.atomic q) s = .next (conclude s (pushItem (modJob t q j.idx (fun j => { j with started := true })) q (.job j.idx)))) ∧
    (∀ (j : Job) (t u : State) (x : Ctx) (i : Job) (key off len need : Nat), running s = true → startable s q 0x04 = some j →
      j.opcode = 0x04 → jobOf s q j.idx = some j → beginJob s q j.idx = t → ctxOf t j.context = x → x.peer = false →
      x.fn = (queueOf t q).fn → x.st = .connected → fieldOwned t x.fn (jobCounter j) = true → jobOf t q j.idx = some i →
      i.opcode ≠ 0x30 → localRange i = some (key, off, len, need) → localOperand t q j.idx key off len need = (u, true) →
      bindingOfQueue u q = none →
      exec (.atomic q) s = .next (conclude s (pushItem (modJob u q j.idx (fun j => { j with started := true })) q (.job j.idx)))) ∧
    (∀ (j : Job) (t u : State) (x : Ctx) (i : Job) (key off len need : Nat), running s = true → startable s q 0x21 = some j →
      j.opcode = 0x21 → jobOf s q j.idx = some j → beginJob s q j.idx = t → ctxOf t j.context = x → x.peer = false →
      x.fn = (queueOf t q).fn → x.st = .connected → fieldOwned t x.fn (jobCounter j) = true → jobOf t q j.idx = some i →
      i.opcode ≠ 0x30 → localRange i = some (key, off, len, need) → localOperand t q j.idx key off len need = (u, true) →
      bindingOfQueue u q = none →
      exec (.reserveLoad q) s = .next (conclude s (pushItem (modJob u q j.idx (fun j => { j with started := true })) q (.job j.idx)))) ∧
    (∀ (j : Job) (t : State) (x : Ctx) (i : Job), running s = true → startable s q 0x22 = some j → j.opcode = 0x22 →
      jobOf s q j.idx = some j → beginJob s q j.idx = t → ctxOf t j.context = x → x.peer = false → x.fn = (queueOf t q).fn →
      x.st = .connected → fieldOwned t x.fn (jobCounter j) = true → jobOf t q j.idx = some i → i.opcode ≠ 0x30 → localRange i = none →
      bindingOfQueue t q = none →
      exec (.condStore q) s = .next (conclude s (pushItem (modJob t q j.idx (fun j => { j with started := true })) q (.job j.idx)))) ∧
    (∀ (j : Job) (t : State) (fn n : Nat), running s = true → startable s q 0x08 = some j → j.opcode = 0x08 →
      jobOf s q j.idx = some j → modJob (beginJob s q j.idx) q j.idx (fun j => { j with built := true }) = t → (queueOf t q).fn = fn →
      opnd j 128 13 = n → counterOwned t n fn = true → isPaired t = false →
      exec (.counterAdd q) s = .next (conclude s (counterDone (applyCounter t fn n (opnd j 160 32) false) q j.idx))) ∧
    (∀ (j : Job) (t : State) (fn n : Nat), running s = true → startable s q 0x09 = some j → j.opcode = 0x09 →
      jobOf s q j.idx = some j → modJob (beginJob s q j.idx) q j.idx (fun j => { j with built := true }) = t → (queueOf t q).fn = fn →
      opnd j 128 13 = n → counterOwned t n fn = true → isPaired t = false →
      exec (.counterSet q) s = .next (conclude s (counterDone (applyCounter t fn n (opnd j 160 32) true) q j.idx))) ∧
    (∀ (j : Job) (t : State), running s = true → startable s q 0x20 = some j → j.opcode = 0x20 → jobOf s q j.idx = some j →
      (earlierJobs s q j.idx).any (fun k => k.st != .done) = false →
      modJob (beginJob s q j.idx) q j.idx (fun j => { j with built := true }) = t → (queueOf t q).unflushed = [] →
      exec (.barrier q) s = .next (conclude s
        (endBarrier (modJob t q j.idx (fun j => { j with flush := [], status := 0, detail0 := 0 })) q j.idx))) ∧
    (∀ (j : Job) (t : State) (e : Endpoint) (i : Job) (n : Nat), running s = true → startable s q 0x30 = some j → j.opcode = 0x30 →
      jobOf s q j.idx = some j → isRdv s j = false → beginJob s q j.idx = t → isRdv t j = false → liveEp t j.context = some e →
      e.owner = (queueOf s q).fn → fieldOwned t e.owner (jobCounter j) = true → jobOf t q j.idx = some i → localRange i = none →
      i.opcode = 0x30 → slotFor t (sendDest i).1 (sendDest i).2 = some n → bindingOfQueue t q = none →
      exec (.send q) s = .next (conclude s (pushItem (modJob t q j.idx (fun j => { j with started := true })) q (.job j.idx)))) ∧
    (∀ (j : Job) (t u : State) (d e : Endpoint) (r : Recv), running s = true → startable s q 0x31 = some j → j.opcode = 0x31 →
      jobOf s q j.idx = some j → liveEp s j.context = some d → d.waiting = [] →
      (earlierJobs s q j.idx).any (fun k => k.opcode == 0x31 && k.st == .waiting && !k.malformed) = false → beginJob s q j.idx = t →
      liveEp t j.context = some e → e.owner = (queueOf s q).fn → fieldOwned t e.owner (jobCounter j) = true → recvOf q j = r →
      recvBuffer t r = (u, 0) → findUnexp e r = (none, 0) → postedCount u < 262144 → e.posted.length < e.maxPosted →
      exec (.recv q) s = .next (conclude s (doneAtOnce (bump (setEp u j.context
        { e with posted := e.posted ++ [{ r with pseq := e.pseq }], pseq := e.pseq + 1 }) 324) q j.idx))) ∧
    (∀ (j : Job) (t u : State) (g : CarGroup) (o : CarOp), running s = true → startable s q 0x40 = some j → j.opcode = 0x40 →
      jobOf s q j.idx = some j → carGroup s j.context = g → fmFind s.car.groups j.context ≠ none → g.st = .active → g.member = true →
      g.tenant = (queueOf s q).fn → g.queue = q → g.selfLost = false → g.change = none → memberOps g < 2 →
      (earlierJobs s q j.idx).any (fun k => k.opcode == 0x40 && !k.malformed && k.context == j.context && (k.st == .waiting || k.st ==
        .armed)) = false → g.cutTo ≤ g.nextOp → beginJob s q j.idx = t → enterOp t j.context g j.idx = u →
      fieldOwned u g.tenant (jobCounter j) = true → carOp (carGroup u j.context) g.nextOp = some o → o.params = none →
      exec (.collective q) s = .next (conclude s (joinCollective u q j.idx))) ∧
    (∀ (j : Job) (t : State) (x : Channel), running s = true → startable s q 0x50 = some j → j.opcode = 0x50 →
      jobOf s q j.idx = some j → holdsChan s (queueOf s q).fn j.context = true → (chanOf s j.context).queue = q →
      (chanOf s j.context).job = none →
      (earlierJobs s q j.idx).any (fun k => (k.opcode == 0x50 || k.opcode == 0x51) && !k.malformed && k.context == j.context &&
        !k.over) = false → beginJob s q j.idx = t → chanOf t j.context = x → fieldOwned t (queueOf s q).fn (jobCounter j) = true →
      exec (.moverStart q) s = .next (conclude s (setChan (bump t 351) j.context (runningChannel x j.idx false (opnd j 160 48))))) ∧
    (∀ (j : Job) (t : State) (x : Channel), running s = true → startable s q 0x51 = some j → j.opcode = 0x51 →
      jobOf s q j.idx = some j → holdsChan s (queueOf s q).fn j.context = true → (chanOf s j.context).queue = q →
      (chanOf s j.context).job = none →
      (earlierJobs s q j.idx).any (fun k => (k.opcode == 0x50 || k.opcode == 0x51) && !k.malformed && k.context == j.context &&
        !k.over) = false → beginJob s q j.idx = t → chanOf t j.context = x → fieldOwned t (queueOf s q).fn (jobCounter j) = true →
      exec (.moverChain q) s = .next (conclude s (setChan (bump t 352) j.context (runningChannel x j.idx true (opnd j 160 48))))) ∧
    (∀ (j : Job) (t : State), running s = true → startable s q 0x52 = some j → j.opcode = 0x52 → jobOf s q j.idx = some j →
      beginJob s q j.idx = t → holdsChan t (queueOf t q).fn j.context = true →
      exec (.moverAppend q) s = .next (conclude s (doneAtOnce (appendTo t j.context) q j.idx)))

/-- ARMED_JOB_RELEASE, HEAD_INDEX_PUBLISH, ERROR_RING_REREAD, EVENT_RING_REREAD, MSIX_MESSAGE, FAULT_RING_REREAD, RECEIVE_RING_REREAD and
LOCAL_TIMEOUT, when they are due on a running device, have the effect that their rules give (R221, R224, R237, R238, R296, R300, R366,
R398). -/
def Obligations.QueueAndRingEventsComplete : Prop :=
  ∀ (s : State),
    (∀ (q k h : Nat) (idx : Idx) (l : List Armed) (j : Job), running s = true →
      s.ctx.armed = { q := q, idx := idx, counter := k, threshold := h, released := true } :: l → jobOf s q idx = some j →
      canStart s q j = true → exec (.armedJobRelease q idx) s = .next (conclude s (startJob s q idx j.opcode))) ∧
    (∀ (q : Nat) (x : Queue) (p : List Job) (j : Job) (head : Idx), running s = true → queueOf s q = x → passable x = p →
      p.getLast? = some j → canAccess s x.fn = true → j.idx + BitVec.ofNat 32 j.entries.length = head →
      exec (.headIndexPublish q) s = .next (conclude s (completionEvents (hostWrite (setQueue s q
        { x with head := head, jobs := x.jobs.drop p.length }) x.fn x.headAddr (leBytes 4 head.toNat)) q x p))) ∧
    (∀ (q : Nat) (x : Queue) (t : State), running s = true → queueOf s q = x → (x.st = .blocked ∨ x.waiting ≠ []) →
      setQueue (x.waiting.foldl (putStatus q) s) q { x with waiting := x.waiting.map (statusPut s q) } = t →
      exec (.errorRingReread q) s = .next (conclude s (writeWaiting (rereadErr t q) q (queueOf t q).waiting))) ∧
    (∀ (fn ring : Nat) (r : EvRing) (t : State) (o : EvRing), running s = true → fmFind s.rings.rings (evKey fn ring) = some r →
      fmGet s.rings.marks (evKey fn ring) [] ≠ [] → canAccess s fn = true → rereadEv s (evKey fn ring) r = (t, o) →
      exec (.eventRingReread fn ring) s = .next (conclude s (flushMarks t (evKey fn ring) (fmGet t.rings.marks (evKey fn ring) [])))) ∧
    (∀ (fn ring : Nat) (r : EvRing) (t : State) (v : MsixVec), running s = true → fmFind s.rings.rings (evKey fn ring) = some r →
      r.msgDue = true → r.lastMsg = none → canAccess s fn = true → (fnOf s fn).msixEn = true → (fnOf s fn).fnMask = false →
      fmGet (fnOf s fn).vectors r.vector {} = v → v.masked = false →
      setRing (pushWrites s fn) (evKey fn ring) { r with msgDue := false, lastMsg := some (now s) } = t →
      exec (.msixMessage fn ring) s = .next (conclude s (bump
        { t with hif := { t.hif with msgs := t.hif.msgs ++ [(fn, r.vector, v.addr, v.data)] } } (hifCounter t fn 5)))) ∧
    (∀ (fn ring : Nat) (r : EvRing), running s = true → fmFind s.rings.rings (evKey fn ring) = some r → r.msgDue = true →
      r.lastMsg = none → canAccess s fn = true →
      (!(fnOf s fn).msixEn || (fnOf s fn).fnMask || (fmGet (fnOf s fn).vectors r.vector {}).masked) = true →
      exec (.msixMessage fn ring) s = .next (conclude s
        (setFn (setRing s (evKey fn ring) { r with msgDue := false, msgPend := true }) fn (fun f =>
            { f with pend := withMember f.pend r.vector })))) ∧
    (∀ (fn : Nat), running s = true → s.xlt.stalls.any (fun x => x.fn == fn && x.seq.isNone) = true →
      exec (.faultRingReread fn) s = .next (conclude s (writeStalls (rereadFault s fn) fn (rereadFault s fn).xlt.stalls))) ∧
    (∀ (ep : Nat) (e d : Endpoint), running s = true → liveEp s ep = some e → e.waiting ≠ [] → liveEp (rereadRecv s ep e) ep = some d →
      exec (.receiveRingReread ep) s = .next (conclude s (writeRecvs (rereadRecv s ep e) ep d.waiting))) ∧
    (∀ (q : Nat) (idx : Idx) (x : Stall), running s = true →
      s.xlt.stalls.find? (fun x => x.seq.isSome && stallJob s x == some (q, idx) && decide (now s ≥ x.since + max s.xlt.localTimeout 1
        * 1000000)) = some x → exec (.localTimeout q idx) s = .next (conclude s (failStall s x stTranslation)))

/-- PAGE_PENDING_RESEND, RETRANSMIT_TIMEOUT, ACK_SEND, FENCED_HOLD_EXPIRY, PEER_IDLE_EXPIRY, CONTEXT_QUARANTINE_END, ENDPOINT_QUARANTINE_END,
HANDLE_QUARANTINE_END, EJECTION_RESERVE_TIMEOUT and RESERVATION_EXPIRY, when they are due on a running device, have the effect that their
rules give (R229, R298, R330, R336, R350, R351, R358, R363, R404, R439). -/
def Obligations.ConnectionTimersComplete : Prop :=
  ∀ (s : State) (c : Nat),
    (∀ (psn : Psn) (x : Ctx) (u : Unans) (t : Nat), running s = true → ctxOf s c = x → x.st = .connected → unansOf s c psn = some u →
      u.resendAt = some t → t ≤ now s → u.queued = false →
      exec (.pagePendingResend c psn) s = .next (conclude s (modUnans (sendAgain s c u) c psn (fun u => { u with counts := false })))) ∧
    (∀ (psn : Psn) (x : Ctx) (u : Unans), running s = true → ctxOf s c = x → peerFenced s x = false → x.st = .connected →
      unansOf s c psn = some u → u.timer = true → u.queued = false → u.resendAt = none → now s ≥ u.last + retryWait x u.sends →
      u.sends ≤ x.retryMax →
      exec (.retransmitTimeout c psn) s = .next (conclude s
        (sendAgain (bump (modCtx s c (fun x => { x with retx := x.retx + 1 })) 300) c u))) ∧
    (∀ (psn : Psn) (x : Ctx) (u : Unans), running s = true → ctxOf s c = x → peerFenced s x = false → x.st = .connected →
      unansOf s c psn = some u → u.timer = true → u.queued = false → u.resendAt = none → now s ≥ u.last + retryWait x u.sends →
      u.sends > x.retryMax → exec (.retransmitTimeout c psn) s = .next (conclude s (ctxError (bump s 306) c 1))) ∧
    (∀ (x : Ctx) (a : PendAck) (more l : List PendAck) (base : Psn), running s = true → ctxOf s c = x → x.acks = a :: more →
      s.ctx.ackDelay ≠ 0 → ackBase (x.acks.filter (fun b => b.late == a.late && b.fn == a.fn)) = some base → ackedBy s x a base = l →
      exec (.ackSend c) s = .next (conclude s (pushReply (setCtx s c
        { x with acks := x.acks.filter (fun b => !l.contains b), used := now s }) (fnPort s a.fn) a.fn
        { rt := routeTo s x.pPlane x.pCoord 1 0 0, tt := .conn (mergedAck c x a base l) }))) ∧
    (∀ (x : Ctx) (t : Nat), running s = true → ctxOf s c = x → x.heldFrom = some t → now s ≥ t + 100000 → peerFenced s x = true →
      exec (.fencedHoldExpiry c) s = .next (conclude s (ctxError s c 2))) ∧
    (∀ (x : Ctx), running s = true → ctxOf s c = x → x.st = .connected → x.peer = true → slotBusy s c = false →
      now s ≥ x.used + max 1 s.ctx.peerIdle * 1000000 →
      exec (.peerIdleExpiry c) s = .next (conclude s (pushMaint (setCtx s c
        { x with st := .closing, opens := 0, openNaks := 0, openAt := now s }) (fnPort s 0) (.close c)))) ∧
    (∀ (x : Ctx), running s = true → ctxOf s c = x → x.st = .quarantine → now s ≥ x.since + 4000000 →
      exec (.contextQuarantineEnd c) s = .next (conclude s (setCtx s c { st := .free, inc := x.inc, since := now s }))) ∧
    (∀ (e : Endpoint), running s = true → fmFind s.cat.eps c = some e → e.live = false → now s ≥ e.since + 4000000 →
      exec (.endpointQuarantineEnd c) s = .next (conclude s { s with cat := { s.cat with eps := fmErase s.cat.eps c } })) ∧
    (∀ (g : CarGroup), running s = true → fmFind s.car.groups c = some g → g.st = .quarantine → now s ≥ g.since + 4000000 →
      exec (.handleQuarantineEnd c) s = .next (conclude s { s with car := { s.car with groups := fmErase s.car.groups c } })) ∧
    (∀ (psn : Psn) (t : Nat) (l : List (Nat × Psn × Nat)), running s = true → s.ctx.kept = (c, psn, t) :: l → t + 4000000 ≤ now s →
      l.all (fun k => !(k.1 == c && k.2.1 == psn)) = true →
      exec (.ejectionReserveTimeout c psn) s = .next (conclude s { s with ctx := { s.ctx with kept := l } })) ∧
    (∀ (g : Nat) (r : Rsv) (l : List Rsv), running s = true → s.pal.rsvs = r :: l → r.addr = g → rsvLive s r = false →
      l.all (fun r => r.addr != g) = true →
      exec (.reservationExpiry g) s = .next (conclude s { s with pal := { s.pal with rsvs := l } }))

/-- A new PUT, STRIKE_PUT, GET, ATOMIC, RESERVE_LOAD, COND_STORE, FLUSH or SKIP of an open connection, whose function takes requests, whose
access is allowed and whose reads succeed, does what its rules say and is answered (R112, R313, R320, R327, R328, R342, R343, R356). -/
def Obligations.RequestsTakeEffectAtTheTarget : Prop :=
  ∀ (s : State) (p : Packet),
    (∀ (h : ConnHdr) (fn : Nat) (t : State) (u : State) (ps : List Piece), p.tt = .conn h → h.ttype = 0x01 →
      NewRequest s p (connIds h) fn t → granuleWaits s p h = false → remoteAccess t fn 2 h = (u, .ok ps true) → h.rcntEn = false →
      exec (.putArrival p) s = .next (conclude s (ackPoint (tapDlv (issuePieces u
        { fn, ctx := some h.dstCtx, psn := h.psn, region := h.key / 256, addr := 0, relaxed := (fnOf u fn).relaxed }
        ps (padTo h.length p.payload)) fn 1 p.payload.length) fn h.dstCtx h.psn true false))) ∧
    (∀ (h : ConnHdr) (fn : Nat) (t : State) (u v : State) (ps : List Piece), p.tt = .conn h → h.ttype = 0x01 →
      NewRequest s p (connIds h) fn t → granuleWaits s p h = false → remoteAccess t fn 2 h = (u, .ok ps false) →
      visible (writePieces u fn ps (padTo h.length p.payload)) fn ps = (v, true) →
      exec (.putArrival p) s = .next (conclude s
        (ackPoint (tapDlv (advanceRcnt v fn h) fn 1 p.payload.length) fn h.dstCtx h.psn false false))) ∧
    (∀ (h : ConnHdr) (fn : Nat) (t : State) (u v : State) (ps : List Piece), p.tt = .conn h → h.ttype = 0x02 →
      NewRequest s p (connIds h) fn t → granuleWaits s p h = false → remoteAccess t fn 2 h = (u, .ok ps false) →
      visible (writePieces u fn ps (padTo h.length p.payload)) fn ps = (v, true) →
      exec (.strikePutArrival p) s = .next (conclude s
        (ackPoint (tapDlv (advanceRcnt v fn h) fn 1 p.payload.length) fn h.dstCtx h.psn false (p.rt.cls = 0)))) ∧
    (∀ (h : ConnHdr) (fn : Nat) (t : State) (u v : State) (ps : List Piece) (e : Bool) (l : List Byte), p.tt = .conn h →
      h.ttype = 0x03 → NewRequest s p (connIds h) fn t → remoteAccess t fn 1 h = (u, .ok ps e) → readPieces u fn ps = (v, some l) →
      exec (.getArrival p) s = .next (conclude s
        (finalReply (advanceRcnt v fn h) fn h.dstCtx h.psn false (replyTo v p (connIds h) (getDataHdr h l.length) l)))) ∧
    (∀ (h : ConnHdr) (fn : Nat) (t : State) (u v w : State) (ps : List Piece) (e : Bool) (l : List Byte) (n : Nat), p.tt = .conn h →
      h.ttype = 0x04 → NewRequest s p (connIds h) fn t → granuleWaits s p h = false →
      remoteAccess t fn 3 { h with length := 8 } = (u, .ok ps e) → readPieces u fn ps = (v, some l) → isPaired v = false →
      atomicNew h.aop (leNat l) h.operand0 h.operand1 = n → n ≠ leNat l →
      visible (writePieces (clearGranule v (granule ps)) fn ps (leBytes 8 n)) fn ps = (w, true) → ctxFn v h.dstCtx = fn →
      exec (.atomicArrival p) s = .next (conclude s
        (cachedReply (advanceRcnt w fn h) p (connIds h) fn (dataHdr h.psn (leNat l)) false))) ∧
    (∀ (h : ConnHdr) (fn : Nat) (t : State) (u v : State) (ps : List Piece) (e : Bool) (l : List Byte), p.tt = .conn h →
      h.ttype = 0x05 → NewRequest s p (connIds h) fn t → granuleWaits s p h = false →
      remoteAccess t fn 1 { h with length := 8 } = (u, .ok ps e) → readPieces u fn ps = (v, some l) →
      exec (.reserveLoadArrival p) s = .next (conclude s
        (cachedReply (advanceRcnt (setReservation v p h fn (granule ps) (leNat l)) fn h) p (connIds h) fn (dataHdr h.psn (leNat l))
            false))) ∧
    (∀ (h : ConnHdr) (fn : Nat) (t : State) (u : State) (ps : List Piece) (e : Bool), p.tt = .conn h → h.ttype = 0x06 →
      NewRequest s p (connIds h) fn t → granuleWaits s p h = false → remoteAccess t fn 2 { h with length := 8 } = (u, .ok ps e) →
      u.pal.rsvs.filter (fun r => r.addr == granule ps && rsvLive u r) = [] →
      exec (.condStoreArrival p) s = .next (conclude s (loseReservation u p h (granule ps) 1 0))) ∧
    (∀ (h : ConnHdr) (fn : Nat) (t : State) (u v : State) (ps : List Piece) (e : Bool) (r : Rsv) (l : List Byte), p.tt = .conn h →
      h.ttype = 0x06 → NewRequest s p (connIds h) fn t → granuleWaits s p h = false →
      remoteAccess t fn 2 { h with length := 8 } = (u, .ok ps e) →
      u.pal.rsvs.filter (fun r => r.addr == granule ps && rsvLive u r) = [r] → r.senior = true →
      holderIs u p h r.coord r.plane r.ctx r.inc = true → readPieces u fn ps = (v, some l) → leNat l = r.value → isPaired v = false →
      exec (.condStoreArrival p) s = .next (conclude s (storeReserved p h ps v))) ∧
    (∀ (h : ConnHdr) (fn : Nat) (t : State) (u : State), p.tt = .conn h → h.ttype = 0x07 → NewRequest s p (connIds h) fn t →
      declareIssued t (fun e => e.fn == fn && e.ctx == some h.dstCtx) = (u, true) →
      exec (.flush p) s = .next (conclude s
        (finalReply u fn h.dstCtx h.psn false (replyTo u p (connIds h) { ttype := 0x14, psn := h.psn } [])))) ∧
    (∀ (h : ConnHdr) (fn : Nat) (t : State) , p.tt = .conn h → h.ttype = 0x08 → NewRequest s p (connIds h) fn t →
      bitAt h.offset 24 = false →
      exec (.skip p) s = .next (conclude s (ackPoint (unpark t p h.dstCtx h.psn) fn h.dstCtx h.psn false false)))

/-- ACK, NAK, GET_DATA, ATOMIC_DATA and FLUSH_DONE that answer a sent packet of an open connection, and PEER_OPEN, PEER_CLOSE, PEER_OPEN_ACK
and PEER_CLOSE_ACK, do what their rules say (R320, R322, R344, R349, R350, R352, R362, R363). -/
def Obligations.RepliesAndSlotPacketsTakeEffect : Prop :=
  ∀ (s : State) (p : Packet),
    (∀ (h : ConnHdr) (c : Nat) (t : State) , h.ttype = 0x10 → NewReply s p h (ownerFn s h.dstCtx) t → h.dstCtx = c →
      exec (.ack p) s = .next (conclude s
        (fastRetransmit ((ackedPsns h).foldl (acked c (h.status = stStrikeLate)) t) c (newlyAcked t c h)))) ∧
    (∀ (h : ConnHdr) (c : Nat) (t : State) (u : Unans) (v : State), h.ttype = 0x11 → NewReply s p h (ownerFn s h.dstCtx) t →
      h.dstCtx = c → unansOf t c h.psn = some u → releaseKept t c h.psn = v → (h.status = stPagePending ∨ h.status = stNoResource) →
      u.naks < 31 → u.pageNaks < 31 → exec (.nak p) s = .next (conclude s (waitResend (bump v 305) c u (h.status = stPagePending)))) ∧
    (∀ (h : ConnHdr) (c : Nat) (t : State) (u : Unans) (v : State), h.ttype = 0x11 → NewReply s p h (ownerFn s h.dstCtx) t →
      h.dstCtx = c → unansOf t c h.psn = some u → releaseKept t c h.psn = v → h.status ≠ stPagePending → h.status ≠ stNoResource →
      h.status ≠ stDestFenced →
      exec (.nak p) s = .next (conclude s (packetFailed (roundTrip v c u) c u h.status h.operand0 h.operand1))) ∧
    (∀ (h : ConnHdr) (c : Nat) (t : State) (v w : State) (u : Unans) (q : Nat) (idx : Idx) (j : Job), h.ttype = 0x12 →
      NewReply s p h (answerFn s h.dstCtx h.psn) t → h.dstCtx = c → releaseKept t c h.psn = v → unansOf v c h.psn = some u →
      u.skip = false → u.job = some (q, idx) → jobOf v q idx = some j → ttypeOf u.pkt.tt = 0x03 →
      writeLocal v p c u q idx (opnd j 128 32) (opnd j 160 48 + u.off) p.payload false = (w, true) →
      exec (.getData p) s = .next (conclude s (answered w c u q idx))) ∧
    (∀ (h : ConnHdr) (c : Nat) (t : State) (v w : State) (u : Unans) (q : Nat) (idx : Idx) (j : Job), h.ttype = 0x13 →
      NewReply s p h (answerFn s h.dstCtx h.psn) t → h.dstCtx = c → releaseKept t c h.psn = v → unansOf v c h.psn = some u →
      u.skip = false → u.job = some (q, idx) → jobOf v q idx = some j → ttypeOf u.pkt.tt = 0x04 → opnd j 128 32 / 256 ≠ 0 →
      writeLocal v p c u q idx (opnd j 128 32) (opnd j 160 48) (leBytes 8 h.operand0) false = (w, true) →
      exec (.atomicData p) s = .next (conclude s (answered w c u q idx))) ∧
    (∀ (h : ConnHdr) (c : Nat) (t : State) (u : Unans) (q : Nat) (idx : Idx), h.ttype = 0x14 →
      NewReply s p h (answerFn s h.dstCtx h.psn) t → h.dstCtx = c → unansOf t c h.psn = some u → u.skip = false →
      u.job = some (q, idx) → ttypeOf u.pkt.tt = 0x07 → h.status = stOk →
      exec (.flushDone p) s = .next (conclude s (flushOver (dropUnans (roundTrip (unqueue t c u) c u) c u.psn) q idx c 0))) ∧
    (∀ (h : ConnHdr) (t : State) (c : Nat), running s = true → p.tt = .conn h → h.ttype = 0x09 → consume s p = t →
      slotFor t (srcPlane t p) p.rt.src = none → freeContext t = some c →
      exec (.peerOpen p) s = .next (conclude s
        (slotReply (takeContext t c (openedSlot t p h)) p h 0x15 stOk c (ctxOf (takeContext t c (openedSlot t p h)) c).inc))) ∧
    (∀ (h : ConnHdr) (t : State) (c : Nat) (x : Ctx), running s = true → p.tt = .conn h → h.ttype = 0x09 → consume s p = t →
      slotFor t (srcPlane t p) p.rt.src = some c → ctxOf t c = x → x.st = .opening →
      exec (.peerOpen p) s = .next (conclude s (slotReply (setCtx t c (boundSlot t x h)) p h 0x15 stOk c x.inc))) ∧
    (∀ (h : ConnHdr) (t : State) (x : Ctx), running s = true → p.tt = .conn h → h.ttype = 0x0A → consume s p = t →
      ctxOf t h.dstCtx = x → x.st = .connected → slotMatches t p h x = true → h.srcCtx = x.pCtx → h.srcInc = x.pInc →
      slotBusy t h.dstCtx = false → x.e.toNat = field h.offset 0 24 →
      exec (.peerClose p) s = .next (conclude s (quarantine (slotReply t p h 0x16 stOk h.dstCtx x.inc) h.dstCtx))) ∧
    (∀ (h : ConnHdr) (t : State) (x : Ctx), running s = true → p.tt = .conn h → h.ttype = 0x15 → consume s p = t →
      ctxOf t h.dstCtx = x → x.st = .opening → slotMatches t p h x = true → h.status = stOk →
      exec (.peerOpenAck p) s = .next (conclude s (setCtx t h.dstCtx (boundSlot t x h)))) ∧
    (∀ (h : ConnHdr) (t : State) (x : Ctx), running s = true → p.tt = .conn h → h.ttype = 0x16 → consume s p = t →
      ctxOf t h.dstCtx = x → x.st = .closing → slotMatches t p h x = true → h.srcCtx = x.pCtx → h.srcInc = x.pInc → h.status = stOk →
      exec (.peerCloseAck p) s = .next (conclude s (reopenSlot (quarantine t h.dstCtx) x.pPlane x.pCoord)))

/-- MSG_EAGER and MSG_RTS in message order are matched to a posted receive or buffered at their endpoint; MSG_RDV_GET is answered from the
SEND's range; MSG_FIN completes the SEND; a parked match packet commits in its turn; an ended delivery is recorded (R384, R386, R388,
R389, R390, R392, R397). -/
def Obligations.MessagePacketsTakeEffect : Prop :=
  ∀ (s : State),
    (∀ (h : MsgHdr) (t : State) (p : Packet) (e : Endpoint) (r : Recv), h.ttype = 0x30 →
      NewMessage s p h (msgGate s h.dstEp).1 (msgGate s h.dstEp).2 t → msgEndpoint t h.dstEp = some e → h.seg = 0 →
      h.msn = (ctxOf t h.dstCtx).expMsn → e.waiting = [] → wildExamined e (msgOf t p h) = 0 → findRecv e (msgOf t p h) = some r →
      (msgOf t p h).rdv = false → exec (.msgEager p) s = .next (conclude s (matchEager t p h e r (msgOf t p h) (now t)))) ∧
    (∀ (h : MsgHdr) (t : State) (p : Packet) (e : Endpoint) (x : Unexp), h.ttype = 0x30 →
      NewMessage s p h (msgGate s h.dstEp).1 (msgGate s h.dstEp).2 t → msgEndpoint t h.dstEp = some e → h.seg = 0 →
      h.msn = (ctxOf t h.dstCtx).expMsn → e.waiting = [] → wildExamined e (msgOf t p h) = 0 → findRecv e (msgOf t p h) = none →
      (msgOf t p h).rdv = false → storeFull t h.dstEp e (msgOf t p h) = false →
      { msg := msgOf t p h, data := (padTo h.length p.payload).take (msgOf t p h).len,
        missing := if (msgOf t p h).twoSeg then 1 else 0 } = x →
      exec (.msgEager p) s = .next (conclude s (ackPoint (tapDlv (noteStore (commit (bump (setEp t h.dstEp
        { e with unexp := e.unexp ++ [x] }) 332) h (now t))) e.owner 1 p.payload.length) e.owner h.dstCtx h.psn false false))) ∧
    (∀ (h : MsgHdr) (t : State) (p : Packet) (e : Endpoint) (r : Recv) (u : State) (id : Nat), h.ttype = 0x31 →
      NewMessage s p h (msgGate s h.dstEp).1 (msgGate s h.dstEp).2 t → msgEndpoint t h.dstEp = some e →
      h.msn = (ctxOf t h.dstCtx).expMsn → e.waiting = [] → wildExamined e (msgOf t p h) = 0 → findRecv e (msgOf t p h) = some r →
      newDelivery (commit (bump (bump (setEp t h.dstEp { e with posted := e.posted.erase r }) 325) 331) h (now t)) h.dstEp r (msgOf t p
        h) false = (u, id) →
      exec (.msgRts p) s = .next (conclude s
        (ackPoint (tapDlv (runRdv u id) e.owner 1 p.payload.length) e.owner h.dstCtx h.psn false false))) ∧
    (∀ (h : MsgHdr) (t : State) (p : Packet) (r : RdvSend) (j : Job) (fn : Nat) (u : State) (l : List Byte), h.ttype = 0x32 →
      NewMessage s p h (rdvOwner s h) (rdvGate s h) t → rdvSend t h.dstCtx h.rdvId = some (r, j) → rdvOwner t h = fn →
      h.moff + h.length ≤ opnd j 224 32 → readSrc t (srcPart (jobSrc r.q j) h.moff h.length) = (u, .bytes l) →
      exec (.msgRdvGet p) s = .next (conclude s
        (finalReply (tapDlv u fn 1 p.payload.length) fn h.dstCtx h.psn false (replyTo (tapDlv u fn 1 p.payload.length) p (msgIds h)
            (rdvDataHdr h l.length) l)))) ∧
    (∀ (h : MsgHdr) (t : State) (p : Packet) (u : State) (r : RdvSend) (j : Job), h.ttype = 0x33 →
      NewMessage s p h (rdvOwner s h) .takes t → h.result = 0 → ackPoint t (rdvOwner t h) h.dstCtx h.psn false false = u →
      rdvSend u h.dstCtx h.rdvId = some (r, j) →
      exec (.msgFin p) s = .next (conclude s
        (completeJob (freeRdv (modJob (tapDlv u (queueOf u r.q).fn 1 p.payload.length) r.q r.idx (fun j => { j with rdvId := none }))
            r.q r.idx) r.q r.idx))) ∧
    (∀ (c since : Nat) (msn : Psn) (p : Packet) (h : MsgHdr) (t : State) (e : Endpoint), running s = true →
      s.cat.parked = [(since, p)] → p.tt = .msg h → h.dstCtx = c → h.msn = msn → (h.ttype = 0x31 ∨ h.seg = 0) →
      h.msn = (ctxOf s c).expMsn → h.dstInc = (ctxOf s c).inc → (ctxOf s c).st = .connected →
      { s with cat := { s.cat with parked := [] } } = t → msgEndpoint t h.dstEp = some e →
      exec (.parkedPacketCommit c msn) s = .next (conclude s (commitPacket t p h e since))) ∧
    (∀ (ep id : Nat) (d : Delivery) (e e2 : Endpoint) (t : State), running s = true →
      s.cat.deliveries.find? (fun d => d.ep == ep && d.ended && !d.recorded) = some d → d.id = id → liveEp s ep = some e →
      rereadRecv (setEp (closeDelivery s d) ep { e with waiting := e.waiting ++ [receiveRecord d] }) ep e = t → liveEp t ep = some e2 →
      exec (.deliveryEnd ep id) s = .next (conclude s (writeRecvs t ep e2.waiting)))

/-- CAR_UP, CAR_DOWN, CAR_ACK, CAR_END and CAR_SLOT that arrive over an edge of their tree for an operation that has not ended have the
effect that their rules give (R411, R412, R417, R419, R423, R429). -/
def Obligations.CarillonPacketsTakeEffect : Prop :=
  ∀ (s : State),
    (∀ (port : Nat) (p : Packet) (hd : CarHdr) (n : Nat) (t : State) (k : Nat), NewCarPacket s p hd 0x40 (isChild port) n t →
      fullOp (carGroup t n) hd.opnum = k → opEnded (carGroup t n) k = false → hd.op ≠ 0 →
      exec (.carUp port p) s = .next (conclude s
        (freeCarSlot (addPartial (openOp t n hd.tepoch k) n k port hd p.payload) n hd.tepoch port 6))) ∧
    (∀ (port : Nat) (p : Packet) (hd : CarHdr) (n : Nat) (t : State) (k id : Nat) (u v : State) (o : CarOp), NewCarPacket s p hd 0x41
        (isParent port) n t → fullOp (carGroup t n) hd.opnum = k → opEnded (carGroup t n) k = false → hd.op ≠ 0 → hd.pktCount = 1 →
      modOp (openOp t n hd.tepoch k) n k (fun o =>
        { o with params := some (o.params.getD (hdrParams hd)), down := fmSet o.down hd.pktIndex p.payload }) = u →
      carOp (carGroup u n) k = some o → newHold u n hd.tepoch port 7 = (v, id) →
      exec (.carDown port p) s = .next (conclude s (modOp v n k (fun x =>
        { x with final := some (hd.status, hd.contrib, true, o.down.map (·.2)), hold := some id })))) ∧
    (∀ (port : Nat) (p : Packet) (hd : CarHdr) (n : Nat) (t : State) (u : State) (k : Nat), NewCarPacket s p hd 0x42 (isChild port) n t
        → freeCarSlot t n hd.tepoch port 6 = u → fullOp (carGroup t n) hd.opnum = k → opEnded (carGroup u n) k = false →
      exec (.carAck port p) s = .next (conclude s
        (modOp (openOp u n hd.tepoch k) n k (fun o =>
            { o with params := some (o.params.getD (hdrParams hd)), acks := fmSet o.acks port hd.contrib })))) ∧
    (∀ (port : Nat) (p : Packet) (hd : CarHdr) (n : Nat) (t : State) (k id : Nat) (u : State), NewCarPacket s p hd 0x43 (isParent port)
        n t → fullOp (carGroup t n) hd.opnum = k → opEnded (carGroup t n) k = false →
      newHold (openOp t n hd.tepoch k) n hd.tepoch port 7 = (u, id) →
      exec (.carEnd port p) s = .next (conclude s (modOp u n k (fun o =>
        { o with
          params := some (o.params.getD (hdrParams hd)),
          final := some (hd.status, hd.contrib, false, []),
          hold := some id,
          dead := o.dead || (hd.op == 0 && !dataPassed o) })))) ∧
    (∀ (port : Nat) (p : Packet) (hd : CarHdr) (n : Nat) (t : State) , NewCarPacket s p hd 0x44 (fun t => isChild port t || isParent
        port t) n t →
      exec (.carSlot port p) s = .next (conclude s
        (modCar t n (fun g => { g with used := fmModify g.used (hd.tepoch * 16 + port) 0 (· - 1) }))))

/-- TREE_INSTALL, TREE_READY_REPORT, TREE_EPOCH_SWITCH, TREE_EPOCH_RETIRE, TREE_READY_TIMEOUT, GROUP_JOIN, GROUP_CREATE_TIMEOUT and
DESTROY_FLOOD, when they are due on a running device, have the effect that their rules give (R434, R435, R437, R439, R446). -/
def Obligations.TreeEpochEventsComplete : Prop :=
  ∀ (s : State),
    (∀ (m : TreeInstall) (n k : Nat) (t : State), running s = true → carHandle s m.group = some n → stageTree s n m = .ready t k →
      m.root ≠ s.mvt.coord → t.mvt.coord = s.mvt.coord →
      exec (.treeInstall m) s = .next (conclude s (sendCur t (some m.root) (.treeReady
        { group := m.group, epoch := m.epoch, coord := s.mvt.coord, highest := k })))) ∧
    (∀ (r : TreeReport) (m m2 : TreeMaster) (k d : Nat) (t u : State), running s = true → fmFind s.car.masters r.group = some m →
      r.epoch = m.install.epoch → m.flooded = false → r.refused = false → r.rebuild = false →
      { m with reports := m.reports.filter (fun x => x.coord != r.coord) ++ [r] } = m2 →
      m2.vertices.all (fun v => m2.reports.any (fun x => linearOf s x.coord == v)) = true → firstOp r.epoch m2.reports = k →
      { s with car := { s.car with masters := fmSet s.car.masters r.group { m2 with flooded := true } } } = t → draw t = (d, u) →
      exec (.treeReadyReport r) s = .next (conclude s
        (treeTimes (sendCur u none (.flood (.tree r.group r.epoch k (stamp s + 200000 + d)))) r.group r.epoch k (stamp s + 200000 +
            d)))) ∧
    (∀ (r : TreeReport) (n : Nat), running s = true → r.rebuild = true → carHandle s r.group = some n →
      exec (.treeReadyReport r) s = .next (conclude s (startTreeChange s n (currentBank s).map))) ∧
    (∀ (n t : Nat) (g : CarGroup) (c : TreeChange), running s = true → carGroup s n = g → g.change = some c → c.t = some t →
      stamp s ≥ t → exec (.treeEpochSwitch n) s = .next (conclude s (switchTree s n g c))) ∧
    (∀ (n : Nat) (g : CarGroup), running s = true → carGroup s n = g → g.oldLive = true → now s ≥ g.switchedAt + 2000040 →
      oldOver g = true → g.bit = 1 → g.tree1 ≠ none → g.again = false →
      exec (.treeEpochRetire n) s = .next (conclude s (setCar s n
        { g with
          oldLive := false,
          tree0 := none,
          sends := g.sends.filter (fun x => x.bank != 0),
          used := g.used.filter (fun kv => kv.1 / 16 != 0),
          holds := g.holds.filter (fun kv => kv.2.bank != 0) }))) ∧
    (∀ (id n : Nat) (m : TreeMaster) (l : List Nat) (t : State), running s = true → fmFind s.car.masters id = some m →
      m.flooded = false → now s ≥ m.start + createTicks s → m.install.epoch ≠ 1 →
      m.vertices.filter (fun v => !m.reports.any (fun x => linearOf s x.coord == v)) = l →
      sendCur { s with car := { s.car with masters := fmErase s.car.masters id } } none (.flood (.treeDropped id m.install.epoch)) = t
        → carHandle t id = some n →
      exec (.treeReadyTimeout id) s = .next (conclude s (startTreeChange (modCar t n (fun g => { g with change := none })) n
        (silentMap t m l)))) ∧
    (∀ (j : JoinReport), running s = true → createOf s j.group = none →
      exec (.groupJoin j) s = .next (conclude s
        { s with car := { s.car with joins := s.car.joins.filter (fun x => !(x.group == j.group && x.rank == j.rank)) ++ [j] } })) ∧
    (∀ (fn : Nat) (c : CarCreate) (x : Cmd) (t u : State), running s = true → fmFind s.car.creates fn = some c →
      (admOf s fn).cmd = some x → x.wait = .groupEpoch c.join.group → now s ≥ x.tTaken + createTicks s →
      wakeCmds s (fun f w => f == fn && w == .groupEpoch c.join.group) stTimeout [] = t →
      (if (fmFind t.car.masters c.join.group).isSome then sendCur t none (.flood (.treeDropped c.join.group 1)) else t) = u →
      carHandle u c.join.group = none →
      exec (.groupCreateTimeout fn) s = .next (conclude s
        { u with
          car := { u.car with
              creates := fmErase u.car.creates fn,
              joins := u.car.joins.filter (fun j => j.group != c.join.group),
              masters := fmErase u.car.masters c.join.group } })) ∧
    (∀ (id n : Nat), running s = true → carHandle s id = some n →
      exec (.destroyFlood id) s = .next (conclude s (spreadDestroy (destroyHere s n) (carGroup s n))))

/-- MOVE, MOVE_CHECKED, LOOP, WAIT, SIGNAL, FENCE and END, when a channel executes them, have the effect that their rules give (R454 to R464). -/
def Obligations.MoveInstructionsComplete : Prop :=
  ∀ (s : State),
    (∀ (ch : Nat) (j : Job) (l : List Byte) (t : State) (x : Channel) (k : Job) (sk sb dk db n : Nat) (src dst : Int), Fetches s ch j l
        t → field (leNat l) 0 8 = 1 → chanOf t ch = x → chanJob t ch = some k → slotKey k (field (leNat l) 8 2) = (sk, sb) →
      slotKey k (field (leNat l) 10 2) = (dk, db) → moveOffset x sb (field (leNat l) 16 40) (field (leNat l) 12 4) true = src →
      moveOffset x db (field (leNat l) 56 40) (field (leNat l) 12 4) false = dst → field (leNat l) 96 32 = n → moveFits src n = true →
      moveFits dst n = true → n ≠ 0 →
      exec (.move ch) s = .next (conclude s (beginMove t ch { skey := sk, src := src.toNat, dkey := dk, dst := dst.toNat, len := n }))) ∧
    (∀ (ch : Nat) (j : Job) (l : List Byte) (t : State) (x : Channel) (k : Job) (sk sb dk db n : Nat) (src dst : Int), Fetches s ch j l
        t → field (leNat l) 0 8 = 1 → chanOf t ch = x → chanJob t ch = some k → slotKey k (field (leNat l) 8 2) = (sk, sb) →
      slotKey k (field (leNat l) 10 2) = (dk, db) → moveOffset x sb (field (leNat l) 16 40) (field (leNat l) 12 4) true = src →
      moveOffset x db (field (leNat l) 56 40) (field (leNat l) 12 4) false = dst → field (leNat l) 96 32 = n → moveFits src n = true →
      moveFits dst n = true → n = 0 → exec (.move ch) s = .next (conclude s (nextPc t ch))) ∧
    (∀ (ch : Nat) (j : Job) (l : List Byte) (t : State) (alg : Nat) (x : Channel) (k : Job) (sk sb dk db n : Nat) (src dst : Int),
        Fetches s ch j l t → field (leNat l) 0 8 = 2 + alg → alg ≤ 2 → chanOf t ch = x → chanJob t ch = some k →
      slotKey k (field (leNat l) 8 2) = (sk, sb) → slotKey k (field (leNat l) 10 2) = (dk, db) →
      moveOffset x sb (field (leNat l) 16 40) (field (leNat l) 12 4) true = src →
      moveOffset x db (field (leNat l) 56 40) (field (leNat l) 12 4) false = dst → field (leNat l) 96 32 = n → moveFits src n = true →
      moveFits dst n = true →
      exec (.moveChecked ch) s = .next (conclude s (beginMove t ch
        { skey := sk, src := src.toNat, dkey := dk, dst := dst.toNat, len := n, alg := some alg }))) ∧
    (∀ (ch : Nat) (j : Job) (l : List Byte) (t : State) (x : Channel) (one : Bool) (n : Nat) (m : LoopLevel), Fetches s ch j l t →
      field (leNat l) 0 8 = 0x10 → chanOf t ch = x → bitAt (leNat l) 8 = one → (if one then x.l1 else x.l0).held = none →
      field (leNat l) 24 24 = n → 1 < n → enterLevel x.pc (leNat l) = m →
      exec (.loop ch) s = .next (conclude s (setChan t ch
        { x with l0 := if one then x.l0 else m, l1 := if one then m else x.l1, pc := field (leNat l) 12 12 }))) ∧
    (∀ (ch : Nat) (j : Job) (l : List Byte) (t : State) (x : Channel) (one : Bool) (v : LoopLevel), Fetches s ch j l t →
      field (leNat l) 0 8 = 0x10 → chanOf t ch = x → bitAt (leNat l) 8 = one → (if one then x.l1 else x.l0) = v → v.held = some x.pc →
      v.i + 1 < field (leNat l) 24 24 →
      exec (.loop ch) s = .next (conclude s (setChan t ch
        { x with
          l0 := if one then x.l0 else { v with i := v.i + 1 },
          l1 := if one then { v with i := v.i + 1 } else x.l1,
          pc := field (leNat l) 12 12 }))) ∧
    (∀ (ch : Nat) (j : Job) (l : List Byte) (t : State) (x : Channel) (one : Bool) (v : LoopLevel) (n : Nat), Fetches s ch j l t →
      field (leNat l) 0 8 = 0x10 → chanOf t ch = x → bitAt (leNat l) 8 = one → (if one then x.l1 else x.l0) = v →
      (v.held = some x.pc ∧ v.i + 1 ≥ n) ∨ (v.held = none ∧ n ≤ 1) → field (leNat l) 24 24 = n →
      exec (.loop ch) s = .next (conclude s (setChan t ch
        { x with l0 := if one then x.l0 else {}, l1 := if one then {} else x.l1, pc := x.pc + 1 }))) ∧
    (∀ (ch : Nat) (j : Job) (l : List Byte) (t : State) (x : Channel) (v : MovWait), Fetches s ch j l t → field (leNat l) 0 8 = 0x11 →
      chanOf t ch = x → waitOf t (leNat l) = v → (v.kind = 0 → counterOwned t v.counter x.owner = true) → waitOver t x v = true →
      exec (.wait ch) s = .next (conclude s (endWait t ch v))) ∧
    (∀ (ch : Nat) (j : Job) (l : List Byte) (t : State) (x : Channel) (v : MovWait), Fetches s ch j l t → field (leNat l) 0 8 = 0x11 →
      chanOf t ch = x → waitOf t (leNat l) = v → (v.kind = 0 → counterOwned t v.counter x.owner = true) → waitOver t x v = false →
      exec (.wait ch) s = .next (conclude s (setChan t ch { x with st := .waiting, wait := some v }))) ∧
    (∀ (ch : Nat) (j : Job) (l : List Byte) (t : State) (x : Channel) (u : State), Fetches s ch j l t → field (leNat l) 0 8 = 0x12 →
      chanOf t ch = x → movVisible t ch = (u, true) → bitAt (leNat l) 8 = true → holdsChan u x.owner (field (leNat l) 32 5) = true →
      exec (.signal ch) s = .next (conclude s (nextPc (modChan u (field (leNat l) 32 5) (fun x => { x with event := true })) ch))) ∧
    (∀ (ch : Nat) (j : Job) (l : List Byte) (t : State) (x : Channel) (u : State) (n : Nat), Fetches s ch j l t →
      field (leNat l) 0 8 = 0x12 → chanOf t ch = x → movVisible t ch = (u, true) → bitAt (leNat l) 8 = false →
      cntField (field (leNat l) 16 16) = some n → counterOwned u n x.owner = true →
      exec (.signal ch) s = .next (conclude s
        (nextPc (counterEvent u x.owner n (field (leNat l) 64 32) false (x.job.map (fun i => (x.queue, i)))) ch))) ∧
    (∀ (ch : Nat) (j : Job) (l : List Byte) (t : State) (u : State), Fetches s ch j l t → field (leNat l) 0 8 = 0x13 →
      movVisible t ch = (u, true) →
      exec (.moverFence ch) s = .next (conclude s (nextPc (modChan u ch (fun x => { x with olds := [] })) ch))) ∧
    (∀ (ch : Nat) (j : Job) (l : List Byte) (t : State) (x : Channel) (u : State) (idx : Idx), Fetches s ch j l t →
      field (leNat l) 0 8 = 0x1F → chanOf t ch = x → movVisible t ch = (u, true) → x.job = some idx →
      exec (.moverEnd ch) s = .next (conclude s (idleChan (completeJob u x.queue idx) ch)))

/-- WAIT_END, MOVER_BEAT, DESCRIPTOR and MOVER_READ_FAILURE, when they are due, have the effect that their rules give (R449, R458, R461,
R466, R469). -/
def Obligations.MoverEventsComplete : Prop :=
  ∀ (s : State) (ch : Nat),
    (∀ (x : Channel) (w : MovWait), running s = true → chanOf s ch = x → x.st = .waiting → x.wait = some w → waitOver s x w = true →
      exec (.waitEnd ch) s = .next (conclude s (endWait s ch w))) ∧
    (∀ (x : Channel) (w : MovWait) (t : Nat), running s = true → chanOf s ch = x → x.st = .waiting → x.wait = some w →
      waitOver s x w = false → w.limit = some t → now s ≥ t → exec (.waitEnd ch) s = .next (conclude s (movFail s ch stTimeout 0))) ∧
    (∀ (m : MoveOp) (idx : Idx) (t t1 t2 t3 t4 : State) (n : Nat) (ps : List Piece) (early : Bool) (l l3 : List Byte), running s = true
        → nextChan s = some ch → (chanOf s ch).move = some m → (chanOf s ch).job = some idx →
      isPaired s = false ∨ (chanOf s ch).begun = true → modChan (takeTurn s ch) ch (fun x => { x with begun := true }) = t →
      min (64 - (m.dst + m.done) % 64) (m.len - m.done) = n → n ≠ 0 →
      translate t (movAccess t ch m.skey (m.src + m.done) n 1) = (t1, .ok ps early) →
      readPieces t1 (chanOf t1 ch).owner ps = (t2, some l) → seenBytes t2 ch ps l = (t3, l3) →
      movWrite t3 ch m.dkey (m.dst + m.done) l3 = (t4, true) → m.done + n < m.len →
      exec .moverBeat s = .next (conclude s (stillBusy (modChan (bump (bump t4 346) (353 + ch)) ch (fun x =>
        { x with move := some { m with done := m.done + n, sum := if m.alg.isSome then m.sum ++ l3 else [] } }))))) ∧
    (∀ (m : MoveOp) (idx : Idx) (t t1 t2 t3 t4 : State) (n : Nat) (ps : List Piece) (early : Bool) (l l3 : List Byte), running s = true
        → nextChan s = some ch → (chanOf s ch).move = some m → (chanOf s ch).job = some idx →
      isPaired s = false ∨ (chanOf s ch).begun = true → modChan (takeTurn s ch) ch (fun x => { x with begun := true }) = t →
      min (64 - (m.dst + m.done) % 64) (m.len - m.done) = n → n ≠ 0 →
      translate t (movAccess t ch m.skey (m.src + m.done) n 1) = (t1, .ok ps early) →
      readPieces t1 (chanOf t1 ch).owner ps = (t2, some l) → seenBytes t2 ch ps l = (t3, l3) →
      movWrite t3 ch m.dkey (m.dst + m.done) l3 = (t4, true) → m.done + n = m.len →
      exec .moverBeat s = .next (conclude s (stillBusy (endMove (modChan (bump (bump t4 346) (353 + ch)) ch (fun x =>
        { x with move := some { m with done := m.done + n, sum := if m.alg.isSome then m.sum ++ l3 else [] } })) ch)))) ∧
    (∀ (j : Job) (t : State) (l : List Byte) (m : MoveOp), running s = true → chanReady s ch = true → (chanOf s ch).chain = true →
      chanJob s ch = some j → movRead s ch (opnd j 128 32) (chanOf s ch).desc 32 4 = (t, some l) → descMove j (leNat l) = m →
      moveFits m.src m.len = true → moveFits m.dst m.len = true → m.len ≠ 0 →
      exec (.descriptor ch) s = .next (conclude s (beginMove (takeDescriptor t ch (leNat l)) ch m))) ∧
    (∀ (j : Job) (t : State) (l : List Byte) (m : MoveOp), running s = true → chanReady s ch = true → (chanOf s ch).chain = true →
      chanJob s ch = some j → movRead s ch (opnd j 128 32) (chanOf s ch).desc 32 4 = (t, some l) → descMove j (leNat l) = m →
      moveFits m.src m.len = true → moveFits m.dst m.len = true → m.len = 0 →
      exec (.descriptor ch) s = .next (conclude s (endDescriptor (takeDescriptor t ch (leNat l)) ch))) ∧
    (∀ (m : MoveOp), running s = true → (chanOf s ch).readBad = true → (chanOf s ch).move = some m → m.alg = none →
      exec (.moverReadFailure ch) s = .next (conclude s (movFail s ch stBusError m.done))) ∧
    (∀ (m : MoveOp) (alg : Nat) (t : State), running s = true → (chanOf s ch).readBad = true → (chanOf s ch).move = some m →
      m.alg = some alg → movWrite s ch m.dkey (m.dst + m.len) (trailer alg m.sum stChecksum) = (t, true) →
      exec (.moverReadFailure ch) s = .next (conclude s (movFail (bump t 348) ch stBusError m.done)))

/-- INJECTION_GRANT, SHAPER_TICK, QUEUE_SAMPLE and DIAL_SAMPLE have the effect that their rules give (R12, R85, R479, R482, R486, R493, R551,
R566 to R568, R599). -/
def Obligations.SchedulerEventsComplete : Prop :=
  ∀ (s : State),
    (∀ (port : Nat) (fs : List (Nat × Idx)) (v t : State) (q : Nat) (idx : Idx), running s = true → port = 12 ∨ port = 13 →
      s.rgl.hadSync = true → spillStranded s port = v → startedFrames v port = fs →
      { v with sch := { v.sch with strike := fmSet v.sch.strike port fs } } = t → fs.find? (frameReady t) = some (q, idx) →
      exec (.injectionGrant port) s = .next (conclude s ((sendJob t port q idx true).1))) ∧
    (∀ (port : Nat) (fs : List (Nat × Idx)) (v t : State) (fn : Nat) (p : Packet) (l : List (Nat × Packet)), running s = true →
      port = 12 ∨ port = 13 → s.rgl.hadSync = true → spillStranded s port = v → startedFrames v port = fs →
      { v with sch := { v.sch with strike := fmSet v.sch.strike port fs } } = t → fs.find? (frameReady t) = none →
      fmGet t.sch.replies port [] = (fn, p) :: l → crossable t p.rt.plane = true →
      exec (.injectionGrant port) s = .next (conclude s (inject
        { t with sch := { t.sch with replies := fmSet t.sch.replies port l } } port fn p))) ∧
    (∀ (port : Nat) (fs : List (Nat × Idx)) (v t : State) (m : Maint), running s = true → port = 12 ∨ port = 13 →
      s.rgl.hadSync = true → spillStranded s port = v → startedFrames v port = fs →
      { v with sch := { v.sch with strike := fmSet v.sch.strike port fs } } = t → fs.find? (frameReady t) = none →
      fmGet t.sch.replies port [] = [] → (fmGet t.sch.maint port []).find? (maintReady t) = some m →
      exec (.injectionGrant port) s = .next (conclude s (sendMaint
        { t with sch := { t.sch with maint := fmSet t.sch.maint port ((fmGet t.sch.maint port []).erase m) } } port m))) ∧
    (∀ (port g : Nat) (fs : List (Nat × Idx)) (v t u : State) (l : List Nat), running s = true → port = 12 ∨ port = 13 →
      s.rgl.hadSync = true → spillStranded s port = v → startedFrames v port = fs →
      { v with sch := { v.sch with strike := fmSet v.sch.strike port fs } } = t → fs.find? (frameReady t) = none →
      fmGet t.sch.replies port [] = [] → (fmGet t.sch.maint port []).find? (maintReady t) = none → activeList t port = g :: l →
      turnOf t port = false →
      setTurn (setGroup t g { groupSched t g with deficit := (groupSched t g).deficit + (groupSched t g).quantum }) port true = u →
      groupReady u g = true → (groupSched u g).deficit ≠ 0 → shapersAdmit u (groupOwner u g) = true →
      exec (.injectionGrant port) s = .next (conclude s (grantGroup u port g))) ∧
    (running s = true →
      exec .shaperTick s = .next (keep s (settle (idleGroups (levelSamples (shaperTicks (advanceTime (closeTick (settleWrites s))))))))) ∧
    (s.inReset = false → s.cus.safe = true → exec .shaperTick s = .next (keep s (advanceTime s))) ∧
    (s.inReset = true → exec .shaperTick s = .next (keep s s)) ∧
    (running s = true → s.sch.sampleEn = true → tickNow s % 1000 = 0 →
      exec .queueSample s = .next (conclude s
        ((s.rings.queues.filter (fun kv => kv.2.st == .active || kv.2.st == .blocked || kv.2.st == .stopped)).foldl (fun s kv =>
            sampleQueue s kv.1) s))) ∧
    (∀ (d v ts : Nat) (x y : Dial) (l : List (Nat × Nat)), running s = true → dialOf s d = x → x.coming = (v, ts) :: l → x.en = true →
      dialApply { x with coming := l } v ts = y →
      exec (.dialSample d) s = .next (conclude s (setDial s d
        { y with recent := if ts = stamp s then y.recent ++ [(v, ts)] else y.recent })))

/-- STRIKE_FRAME_START, STRIKE_EPOCH_SWITCH, STRIKE_EPOCH_RETIRE, STRIKE_ACTIVATE_TIMEOUT and STRIKE_WAIT_EXPIRY, when they are due, have the
effect that their rules give (R59, R67, R106 to R109, R115, R116). -/
def Obligations.StrikeEventsComplete : Prop :=
  ∀ (s : State),
    (∀ (flow n d : Nat) (b : Binding) (j : Job) (ws : List Window) (ends : List Nat), running s = true →
      bindingOfFlow s flow = some (n, b) → frontFrame s b.queue = some j → isStalled s (.job b.queue j.idx) = false →
      injectionWindows s flow = ws → ws ≠ [] → occupancy (jobLength j.opcode (j.entries.headD 0).toNat) = d →
      ws.all (fun w => decide (w.length < d)) = false →
      ws.filterMap (fun w => occurrenceEnd (stkBank s s.stk.current) w (tickNow s)) = ends → ends ≠ [] → b.busy ≤ tickNow s →
      windowOpen s j.context 0x02 = true → ends.any (fun e => decide (tickNow s + d ≤ e)) = true →
      exec (.strikeFrameStart flow) s = .next (conclude s (launchFrame s n b j d))) ∧
    (∀ (flow n d : Nat) (b : Binding) (j : Job) (ws : List Window) (ends : List Nat), running s = true →
      bindingOfFlow s flow = some (n, b) → frontFrame s b.queue = some j → isStalled s (.job b.queue j.idx) = false →
      injectionWindows s flow = ws → ws ≠ [] → occupancy (jobLength j.opcode (j.entries.headD 0).toNat) = d →
      ws.all (fun w => decide (w.length < d)) = false →
      ws.filterMap (fun w => occurrenceEnd (stkBank s s.stk.current) w (tickNow s)) = ends → ends ≠ [] → b.busy ≤ tickNow s →
      windowOpen s j.context 0x02 = true → ends.any (fun e => decide (tickNow s + d ≤ e)) = false → b.spill = true →
      exec (.strikeFrameStart flow) s = .next (conclude s (spillLate s b.queue j.idx))) ∧
    (∀ (flow n d : Nat) (b : Binding) (j : Job) (ws : List Window) (ends : List Nat), running s = true →
      bindingOfFlow s flow = some (n, b) → frontFrame s b.queue = some j → isStalled s (.job b.queue j.idx) = false →
      injectionWindows s flow = ws → ws ≠ [] → occupancy (jobLength j.opcode (j.entries.headD 0).toNat) = d →
      ws.all (fun w => decide (w.length < d)) = false →
      ws.filterMap (fun w => occurrenceEnd (stkBank s s.stk.current) w (tickNow s)) = ends → ends ≠ [] → b.busy ≤ tickNow s →
      windowOpen s j.context 0x02 = true → ends.any (fun e => decide (tickNow s + d ≤ e)) = false → b.spill = false →
      exec (.strikeFrameStart flow) s = .next (conclude s (holdFrame (lateEvent s b.queue j) n b j))) ∧
    (∀ (flow n d : Nat) (b : Binding) (j : Job) (ws : List Window), running s = true → bindingOfFlow s flow = some (n, b) →
      frontFrame s b.queue = some j → isStalled s (.job b.queue j.idx) = false → injectionWindows s flow = ws → ws ≠ [] →
      occupancy (jobLength j.opcode (j.entries.headD 0).toNat) = d → ws.all (fun w => decide (w.length < d)) = true →
      exec (.strikeFrameStart flow) s = .next (conclude s
        (if b.spill then spillLate s b.queue j.idx else foundMalformed s b.queue j.idx))) ∧
    (∀ (t : Nat) (v : State), running s = true → s.stk.dueT = some t → t ≤ stamp s → s.stk.activating = true →
      wakeCmds (turnStrike s t) (fun _ w => w == .strikeSwitch) stOk [] = v → v.stk.activating = false →
      exec .strikeEpochSwitch s = .next (conclude s (sendCur v (some v.rgl.rootCoord) (.switched
        { strike := true, device := linearOf s s.mvt.coord, number := (match currentSched v with | some c => c.epoch | none => 0),
          time := stamp s })))) ∧
    (∀ (r : Nat) (u : State), running s = true → s.stk.dueR = some r → r ≤ stamp s → s.stk.oldLive = true →
      setStkBank s (1 - s.stk.current) {} = u →
      exec .strikeEpochRetire s = .next (conclude s { u with stk := { u.stk with oldLive := false, dueR := none } })) ∧
    (∀ (x : StrikeChange), running s = true → s.epo.strike = some x → x.t = none → x.ready.length < x.participants →
      x.start + 100000000 ≤ now s →
      exec .strikeActivateTimeout s = .next (conclude s
        (x.ready.foldl (fun s n => if n = linearOf s s.mvt.coord then cancelActivate s else sendCur s (some (coordOf s n)) (.flood
            (.strikeCancel x.id x.epoch))) { s with epo := { s.epo with strike := none } }))) ∧
    (∀ (x : StrikeChange), running s = true → s.epo.strike = some x → x.t = none → x.ready = [linearOf s s.mvt.coord] →
      1 < x.participants → x.start + 100000000 ≤ now s → s.stk.activating = true → s.stk.dueT = none →
      exec .strikeActivateTimeout s = .next (conclude s (wakeCmds
        { s with epo := { s.epo with strike := none }, stk := { s.stk with activating := false } } (fun _ w => w == .strikeSwitch)
            stTimeout []))) ∧
    (∀ (port p : Nat) (h : Held) (l : List Held), running s = true → bufOf s (bufKey port 8) = h :: l →
      orderPort h.pkt.rt.dir s.mvt.coord h.pkt.rt.dest = some p → h.pkt.rt.cls = 3 → h.claim = none →
      fenced s p = true ∨ h.arr + 64 ≤ now s →
      exec (.strikeWaitExpiry port) s = .next (conclude s (fault (bump (setBuf s (bufKey port 8)
        ({ h with pkt := { h.pkt with rt := { h.pkt.rt with cls := 0, esc := true, flow := 0 } }, escReady := true } :: l)) 6) 2
            h.pkt.rt.flow)))

/-- HEAD_FLIT_GRANT, ESC_DELAY_EXPIRY, AGE_CHECK and EJECT_STALL have the effect that their rules give (R54, R57, R60, R61, R63, R74, R84,
R193). -/
def Obligations.MovementEventsComplete : Prop :=
  ∀ (s : State) (port vc : Nat),
    (∀ (h : Held) (l : List Held) (p v : Nat) (r : RouteHdr), running s = true → bufOf s (bufKey port vc) = h :: l → h.claim = none →
      want s port h = .send p v r → outranked s (bufKey port vc) p v h = false →
      exec (.headFlitGrant port vc) s = .next (conclude s (grant (conformance s p r) (bufKey port vc) h l p v r))) ∧
    (∀ (h : Held) (l : List Held) (t : State), running s = true → bufOf s (bufKey port vc) = h :: l → h.claim = none →
      want s port h = .deliver → h.got ≥ h.pkt.rt.len → h.pkt.poisoned = false → h.pkt.rt.cls ≠ 4 →
      (match h.pkt.tt with | .other _ _ => false | _ => true) = true →
      returnCredits (setBuf s (bufKey port vc) l) (bufKey port vc / 16) (bufKey port vc % 16) h.due = t →
      exec (.headFlitGrant port vc) s = .next (conclude s { t with mvt := { t.mvt with eject := t.mvt.eject ++ [h.pkt] } })) ∧
    (∀ (h : Held) (l : List Held) (tt rest : Nat), running s = true → bufOf s (bufKey port vc) = h :: l → h.claim = none →
      want s port h = .deliver → h.got ≥ h.pkt.rt.len → h.pkt.poisoned = false → h.pkt.tt = .other tt rest →
      exec (.headFlitGrant port vc) s = .next (conclude s
        (bump (returnCredits (setBuf s (bufKey port vc) l) (bufKey port vc / 16) (bufKey port vc % 16) h.due) 7))) ∧
    (∀ (h : Held) (l : List Held) (why : Discard), running s = true → bufOf s (bufKey port vc) = h :: l → h.claim = none →
      want s port h = .discard why → exec (.headFlitGrant port vc) s = .next (conclude s (discardFront s (bufKey port vc) why))) ∧
    (∀ (h : Held) (l : List Held) (p v : Nat), running s = true → bufOf s (bufKey port vc) = h :: l → h.claim = some (p, v) →
      exec (.headFlitGrant port vc) s = .next (conclude s (advance s p))) ∧
    (∀ (h : Held) (l : List Held) (f : Bool), running s = true → bufOf s (bufKey port vc) = h :: l → h.claim = none →
      h.pkt.rt.esc = false → h.pkt.rt.cls < 2 → hopFenced s h.pkt.rt = f →
      h.arr + (if f then max s.mvt.detourWait s.mvt.escDelay else s.mvt.escDelay) ≤ now s →
      exec (.escDelayExpiry port vc) s = .next (conclude s (setBuf s (bufKey port vc) ({ h with escReady := true } :: l)))) ∧
    (∀ (h : Held), running s = true → waitingHeads s = [(bufKey port vc, h)] → tooOld s h.pkt.rt = true →
      exec .ageCheck s = .next (conclude s (discardFront s (bufKey port vc) .age))) ∧
    (∀ (t : Nat), running s = true → (fnOf s vc).stallFrom = some t → t + 100000 ≤ now s →
      exec (.ejectStall vc) s = .next (conclude s (fault (setFn s vc (fun f => { f with stallFrom := none })) 35 vc)))

/-- FLIT_GROUP_RECEIVE, NAK_REPEAT, LANE_SIGNAL_LOSS, LNE_LINK_DOWN, LNE_FOM_LOW, FENCE, SLEEP, SLEEP_ENTRY and SLEEP_WAKE of a port with
lanes, when they are due, have the effect that their rules give (R147, R155, R159, R161 to R163, R167, R169, R174, R175). -/
def Obligations.LaneEventsComplete : Prop :=
  ∀ (s : State) (p : Nat),
    (∀ (r : RawGroup) (g : FlitGroup) (w u v : State), running s = true → hasLanes p = true → watchHeads s p r = w →
      kick (modLane w p (fun l => takeAck (takeCredits l g.credits) g.ackSeq (now w))) p = u →
      modLane u p (fun l => { l with rxSeq := (l.rxSeq + 1) % 4096, nak := false, nakRow := 0, nakBad := false, owed := true }) = v →
      decodeGroup p r = g → (laneOf w p).rx = .active → g.good = true → g.corrected = 0 → g.nak = false → g.slots ≠ [] →
      g.seq = (laneOf u p).rxSeq → g.slots.all (slotOk p) = true →
      exec (.flitGroupReceive p r) s = .next (conclude s (advanceAll (kick (g.slots.foldl (fun s x => acceptSlot s p x) v) p)))) ∧
    (∀ (r : RawGroup) (g : FlitGroup) (w : State), running s = true → hasLanes p = true → watchHeads s p r = w → decodeGroup p r = g →
      (laneOf w p).rx = .active → g.good = true → g.corrected = 0 → g.nak = false → g.slots = [] →
      exec (.flitGroupReceive p r) s = .next (conclude s
        (advanceAll (kick (modLane w p (fun l => takeAck (takeCredits l g.credits) g.ackSeq (now w))) p)))) ∧
    (∀ (r : RawGroup) (g : FlitGroup) (w u : State), running s = true → hasLanes p = true → watchHeads s p r = w →
      modLane w p (fun l => takeAck (takeCredits l g.credits) g.ackSeq (now w)) = u → decodeGroup p r = g → (laneOf w p).rx = .active →
      g.good = true → g.corrected = 0 → g.nak = true → g.slots = [] →
      exec (.flitGroupReceive p r) s = .next (conclude s
        (advanceAll (transmit (bumpBy u (182 + 7 * portIx p + 2) (laneOf u p).replay.length) p true)))) ∧
    (∀ (r : RawGroup) (g : FlitGroup) (w t : State), running s = true → hasLanes p = true → watchHeads s p r = w →
      bump w (182 + 7 * portIx p + 1) = t → decodeGroup p r = g → (laneOf w p).rx = .active → g.good = false → g.corrected = 0 →
      (laneOf t p).nak = false → (laneOf t p).nakRow + 1 < max 1 t.lne.retryMax →
      exec (.flitGroupReceive p r) s = .next (conclude s (advanceAll (sendNak (setLane t p
        { laneOf t p with nakRow := (laneOf t p).nakRow + 1 }) p)))) ∧
    (∀ (r : RawGroup) (g : FlitGroup) (w t : State), running s = true → hasLanes p = true → watchHeads s p r = w →
      bump w (182 + 7 * portIx p + 1) = t → decodeGroup p r = g → (laneOf w p).rx = .active → g.good = false → g.corrected = 0 →
      (laneOf t p).nak = false → (laneOf t p).nakRow + 1 ≥ max 1 t.lne.retryMax →
      exec (.flitGroupReceive p r) s = .next (conclude s
        (advanceAll (linkLost (fault t (laneSrc p 1) (p + (laneOf t p).rxSeq * 16)) p 1)))) ∧
    (running s = true → hasLanes p = true → (laneOf s p).nak = true → (laneOf s p).nakAt + 2000 ≤ now s → (laneOf s p).nakBad = false →
      exec (.nakRepeat p) s = .next (conclude s (sendNak s p))) ∧
    (running s = true → hasLanes p = true → (laneOf s p).nak = true → (laneOf s p).nakAt + 2000 ≤ now s → (laneOf s p).nakBad = true →
      (laneOf s p).nakRow + 1 < max 1 s.lne.retryMax →
      exec (.nakRepeat p) s = .next (conclude s (sendNak (setLane s p { laneOf s p with nakRow := (laneOf s p).nakRow + 1 }) p))) ∧
    (∀ (lane : Nat) (lock : Bool) (t : State), running s = true → hasLanes p = true → modLane s p (losing lane lock (now s)) = t →
      p ≠ 14 ∨ bridgeReady t = false → exec (.laneSignalLoss p lane lock) s = .next (conclude s t)) ∧
    (∀ (lane : Nat) (lock : Bool) (t : State), running s = true → hasLanes p = true → p = 14 →
      modLane s p (losing lane lock (now s)) = t → bridgeReady t = true →
      exec (.laneSignalLoss p lane lock) s = .next (conclude s (linkLost t 14 2))) ∧
    (running s = true → hasLanes p = true → p < 12 → (laneOf s p).lossAt.any (fun kv => decide (now s ≥ kv.2 + 500)) = true →
      linkActive s p = true →
      exec (.lneLinkDown p) s = .next (conclude s (linkFault (fault s (laneSrc p 0) (p + lostLanes (laneOf s p) * 16)) p))) ∧
    (∀ (lane fom since : Nat) (t : State), running s = true → hasLanes p = true → p < 12 → lane < 4 →
      modLane s p (fun l => noteFom s.lne.fomWarn (now s) l lane (fom % 256)) = t → fmFind (laneOf t p).lowFrom lane = some since →
      since + 1000000 ≤ now t → (laneOf t p).lowTold.contains lane = false →
      exec (.lneFomLow p lane fom) s = .next (conclude s (fault (setLane t p
        { laneOf t p with lowTold := withMember (laneOf t p).lowTold lane }) (laneSrc p 5) (p + lane * 16 + fom % 256 * 256)))) ∧
    (∀ (lane fom : Nat) (t : State), running s = true → hasLanes p = true → p < 12 → lane < 4 →
      modLane s p (fun l => noteFom s.lne.fomWarn (now s) l lane (fom % 256)) = t → fmFind (laneOf t p).lowFrom lane = none →
      exec (.lneFomLow p lane fom) s = .next (conclude s t)) ∧
    (∀ (lanes : List Nat) (c pl reason : Nat) (was : Bool) (t u : State), running s = true → hasLanes p = true →
      osRead lanes = some (.fence c pl reason) → p ≠ 14 → (laneOf s p).peerFence = false → fenced s p = was →
      fault (fenceDown s p) (laneSrc p 4) (p + reason % 256 * 16) = t →
      { t with mvt := { t.mvt with peerFence := withMember t.mvt.peerFence p } } = u →
      exec (.fence p lanes) s = .next (conclude s (selectParent (if was then u else report u p false)))) ∧
    (∀ (lanes : List Nat) (c pl reason : Nat) (t : State), running s = true → hasLanes p = true →
      osRead lanes = some (.fence c pl reason) → p = 14 → (laneOf s 14).peerFence = false →
      fault (fenceDown s 14) (laneSrc 14 4) (14 + reason % 256 * 16) = t →
      exec (.fence p lanes) s = .next (conclude s { t with twn := { t.twn with bridgeLost := some (if reason = 1 then 0 else 1) } })) ∧
    (∀ (lanes : List Nat), running s = true → hasLanes p = true → osRead lanes = some .sleep → p < 12 → (laneOf s p).rx = .active →
      exec (.sleep ⟨p, lanes⟩) s = .next (conclude s (setLane s p { laneOf s p with rx := .sleep }))) ∧
    (∀ (l : LanePort), running s = true → hasLanes p = true → laneOf s p = l → p < 12 → l.tx = .active → l.sleepEn = true →
      l.sendq = [] → l.owed = false → l.credDue = [] → l.replay = [] → l.idleFrom + max 1 l.sleepIdle * 1000 ≤ now s →
      s.rgl.parent ≠ p → s.rgl.txParent.contains p = false → (fmGet s.rgl.nbrs p {}).isParent = false →
      exec (.sleepEntry p) s = .next (conclude s (noteLevel (sendOs (setLane s p
        { l with tx := .sleep, sleptAt := some (now s) }) p .sleep) (182 + 7 * p + 5) 1))) ∧
    (running s = true → hasLanes p = true → (laneOf s p).tx = .sleep →
      (laneOf s p).sendq ≠ [] ∨ (laneOf s p).owed = true ∨ (laneOf s p).credDue ≠ [] → (laneOf s p).sleptAt ≠ some (now s) →
      exec (.sleepWake p) s = .next (conclude s (kick (bump (sendOs (setLane s p
        { laneOf s p with tx := .active, sleptAt := none, idleFrom := now s }) p (.train { trainMsg s p with phase := 4 })) (182 + 7 *
            portIx p + 6)) p)))

/-- SIGNAL_DETECT, ADAPT, BLOCK_LOCK, TRAIN and TRAINING_TIMEOUT of a port with lanes, when they are due, have the effect that their rules
give (R150, R168, R170, R171, R180). -/
def Obligations.TrainingEventsComplete : Prop :=
  ∀ (s : State) (p : Nat),
    (∀ (lane : Nat) (l : LanePort) (g : List Nat), running s = true → hasLanes p = true → clearLoss lane false (laneOf s p) = l →
      l.tx = .training → l.phase = 0 → lane < laneCount p → withMember l.signal lane = g → g.length ≥ laneCount p →
      exec (.signalDetect p lane) s = .next (conclude s (trainTo s p
        { l with
          signal := g,
          phase := if p = 14 then 2 else 1,
          eqAt := now s,
          eq := (List.range (laneCount p)).map (fun i => (i, startEq s p i)) }))) ∧
    (∀ (lane : Nat) (l : LanePort) (g : List Nat), running s = true → hasLanes p = true → clearLoss lane false (laneOf s p) = l →
      l.tx = .training → l.phase = 0 → lane < laneCount p → withMember l.signal lane = g → g.length < laneCount p →
      exec (.signalDetect p lane) s = .next (conclude s (setLane s p { l with signal := g }))) ∧
    (∀ (lanes : List (Nat × LaneEq)) (l : LanePort), running s = true → hasLanes p = true → p < 12 →
      (List.range 4).foldl (fun l i => noteFom s.lne.fomWarn (now s) l i ((lanes.getD i (0, {})).1 % 256)) (laneOf s p) = l →
      l.tx = .training → l.phase = 1 → (List.range 4).all (fun i => decide (fmGet l.fom i 0 ≥ s.lne.fomMin)) = true →
      exec (.adapt p lanes) s = .next (conclude s (trainTo s p
        { l with eqAt := now s, eq := (List.range 4).map (fun i => (i, (lanes.getD i (0, {})).2)), adapted := true, phase := 2 }))) ∧
    (∀ (lanes : List (Nat × LaneEq)) (l : LanePort), running s = true → hasLanes p = true → p < 12 →
      (List.range 4).foldl (fun l i => noteFom s.lne.fomWarn (now s) l i ((lanes.getD i (0, {})).1 % 256)) (laneOf s p) = l →
      l.tx = .active → l.rx = .active → l.eqAt + 100000 ≤ now s →
      exec (.adapt p lanes) s = .next (conclude s (setLane s p
        { l with eqAt := now s, eq := (List.range 4).map (fun i => (i, moveEq false (fmGet l.eq i {}) (lanes.getD i (0, {})).2)) }))) ∧
    (∀ (lane : Nat) (heads : List Nat) (skew : Nat) (t u : State), running s = true → hasLanes p = true → lane < laneCount p →
      relock s p (heads.foldl (trackHead lane) (laneOf s p)) = t →
      modLane t p (fun l => { l with skew := fmSet l.skew lane skew }) = u → (laneOf u p).tx = .training → (laneOf u p).phase = 2 →
      mapped p (laneOf u p) = true →
      exec (.blockLock p ⟨lane, heads, skew⟩) s = .next (conclude s (trainTo u p { laneOf u p with phase := 3 }))) ∧
    (∀ (lane : Nat) (heads : List Nat) (skew : Nat) (t u : State), running s = true → hasLanes p = true → lane < laneCount p →
      relock s p (heads.foldl (trackHead lane) (laneOf s p)) = t →
      modLane t p (fun l => { l with skew := fmSet l.skew lane skew }) = u → (laneOf u p).phase ≠ 2 →
      exec (.blockLock p ⟨lane, heads, skew⟩) s = .next (conclude s u)) ∧
    (∀ (lanes : List Nat) (m : TrainMsg) (l : LanePort) (t : State), running s = true → hasLanes p = true →
      osRead lanes = some (.train m) → modLane s p (heardTrain · m) = t → laneOf t p = l →
      peerAgrees s p = false ∨ peerAgrees t p = true → mayTrain t p = true → t.mvt.adminFence.contains p = false →
      l.peerFence = false → t.mvt.peerFence.contains p = false → l.tx = .training → l.rx ≠ .sleep → l.phase = 3 →
      identOk t p m = true →
      exec (.train p lanes) s = .next (conclude s (if m.phase = 4 then portReady (trainTo t p { l with phase := 4 }) p else trainTo t p
        { l with phase := 4 }))) ∧
    (∀ (lanes : List Nat) (m : TrainMsg) (l : LanePort) (t : State), running s = true → hasLanes p = true →
      osRead lanes = some (.train m) → modLane s p (heardTrain · m) = t → laneOf t p = l →
      peerAgrees s p = false ∨ peerAgrees t p = true → mayTrain t p = true → t.mvt.adminFence.contains p = false →
      l.peerFence = false → t.mvt.peerFence.contains p = false → l.tx = .training → l.rx ≠ .sleep → l.phase = 3 →
      identOk t p m = true → m.phase = 4 →
      exec (.train p lanes) s = .next (conclude s (portReady (trainTo t p { l with phase := 4 }) p))) ∧
    (∀ (lanes : List Nat) (m : TrainMsg) (l : LanePort) (t : State), running s = true → hasLanes p = true →
      osRead lanes = some (.train m) → modLane s p (heardTrain · m) = t → laneOf t p = l →
      peerAgrees s p = false ∨ peerAgrees t p = true → mayTrain t p = true → t.mvt.adminFence.contains p = false →
      l.peerFence = false → t.mvt.peerFence.contains p = false → l.tx = .training → l.rx ≠ .sleep → l.phase = 4 → m.phase = 4 →
      exec (.train p lanes) s = .next (conclude s (portReady t p))) ∧
    (∀ (lanes : List Nat) (m : TrainMsg) (l : LanePort) (t : State), running s = true → hasLanes p = true →
      osRead lanes = some (.train m) → modLane s p (heardTrain · m) = t → laneOf t p = l →
      peerAgrees s p = false ∨ peerAgrees t p = true → mayTrain t p = true → t.mvt.adminFence.contains p = false →
      l.peerFence = false → t.mvt.peerFence.contains p = false → l.tx = .training → l.rx ≠ .sleep → l.phase = 2 →
      exec (.train p lanes) s = .next (conclude s (endBlock (setLane t p
        { l with laneMap := ((lanes.map (fun v => field v 8 6)).take (laneCount p)).zipIdx.map (fun x => (x.2, x.1)) }) p))) ∧
    (∀ (lanes : List Nat), hasLanes p = true → running s = true → osRead lanes = none →
      exec (.train p lanes) s = .next (conclude s (bump s (182 + 7 * portIx p + 3))) ∧
        exec (.timeX p ⟨lanes, 0⟩) s = .next (conclude s (bump s (182 + 7 * portIx p + 3))) ∧
        exec (.fence p lanes) s = .next (conclude s (bump s (182 + 7 * portIx p + 3))) ∧
        exec (.sleep ⟨p, lanes⟩) s = .next (conclude s (bump s (182 + 7 * portIx p + 3)))) ∧
    (∀ (t : Nat) (u v : State), running s = true → hasLanes p = true → mayTrain s p = true → s.mvt.adminFence.contains p = false →
      (laneOf s p).trainFrom = some t → (laneOf s p).tx = .training → t + trainBound p ≤ now s →
      setLane s p (trainFailed (laneOf s p) (now s)) = u →
      wakeCmds u (fun _ w => w == .laneTrain p || (p == 14 && w == .trainBridge)) stTimeout [] = v →
      exec (.trainingTimeout p) s = .next (conclude s
        (if (laneOf s p).failSeries then v else fault v (laneSrc p 2) (p + (laneOf s p).phase * 16)))) ∧
    (∀ (t : Nat), running s = true → hasLanes p = true → mayTrain s p = true → s.mvt.adminFence.contains p = false →
      (laneOf s p).trainFrom = none → (laneOf s p).retryAt = some t → t ≤ now s →
      exec (.trainingTimeout p) s = .next (conclude s (setLane s p
        { restartLane (laneOf s p) (now s) with failSeries := (laneOf s p).failSeries })))

/-- The event of a lane of a port that has none, ports 12, 13 and those above 14, is no event of this device: the model stops by name (R26,
R146). -/
def Obligations.PortsWithoutLanesHaveNoLaneEvents : Prop :=
  ∀ (s : State) (p lane fom : Nat) (g : RawGroup) (lanes : List Nat) (lock : Bool) (foms : List (Nat × LaneEq)),
    hasLanes p = false →
      exec (.flitGroupReceive p g) s = .fault (.noSuchPort p) ∧ exec (.nakRepeat p) s = .fault (.noSuchPort p) ∧
          exec (.train p lanes) s = .fault (.noSuchPort p) ∧ exec (.trainingTimeout p) s = .fault (.noSuchPort p) ∧
          exec (.fence p lanes) s = .fault (.noSuchPort p) ∧ exec (.sleep ⟨p, lanes⟩) s = .fault (.noSuchPort p) ∧
          exec (.timeX p ⟨lanes, fom⟩) s = .fault (.noSuchPort p) ∧ exec (.sleepEntry p) s = .fault (.noSuchPort p) ∧
          exec (.sleepWake p) s = .fault (.noSuchPort p) ∧ exec (.laneSignalLoss p lane lock) s = .fault (.noSuchPort p) ∧
          exec (.lneLinkDown p) s = .fault (.noSuchPort p) ∧ exec (.signalDetect p lane) s = .fault (.noSuchPort p) ∧
          exec (.adapt p foms) s = .fault (.noSuchPort p) ∧ exec (.blockLock p ⟨lane, lanes, fom⟩) s = .fault (.noSuchPort p) ∧
          exec (.lneFomLow p lane fom) s = .fault (.noSuchPort p)

/-- TIME_X_SEND, TIME_X, HOLDOVER_EXPIRY, REF_SIGNAL_LOSS, REF_OK, TIME_IN_PPS, TIME_IN_TOD, TIME_OUT_PPS, ROOT_HANDOVER,
BACKUP_ROOT_TAKEOVER and PACE_WINDOW, when they are due, have the effect that their rules give (R42, R125, R126, R128 to R130, R136 to
R140, R158, R169, R178). -/
def Obligations.RegulatorEventsComplete : Prop :=
  ∀ (s : State),
    (∀ (p n : Nat) (m : TimeX), running s = true → hasLanes p = true → p < 12 → (laneOf s p).tx = .active → (laneOf s p).rx = .active →
      timeXDue s p = true → (fmGet s.rgl.txNum p 0 + 1) % 256 = n → timeXOut s p n = m →
      exec (.timeXSend p) s = .next (conclude s
        { s with
          rgl := { s.rgl with
              txAt := fmSet s.rgl.txAt p s.rgl.time,
              txNum := fmSet s.rgl.txNum p n,
              txTick := fmSet s.rgl.txTick p (now s),
              txParent := if m.isParent then withMember s.rgl.txParent p else without s.rgl.txParent p },
          lne := { s.lne with osOut := fmSet s.lne.osOut p (.timeX m) } })) ∧
    (∀ (p : Nat) (lanes : List Nat) (frac : Nat), running s = true → hasLanes p = true → osRead lanes = none →
      exec (.timeX p ⟨lanes, frac⟩) s = .next (conclude s (bump s (182 + 7 * portIx p + 3)))) ∧
    (∀ (p : Nat) (lanes : List Nat) (frac : Nat) (x m : TimeX) (t : State), running s = true → hasLanes p = true →
      osRead lanes = some (.timeX x) → p < 12 → { x with recvAt := s.rgl.time / 4 * 4 + frac % 4 } = m →
      selectParent (bump (heardTime (formerRoot s m) p m) 395) = t → t.rgl.parent ≠ p →
      exec (.timeX p ⟨lanes, frac⟩) s = .next (conclude s (heardRoot t m))) ∧
    (∀ (p : Nat) (lanes : List Nat) (frac t2 t3 : Nat) (x m : TimeX) (t u : State) (a b : Int), running s = true → hasLanes p = true →
      osRead lanes = some (.timeX x) → p < 12 → { x with recvAt := s.rgl.time / 4 * 4 + frac % 4 } = m →
      fmFind s.rgl.rxAt p = some t2 → fmFind s.rgl.txAt p = some t3 → selectParent (bump (heardTime (formerRoot s m) p m) 395) = t →
      t.rgl.parent = p → heardRoot (if t.rgl.role = 1 then t else learnRoot t m) m = u → (t2 : Int) - instant56 m.prevSend t2 = a →
      instant56 m.lastRecv t3 - (t3 : Int) = b →
      exec (.timeX p ⟨lanes, frac⟩) s = .next (conclude s (exchange u (half (a - b)) (half (a + b))))) ∧
    (∀ (t : Nat), running s = true → s.rgl.holdFrom = some t → holds s = true → s.rgl.holdover = true → t + 1000000 < now s →
      exec .holdoverExpiry s = .next (conclude s (syncLost s))) ∧
    (∀ (bits : Nat), running s = true →
      exec (.refSignalLoss bits) s = .next (conclude s
        (setRef s (Nat.lor (Nat.land s.lne.refNow 3) (Nat.land bits (if ppsSilent s then 13 else 12)))))) ∧
    (running s = true →
      exec .refOk s = .next (conclude s
        (setRef s (Nat.land s.lne.refNow ((if ppsSilent s then 1 else 0) + (if s.rgl.ppsStray < 3 then 0 else 2)))))) ∧
    (∀ (frac sec : Nat) (v t : State) (off : Int), running s = true → s.rgl.role ≠ 0 → strayEdge s (4 * now s + frac % 4) = false →
      noteRef { s with rgl := { s.rgl with ppsLast := now s, ppsStray := 0, ppsAt := some (4 * now s + frac % 4) } } (Nat.land
        s.lne.refNow 12) = v → v.rgl.synced = true → v.rgl.refOk = true → countEdge v = t → t.rgl.tod = some sec →
      ((v.rgl.time : Int) / 4 * 4 + (frac % 4 : Nat) - (sec * 4000000000 : Nat)) = off →
      exec (.timeInPps frac) s = .next (conclude s
        { t with
          rgl := { t.rgl with
              ppsOff := off,
              offset := if v.rgl.role = 1 then off else v.rgl.offset,
              delay := if v.rgl.role = 1 then 0 else v.rgl.delay,
              steer := steerFor off,
              steerLeft := some (off.natAbs * 1000000) } })) ∧
    (∀ (frac sec : Nat) (v t : State), running s = true → s.rgl.role ≠ 0 → strayEdge s (4 * now s + frac % 4) = false →
      noteRef { s with rgl := { s.rgl with ppsLast := now s, ppsStray := 0, ppsAt := some (4 * now s + frac % 4) } } (Nat.land
        s.lne.refNow 12) = v → v.rgl.synced = false → v.rgl.refOk = true → v.rgl.todNamed = true → (countEdge v).rgl.tod = some sec →
      synchronise (countEdge v) (sec * 4000000000) = t →
      exec (.timeInPps frac) s = .next (conclude s (if v.rgl.role = 1 then selectParent
        { t with rgl := { t.rgl with rootCoord := t.mvt.coord, rootValid := true, offset := 0, delay := 0, ppsOff := 0 } } else t))) ∧
    (∀ (frac : Nat), running s = true → s.rgl.role ≠ 0 → strayEdge s (4 * now s + frac % 4) = true → s.rgl.ppsStray + 1 < 3 →
      exec (.timeInPps frac) s = .next (conclude s (noteRef
        { s with rgl := { s.rgl with ppsLast := now s, ppsStray := s.rgl.ppsStray + 1 } } (Nat.land s.lne.refNow 14)))) ∧
    (∀ (frac : Nat), running s = true → s.rgl.role ≠ 0 → strayEdge s (4 * now s + frac % 4) = true → s.rgl.ppsStray + 1 ≥ 3 →
      exec (.timeInPps frac) s = .next (conclude s (noteRef
        { s with rgl := { s.rgl with ppsLast := now s, ppsStray := s.rgl.ppsStray + 1, ppsAt := some (4 * now s + frac % 4) } }
            (Nat.lor (Nat.land s.lne.refNow 14) 2)))) ∧
    (∀ (m : List Byte) (c k : Nat), running s = true → s.rgl.role ≠ 0 → m.length = 10 → byteAt m 0 = 0x7E →
      crc8 ((m.drop 1).take 8) = byteAt m 9 → numAt m 1 8 = c → c ≤ 4611686018 → s.rgl.tod = none ∨ (s.rgl.tod = some k ∧ c = k + 1) →
      exec (.timeInTod m) s = .next (conclude s { s with rgl := { s.rgl with tod := some c, todRecent := [], todNamed := true } })) ∧
    (running s = true → s.rgl.toutEn = true → s.rgl.synced = true → s.rgl.time % 4000000000 < 8 →
      exec .timeOutPps s = .next (conclude s { s with rgl := { s.rgl with ppsUntil := now s + 100000000 } })) ∧
    (∀ (t good : Nat) (u : State), running s = true → s.rgl.refLostAt = some t → s.rgl.role = 1 → s.rgl.refOk = false →
      t + 10000000000 ≤ now s → draw s = (good, u) →
      exec .rootHandover s = .next (conclude s (if good % 2 = 0 then u else selectParent
        { u with
          rgl := { u.rgl with
              role := 2,
              rootHeard := now u,
              holdover := u.rgl.synced,
              holdFrom := if u.rgl.synced then some (now u) else none },
          epo := { u.epo with change := none, strike := none, strikeOld := [] } }))) ∧
    (∀ (bank : RouteBank), running s = true → s.rgl.role = 2 → s.cur.ready = true → s.rgl.rootHeard + 20000 ≤ now s →
      currentBank s = bank →
      exec .backupRootTakeover s = .next (conclude s (selectParent
        { s with
          rgl := { s.rgl with
              role := 1,
              rootCoord := s.mvt.coord,
              rootValid := true,
              changes := s.rgl.changes + 1,
              offset := s.rgl.ppsOff,
              delay := 0,
              steer := if s.rgl.refOk then s.rgl.steer else 0,
              steerLeft := if s.rgl.refOk then s.rgl.steerLeft else none,
              holdover := s.rgl.synced && !s.rgl.refOk,
              holdFrom := if s.rgl.synced && !s.rgl.refOk then some (now s) else none },
          epo := { s.epo with
              known := s.epo.joined,
              masterMap := bank.map,
              reports := s.epo.reports.map (fun r => { r with sentAt := now s }) } }))) ∧
    (∀ (count mv period limit : Nat) (tj : Int) (en : Bool) (t : State), running s = true →
      (if count ≤ 8 then 0xFFFF else min (524288 / count) 0xFFFF) = period →
      s.mvt.limitOld.getD (s.mvt.limit, s.mvt.limitEn) = (limit, en) → setPace s period mv tj = t →
      exec (.paceWindow count mv tj) s = .next (conclude s (if en && period > limit then fault t 1 period else t)))

/-- FENCE_REPORT, FENCE_REPORT_RESEND, EPOCH_READY_REPORT, SWITCH_REPORT and EPOCH_REPORT_TIMEOUT, at the epoch master or at a device whose
Curator is READY, have the effect that their rules give (R77, R79 to R82, R95, R115, R172, R614, R641). -/
def Obligations.EpochReportsComplete : Prop :=
  ∀ (s : State),
    (∀ (device p : Nat) (m : FaultMap) (name : Nat × Nat) (t : State), running s = true → isMaster s = true → p < 12 →
      masterMapOf s = m → linkName s device p = name → acknowledge s device p false = t →
      (m.links.contains name && t.epo.known) = false →
      exec (.fenceReport device (.fence p)) s = .next (conclude s (wantChange (setMasterMap t
        { m with links := withMember m.links name } (s.epo.restored.filter (fun x => linkName s x.1 x.2 != name)))))) ∧
    (∀ (device p : Nat) (m : FaultMap) (name : Nat × Nat) (t : State), running s = true → isMaster s = true → p < 12 →
      masterMapOf s = m → linkName s device p = name → acknowledge s device p false = t →
      (m.links.contains name && t.epo.known) = true →
      exec (.fenceReport device (.fence p)) s = .next (conclude s
        (setMasterMap t m (s.epo.restored.filter (fun x => linkName s x.1 x.2 != name))))) ∧
    (∀ (device p : Nat) (m : FaultMap) (name : Nat × Nat) (t : State), running s = true → isMaster s = true → p < 12 →
      masterMapOf s = m → linkName s device p = name → acknowledge s device p true = t → m.links.contains name = false →
      exec (.fenceReport device (.restored p)) s = .next (conclude s t)) ∧
    (∀ (device p : Nat) (m : FaultMap) (name other : Nat × Nat) (t : State), running s = true → isMaster s = true → p < 12 →
      masterMapOf s = m → linkName s device p = name → (across s device p, Nat.xor p 1) = other → acknowledge s device p true = t →
      m.links.contains name = true → t.epo.restored.contains other = false →
      exec (.fenceReport device (.restored p)) s = .next (conclude s (setMasterMap t m (withMember t.epo.restored (device, p))))) ∧
    (∀ (device p : Nat) (m : FaultMap) (name other : Nat × Nat) (t : State), running s = true → isMaster s = true → p < 12 →
      masterMapOf s = m → linkName s device p = name → (across s device p, Nat.xor p 1) = other → acknowledge s device p true = t →
      m.links.contains name = true → t.epo.restored.contains other = true →
      exec (.fenceReport device (.restored p)) s = .next (conclude s (wantChange (setMasterMap t
        { links := without m.links name, devices := without (without m.devices device) other.1 } (t.epo.restored.filter (fun x =>
            linkName t x.1 x.2 != name)))))) ∧
    (∀ (device : Nat), running s = true → isMaster s = true → exec (.fenceReport device .change) s = .next (conclude s (wantChange s))) ∧
    (∀ (device p : Nat) (restored : Bool), running s = true → device = linearOf s s.mvt.coord →
      exec (.fenceReport device (.acked p restored)) s = .next (conclude s (noteAck s p restored))) ∧
    (∀ (t : State), running s = true → s.cur.ready = true → s.rgl.rootValid = true →
      { s with epo := { s.epo with reports := s.epo.reports.map (fun r => if !r.acked
        && decide (now s ≥ r.sentAt + 100000) then { r with sentAt := now s } else r) } } = t →
      exec .fenceReportResend s = .next (conclude s
        ((s.epo.reports.filter (fun r => !r.acked && decide (now s ≥ r.sentAt + 100000))).foldl (fun s r => sendCur s (some
            s.rgl.rootCoord) (.report (linearOf s s.mvt.coord) (if r.restored then .restored r.port else .fence r.port))) t))) ∧
    (∀ (device number t : Nat) (c d : MasterChange) (u : State), running s = true → isMaster s = true → s.epo.change = some c →
      c.number = number → c.t = none → { c with ready := withMember c.ready device } = d →
      (awaited s c.map).all (fun n => d.ready.contains n) = true → chooseT s (c.flooded + 1000000) = (t, u) →
      exec (.epochReadyReport (.route device number)) s = .next (conclude s (sendCur (setChange u
        { d with t := some t }) none (.flood (.routeT number t))))) ∧
    (∀ (device number : Nat) (c d : MasterChange), running s = true → isMaster s = true → s.epo.change = some c → c.number = number →
      c.t = none → { c with ready := withMember c.ready device } = d → (awaited s c.map).all (fun n => d.ready.contains n) = false →
      exec (.epochReadyReport (.route device number)) s = .next (conclude s (setChange s d))) ∧
    (∀ (device id epoch participants : Nat), running s = true → isMaster s = true → s.epo.strike = none → participants > 1 →
      exec (.epochReadyReport (.strike device id epoch participants)) s = .next (conclude s (setStrike s
        { id := id, epoch := epoch, participants := participants, ready := [device], start := now s }))) ∧
    (∀ (device id epoch participants t : Nat) (x y : StrikeChange) (u : State), running s = true → isMaster s = true →
      s.epo.strike = some x → x.id = id → x.epoch = epoch → x.t = none → { x with ready := withMember x.ready device } = y →
      y.ready.length ≥ y.participants → s.epo.strikeOld = [] → chooseT s (x.start + 200000000) = (t, u) →
      exec (.epochReadyReport (.strike device id epoch participants)) s = .next (conclude s
        (y.ready.foldl (fun s n => sendCur s (some (coordOf s n)) (.flood (.strikeT epoch t))) (setStrike u { y with t := some t })))) ∧
    (∀ (r : SwitchReport) (t : State) (c d : MasterChange) (k : Nat), running s = true → isMaster s = true → r.strike = false →
      { s with epo := { s.epo with silent := s.epo.silent.filter (fun x => x.1 != r.device) } } = t → s.epo.change = some c →
      c.t = some k → c.number = r.number → c.r = none → { c with switched := noteSwitch c.switched r } = d →
      (awaited t c.map).all (fun n => d.switched.any (fun y => y.1 == n)) = true →
      exec (.switchReport r) s = .next (conclude s (floodR t d k))) ∧
    (∀ (r : SwitchReport) (x y : StrikeChange) (t : State), running s = true → isMaster s = true → r.strike = true →
      (s.epo.strikeOld ++ s.epo.strike.toList).find? (fun x => x.t.isSome && x.epoch == r.number && x.ready.contains r.device) = some x
        → { x with switched := noteSwitch x.switched r } = y → y.ready.all (fun n => y.switched.any (fun z => z.1 == n)) = true →
      y.ready.foldl (fun s n => sendCur s (some (coordOf s n)) (.flood (.strikeR y.epoch (retireTime y.switched (y.t.getD 0)))))
        (putStrike s x none) = t →
      exec (.switchReport r) s = .next (conclude s (match t.epo.strike with | some z => strikeReady t z | none => t))) ∧
    (∀ (r : SwitchReport) (x y : StrikeChange), running s = true → isMaster s = true → r.strike = true →
      (s.epo.strikeOld ++ s.epo.strike.toList).find? (fun x => x.t.isSome && x.epoch == r.number && x.ready.contains r.device) = some x
        → { x with switched := noteSwitch x.switched r } = y → y.ready.all (fun n => y.switched.any (fun z => z.1 == n)) = false →
      exec (.switchReport r) s = .next (conclude s (putStrike s x (some y)))) ∧
    (∀ (t : State), running s = true → isMaster s = true → sendResets s = t → t.epo.change = none →
      exec .epochReportTimeout s = .next (conclude s t)) ∧
    (∀ (t u : State) (c : MasterChange) (l : List Nat) (map : FaultMap), running s = true → isMaster s = true → sendResets s = t →
      t.epo.change = some c → c.t = none → (awaited t c.map).filter (fun n => !c.ready.contains n && n != linearOf t t.mvt.coord) = l →
      l ≠ [] → c.flooded + 1000000 ≤ now t → fenceSilent t l = u →
      wholeMap u { c.map with devices := l.foldl withMember c.map.devices } = map →
      exec .epochReportTimeout s = .next (conclude s (sendCur (setChange u
        { number := c.number, map := map, flooded := now u }) none (.epoch c.number map)))) ∧
    (∀ (t u : State) (c : MasterChange) (l : List Nat) (map : FaultMap) (k : Nat), running s = true → isMaster s = true →
      sendResets s = t → t.epo.change = some c → c.t = some k → c.r = none →
      (awaited t c.map).filter (fun n => !c.switched.any (fun y => y.1 == n) && n != linearOf t t.mvt.coord) = l → l ≠ [] →
      k + 4000000 ≤ stamp t → fenceSilent t l = u → { c.map with devices := l.foldl withMember c.map.devices } = map →
      exec .epochReportTimeout s = .next (conclude s (floodR { u with epo := { u.epo with again := true } } { c with map := map } k)))

/-- EPOCH_FLOOD, SWITCH_TIME_FLOOD, ROUTE_EPOCH_SWITCH, ROUTE_EPOCH_RETIRE, FAULT_MAP_REPORT, COORDINATE_ANNOUNCEMENT, RE_AIM_NOTICE and
FABRIC_COMMANDED_RESET have the effect that their rules give (R77, R79 to R81, R115, R434, R507, R533, R609, R610, R614). -/
def Obligations.EpochEventsComplete : Prop :=
  ∀ (s : State),
    (∀ (number : Nat) (map : FaultMap) (t : State), running s = true → routeRetire s = t → t.cur.ready = true →
      (bankOf t (number % 2)).st = .idle ∨ (bankOf t (number % 2)).st = .staged →
      exec (.epochFlood number map) s = .next (conclude s
        (sendCur (stageEpoch t number map) (some t.rgl.rootCoord) (.ready (.route (linearOf t t.mvt.coord) (number % 2 ^ 32)))))) ∧
    (∀ (n t : Nat) (u : State), running s = true → (bankOf s (n % 2)).st = .staged → (bankOf s (n % 2)).number = n →
      { s with mvt := { s.mvt with dueT := some t, epochT := t } } = u →
      exec (.switchTimeFlood (.routeT n t)) s = .next (conclude s (if t ≤ stamp s then routeSwitch u else u))) ∧
    (∀ (n r : Nat), running s = true → (currentBank s).number = n →
      exec (.switchTimeFlood (.routeR n r)) s = .next (conclude s { s with mvt := { s.mvt with dueR := some r, epochR := r } })) ∧
    (∀ (e t : Nat) (x : Schedule) (u : State), running s = true → (idleBank s).sched = some x → x.epoch = e → s.stk.activating = true →
      { s with stk := { s.stk with dueT := some t, epochT := t } } = u →
      exec (.switchTimeFlood (.strikeT e t)) s = .next (conclude s (if t ≤ stamp s then strikeSwitchReport u else u))) ∧
    (∀ (e r : Nat) (x : Schedule), running s = true → currentSched s = some x → x.epoch = e →
      exec (.switchTimeFlood (.strikeR e r)) s = .next (conclude s { s with stk := { s.stk with dueR := some r, epochR := r } })) ∧
    (∀ (g e n t : Nat), running s = true → exec (.switchTimeFlood (.tree g e n t)) s = .next (conclude s (treeTimes s g e n t))) ∧
    (∀ (g e h : Nat) (c : TreeChange), running s = true → carHandle s g = some h → (carGroup s h).change = some c → c.epoch = e →
      exec (.switchTimeFlood (.treeRefused g e)) s = .next (conclude s (clearChange s g stNoResource))) ∧
    (∀ (t bit : Nat) (u v w : State) (r : SwitchReport), running s = true → s.mvt.dueT = some t → t ≤ stamp s →
      (if s.mvt.bank0.st = .staged then 0 else 1) = bit → (bankOf s bit).st = .staged →
      tellMap (applyMap (turnBank s bit) (bankOf s bit).map) = u → wakeCmds u (fun _ w => w == .routeEpoch) stOk [] = v →
      ({ strike := false, device := linearOf v v.mvt.coord, number := (bankOf s bit).number, time := stamp v } : SwitchReport) = r →
      sendCur v (some v.rgl.rootCoord) (.switched r) = w →
      exec .routeEpochSwitch s = .next (conclude s
        (carMapChanged (abandonFenced w (currentBank s).map (bankOf s bit).map) (currentBank s).map (bankOf s bit).map))) ∧
    (∀ (r : Nat) (t : State), running s = true → s.mvt.dueR = some r → r ≤ stamp s → (bankOf s (1 - currentBit s)).st = .old →
      setBank s (1 - currentBit s) {} = t → s.epo.change = none → t.epo.change = none →
      exec .routeEpochRetire s = .next (conclude s { t with mvt := { t.mvt with dueR := none } })) ∧
    (∀ (map : FaultMap) (t : State) (old : List Nat), running s = true → { s with mvt := { s.mvt with twinMap := some map } } = t →
      (s.mvt.twinMap.getD {}).devices = old →
      exec (.faultMapReport map) s = .next (conclude s
        ((map.devices.filter (fun n => !old.contains n)).foldl (fun t n => abandonRemote t (coordOf t n) (1 - t.brd.straps.plane) none)
            t))) ∧
    (∀ (port coord : Nat) (t : State), running s = true → hasLanes port = true →
      { s with epo := { s.epo with told := fmSet s.epo.told port (coord % 2 ^ 24) } } = t → s.mvt.selfValid = false →
      exec (.coordinateAnnouncement port coord) s = .next (conclude s (discover t))) ∧
    (∀ (port coord : Nat) (t : State), running s = true → hasLanes port = true →
      { s with epo := { s.epo with told := fmSet s.epo.told port (coord % 2 ^ 24) } } = t → s.mvt.selfValid = true →
      exec (.coordinateAnnouncement port coord) s = .next (conclude s
        (if peerAgrees s port && !peerAgrees t port then miswired t port else t))) ∧
    (∀ (coord failed : Nat) (t : State), running s = true →
      (connsTo s coord failed).foldl (reAim failed) (holderFailed s coord failed) = t →
      exec (.reAimNotice coord failed) s = .next (conclude s
        ((slotsTo t coord failed).foldl (fun s c => quarantine (failContext s c stDestFenced none) c) t))) ∧
    (∀ (sender : Nat), running s = true → s.rgl.rootValid = true → s.rgl.rootCoord = sender →
      exec (.fabricCommandedReset sender) s = .next (keep s (resetDevice s false)))

/-- HEARTBEAT_SEND, HELLO, HEARTBEAT, MIRROR, SYNC_DONE, MIRROR_CONFIRM, HEARTBEAT_TIMEOUT, ADOPT_QUEUE and SHADOW_WORD_POLL, when the bridge
is READY or they are due, have the effect that their rules give (R517, R520 to R524, R528, R534). -/
def Obligations.TwinFramesComplete : Prop :=
  ∀ (s : State),
    (running s = true → bridgeReady s = true →
      exec .heartbeatSend s = .next (conclude s (bump (queueFrame s (frameOf s 2 0 none)) 389))) ∧
    (∀ (f : TwinFrame) (t : State), running s = true → bridgeReady s = true → f.kind = 1 → hearFrame s f = t →
      exec (.hello f) s = .next (conclude s (pairStep
        { t with twn := { t.twn with pSerial := f.body % 2 ^ 64, rejoin := t.twn.rejoin || t.twn.state == .partnerDead } }))) ∧
    (∀ (f : TwinFrame) (t : State), running s = true → bridgeReady s = true → f.kind = 2 → bump (hearFrame s f) 390 = t →
      exec (.heartbeat f) s = .next (conclude s (pairStep { t with twn := { t.twn with heard := now t } }))) ∧
    (∀ (f : TwinFrame) (t u : State) (r : MirrorRec), running s = true → bridgeReady s = true → f.kind = 3 →
      pairStep (bump (hearFrame s f) 392) = t → f.seq = t.twn.rxSeq → f.record = some r →
      { t with twn := { t.twn with rxSeq := (t.twn.rxSeq + 1) % 2 ^ 32 } } = u → onPartner u = true →
      (u.twn.state = .syncing → sharedClash u r = false) →
      exec (.mirror f) s = .next (conclude s (writeRecord { u with twn := { u.twn with mirror := applyRec u.twn.mirror r } }))) ∧
    (∀ (f : TwinFrame) (t : State), running s = true → bridgeReady s = true → f.kind = 4 → tryPair (hearFrame s f) = t →
      exec (.syncDone f) s = .next (conclude s (pairStep
        { t with twn := { t.twn with syncGot := t.twn.state == .syncing || t.twn.syncGot } }))) ∧
    (∀ (seq : Nat), running s = true → (s.twn.confirmed + 2 ^ 32 - 1 - seq % 2 ^ 32) % 2 ^ 32 < 2 ^ 31 →
      exec (.mirrorConfirm seq) s = .next (conclude s
        (ungateThose s (fun n => decide ((seq % 2 ^ 32 + 2 ^ 32 - n) % 2 ^ 32 < 2 ^ 31))))) ∧
    (running s = true → s.twn.heard + 4000 ≤ now s → exec .heartbeatTimeout s = .next (conclude s (bridgeCause s 1))) ∧
    (∀ (q : Nat) (t u v w : State) (m : MirQueue) (lh : List Byte) (p : Option (List Byte)) (h last : Idx), running s = true →
      s.twn.adopting.contains q = true → { s with twn := { s.twn with adopting := without s.twn.adopting q } } = t →
      fmFind s.twn.mirror.queues q = some m → hostRead t m.cfg.fn m.cfg.headAddr 4 = (u, some lh) →
      hostRead u m.cfg.fn m.cfg.shadow 4 = (v, p) → BitVec.ofNat 32 (leNat lh) = h → lastOf m h p = last → recreate v q m h last = w →
      exec (.adoptQueue q) s = .next (conclude s (adoptionOver
        { w with twn := { w.twn with adoptedQueues := w.twn.adoptedQueues + 1 } }))) ∧
    (∀ (q : Nat) (x : Queue) (t : State) (l : List Byte), running s = true → queueOf s q = x → x.adopted = true → x.st ≠ .disabled →
      x.st ≠ .draining → hostRead s x.fn x.shadow 4 = (t, some l) →
      exec (.shadowWordPoll q) s = .next (conclude s (acceptDoorbell t q (BitVec.ofNat 32 (leNat l)))))

/-- FATAL_IN, FATAL_IN_DEASSERTED, TWIN_STOP_IN, TWIN_STOP_IN_DEASSERTED, TWIN_STOP_DELAY_EXPIRY, STOP_CONFIRM_TIMEOUT and STOP_OUT_RELEASE
have the effect that their rules give (R517, R524 to R527, R608). -/
def Obligations.StopsAndPinsComplete : Prop :=
  ∀ (s : State),
    (∀ (t : State), running s = true → seeFatal s = t → t.twn.state = .paired →
      exec .fatalIn s = .next (keep s (settle (declareAndAdopt
        (if t.twn.causeAt.isSome then t else { t with twn := { t.twn with cause := 3 } }))))) ∧
    (∀ (t : State), running s = true → seeFatal s = t → t.twn.state = .syncing ∨ t.twn.state = .alone →
      exec .fatalIn s = .next (keep s (settle (dieAlone t 3)))) ∧
    (∀ (t : State), running s = true → seeFatal s = t → t.twn.state = .down ∨ t.twn.state = .partnerDead →
      exec .fatalIn s = .next (keep s (settle t))) ∧
    (running s = false → exec .fatalIn s = .next (keep s { s with twn := { s.twn with fatalIn := true } })) ∧
    (running s = true → exec .fatalInDeasserted s = .next (keep s (settle { s with twn := { s.twn with fatalIn := false } }))) ∧
    (running s = false → exec .fatalInDeasserted s = .next (keep s { s with twn := { s.twn with fatalIn := false } })) ∧
    (running s = true → s.twn.stopIn = false →
      exec .twinStopIn s = .next (keep s (settle (fault { s with twn := { s.twn with stopIn := true } } 147 0)))) ∧
    (running s = true → s.twn.stopIn = true → exec .twinStopIn s = .next (keep s (settle s))) ∧
    (running s = false → exec .twinStopIn s = .next (keep s { s with twn := { s.twn with stopIn := true } })) ∧
    (running s = true → exec .twinStopInDeasserted s = .next (keep s (settle { s with twn := { s.twn with stopIn := false } }))) ∧
    (running s = false → exec .twinStopInDeasserted s = .next (keep s { s with twn := { s.twn with stopIn := false } })) ∧
    (∀ (t : Nat), running s = true → s.twn.causeAt = some t → isPaired s = true → s.brd.straps.plane = 1 → s.twn.stopEn = true →
      s.twn.stopOut = false → t + 5000 ≤ now s →
      exec .twinStopDelayExpiry s = .next (conclude s
        { s with twn := { s.twn with stopOut := true, stopAt := some (now s), fatalSeen := none } })) ∧
    (∀ (t : Nat), running s = true → s.twn.stopAt = some t → isPaired s = true → s.twn.stopOut = true → s.twn.fatalIn = false →
      t + 5000 ≤ now s → exec .stopConfirmTimeout s = .next (conclude s (fault (declareDead s) 146 0))) ∧
    (∀ (t : Nat), running s = true → s.twn.fatalSeen = some t → s.twn.stopOut = true → t + 10000 ≤ now s →
      exec .stopOutRelease s = .next (conclude s { s with twn := { s.twn with stopOut := false, stopAt := none, fatalSeen := none } })) ∧
    ((∃ t, exec .fatalIn s = .next t) ∧ (∃ t, exec .fatalInDeasserted s = .next t) ∧ (∃ t, exec .twinStopIn s = .next t) ∧
      (∃ t, exec .twinStopInDeasserted s = .next t) ∧ (∃ t, exec .twinStopDelayExpiry s = .next t) ∧
      (∃ t, exec .stopConfirmTimeout s = .next t) ∧ (∃ t, exec .stopOutRelease s = .next t))

/-- FAULT_OCCURRENCE, POWER_ON_RESET, WARM_RESET, RESET_RELEASE, LINK_HALF_RESET, FUNCTION_LEVEL_RESET, MACHINE_RECORD_READ, FIRMWARE_LOAD,
COORDINATE_DISCOVERY and SUPPLY_MONITOR have the effect that their rules give (R40, R184, R206, R270, R272, R543, R551, R599 to R605,
R607, R609, R616). -/
def Obligations.ResetsAndFaultsComplete : Prop :=
  ∀ (s : State),
    (∀ (occs os : List Occ) (t : State), running s = true → occs.filter (fun o => decide (o.src < 312)) = os →
      (os.filter (fun o => o.src == 293)).foldl (fun s _ => dropCached s) s = t →
      exec (.faultOccurrence occs) s = .next (keep s (settle { t with cus := { t.cus with raised := t.cus.raised ++ os } }))) ∧
    (∀ (occs : List Occ), s.inReset = false → s.cus.safe = true →
      exec (.faultOccurrence occs) s = .next (keep s (handleOccs s (occs.filter (fun o => decide (o.src < 312)))))) ∧
    (exec .powerOnReset s = .next (keep s (resetDevice s true))) ∧
    (exec .warmReset s = .next (keep s (resetDevice s false))) ∧
    (∀ (x y : Straps) (mode role : Nat), s.inReset = true → (if s.brd.cold then x.pcieMode % 2 else s.hif.mode) = mode →
      (if s.brd.cold then x.timeRole % 4 else s.rgl.cfgRole) = role →
      ({ pcieMode := mode, timeRole := x.timeRole % 4, plane := x.plane % 2, board := x.board % 4096 } : Straps) = y →
      exec (.resetRelease x) s = .next (keep s
        { s with
          inReset := false,
          brd := { s.brd with straps := y, cold := false },
          hif := { s.hif with mode := mode },
          rgl := { s.rgl with cfgRole := role, role := if role = 3 then 0 else role },
          mvt := { s.mvt with plane := x.plane % 2 } })) ∧
    (∀ (half : Nat), running s = true → halfExists s half = true →
      exec (.linkHalfReset half) s = .next (conclude s (functionReset (setHalf s half {}) (if half = 0 then 0 else 256)))) ∧
    (∀ (fn : Nat), running s = true → fn ≠ 0 → fn ≠ 256 → (fnOf s fn).present = true →
      exec (.functionLevelReset fn) s = .next (conclude s (resetFn s fn))) ∧
    (∀ (fn : Nat), running s = true → fn = 0 ∨ fn = 256 → fn = 0 ∨ (fnOf s fn).present = true →
      exec (.functionLevelReset fn) s = .next (conclude s (resetFn (disableVfs s fn) fn))) ∧
    (∀ (bytes b : List Byte) (t u : State) (ports : List Nat), running s = true → s.brd.record = false → padTo 16 bytes = b →
      recordValid b s.brd.straps.board = true → { s with brd := { s.brd with record := true, anchorPos := numAt b 8 2 } } = t →
      loadLaneTable ({ t with mvt := { t.mvt with shape := recordShape b } }) (padTo 464 (bytes.drop 16)) = u →
      ((List.range 12) ++ [14]).filter (mayTrain u) = ports →
      exec (.machineRecordRead bytes) s = .next (conclude s (ports.foldl (fun s p => setLane s p (startLane s p (laneOf s p)))
        { u with mvt := { u.mvt with linkFence := ports.filter (fun p => decide (p < 12)) } }))) ∧
    (∀ (bytes b : List Byte) (t u : State) (ports : List Nat), running s = true → s.brd.record = false → padTo 16 bytes = b →
      recordValid b s.brd.straps.board = false → { s with brd := { s.brd with record := true, anchorPos := numAt b 8 2 } } = t →
      loadLaneTable (fault t 304 256) (padTo 464 (bytes.drop 16)) = u → ((List.range 12) ++ [14]).filter (mayTrain u) = ports →
      exec (.machineRecordRead bytes) s = .next (conclude s (ports.foldl (fun s p => setLane s p (startLane s p (laneOf s p)))
        { u with mvt := { u.mvt with linkFence := ports.filter (fun p => decide (p < 12)) } }))) ∧
    (running s = true → s.brd.record = true → s.cur.ready = false → s.brd.served = false → s.brd.halted = false →
      bootable s (bootSlot s.brd s.brd.bootB) = true → exec .firmwareLoad s = .next (conclude s (startCurator s s.brd.bootB))) ∧
    (running s = true → s.brd.record = true → s.cur.ready = false → s.brd.served = false → s.brd.halted = false →
      bootable s (bootSlot s.brd s.brd.bootB) = false → bootable s (bootSlot s.brd (!s.brd.bootB)) = true →
      exec .firmwareLoad s = .next (conclude s (startCurator s (!s.brd.bootB)))) ∧
    (running s = true → s.brd.record = true → s.cur.ready = false → s.brd.served = false → s.brd.halted = false →
      bootable s (bootSlot s.brd s.brd.bootB) = false → bootable s (bootSlot s.brd (!s.brd.bootB)) = false →
      exec .firmwareLoad s = .next (conclude s (haltBoot s))) ∧
    (running s = true → s.cur.ready = true → s.mvt.selfValid = false → bitAt s.brd.straps.board 11 = true → s.mvt.shape ≠ [] →
      exec .coordinateDiscovery s = .next (conclude s (fixCoordinate s (s.brd.anchorPos * 256 + s.brd.straps.board % 256)))) ∧
    (running s = true → s.cur.ready = true → s.mvt.selfValid = false → bitAt s.brd.straps.board 11 = false ∨ s.mvt.shape = [] →
      exec .coordinateDiscovery s = .next (conclude s (discoverFrom s (coordSources s)))) ∧
    (∀ (src : Nat) (value : Int), running s = true → (src = 3 ∧ value < 700) ∨ (src = 305 ∧ value < 820) →
      exec (.supplyMonitor src value) s = .next (conclude s (fault s src value.toNat))) ∧
    (∀ (src : Nat) (value : Int), running s = true → (src = 306 ∧ value > gradeMax) ∨ (src = 307 ∧ value ≥ 125) →
      exec (.supplyMonitor src value) s = .next (conclude s (fault s src (ofSigned 64 value))))

/-- D3HOT_ENTRY, D0_RETURN, HOST_READ_COMPLETION, CONFIGURATION_REQUEST, HOST_LINK_TRAINED, ASPM_L1 and REMOTE_RELAY, when they reach a
device that runs, have the effect that their rules give (R181 to R186, R200, R202, R203, R507, R509, R617, R618). -/
def Obligations.HostEventsComplete : Prop :=
  ∀ (s : State),
    (∀ (fn : Nat), running s = true → fn = 0 ∨ (fnOf s fn).present = true →
      exec (.d3hotEntry fn) s = .next (conclude s (setFn s fn (fun f => { f with d3hot := true, stallFrom := none })))) ∧
    (∀ (fn : Nat), running s = true → (fnOf s fn).d3hot = true →
      exec (.d0Return fn) s = .next (conclude s (sendAllPending (setFn s fn (fun f => { f with d3hot := false })) fn))) ∧
    (∀ (addr : Nat) (data : List Byte) (t : State), running s = true →
      landWrites 1 0 s.issued.length (landWrites 0 0 s.issued.length s) = t →
      exec (.hostReadCompletion addr data none) s = .next (conclude s
        { t with host := memWrite t.host addr data, hostErr := t.hostErr.filter (clearError addr (max 1 data.length)) })) ∧
    (∀ (addr : Nat) (data : List Byte) (e : CplError) (t : State), running s = true →
      landWrites 1 0 s.issued.length (landWrites 0 0 s.issued.length s) = t →
      exec (.hostReadCompletion addr data (some e)) s = .next (conclude s
        { t with hostErr := t.hostErr.filter (clearError addr (max 1 data.length)) ++ [(addr, addr + max 1 data.length - 1, e)] })) ∧
    (∀ (fn bus : Nat) (t : State) (on : Bool) (u : State), running s = true → fn = 0 ∨ (fn = 256 ∧ s.hif.mode = 1) →
      setFn s fn (fun f => { f with rid := bus % 256 * 256 }) = t →
      setFn t fn (fun f => { f with bme := on, sinceFlr := f.sinceFlr && !on }) = u →
      exec (.configurationRequest fn bus (.busMaster on)) s = .next (keep s (settle (if on then sendAllPending u fn else u)))) ∧
    (∀ (fn bus : Nat) (t : State) (on : Bool), running s = true → fn = 0 ∨ (fn = 256 ∧ s.hif.mode = 1) →
      setFn s fn (fun f => { f with rid := bus % 256 * 256 }) = t → (fnOf t fn).vfEnable ≠ on →
      exec (.configurationRequest fn bus (.vfEnable on)) s = .next (keep s (settle (if on then enableVfs t fn else disableVfs t fn)))) ∧
    (∀ (fn bus : Nat) (t : State) (n : Nat), running s = true → fn = 0 ∨ (fn = 256 ∧ s.hif.mode = 1) →
      setFn s fn (fun f => { f with rid := bus % 256 * 256 }) = t → (fnOf t fn).vfEnable = false → n ≤ totalVfs t fn →
      exec (.configurationRequest fn bus (.numVfs n)) s = .next (keep s (settle (setFn t fn (fun f => { f with numVfs := n }))))) ∧
    (∀ (fn bus : Nat) (t : State) (on : Bool), running s = true → fn = 0 ∨ (fn = 256 ∧ s.hif.mode = 1) →
      setFn s fn (fun f => { f with rid := bus % 256 * 256 }) = t →
      exec (.configurationRequest fn bus (.relaxedOrdering on)) s = .next (keep s
        (settle (setFn t fn (fun f => { f with relaxed := on }))))) ∧
    (∀ (fn bus : Nat) (t : State) (code : Nat), running s = true → fn = 0 ∨ (fn = 256 ∧ s.hif.mode = 1) →
      setFn s fn (fun f => { f with rid := bus % 256 * 256 }) = t →
      exec (.configurationRequest fn bus (.completionTimeout code)) s = .next (keep s
        (settle (setFn t fn (fun f => { f with cplTimeout := code }))))) ∧
    (∀ (fn bus : Nat) (t : State) (on : Bool), running s = true → fn = 0 ∨ (fn = 256 ∧ s.hif.mode = 1) →
      setFn s fn (fun f => { f with rid := bus % 256 * 256 }) = t →
      exec (.configurationRequest fn bus (.tag10 on)) s = .next (keep s (settle (setFn t fn (fun f => { f with tag10 := on }))))) ∧
    (∀ (fn bus : Nat) (t : State) (on : Bool), running s = true → fn = 0 ∨ (fn = 256 ∧ s.hif.mode = 1) →
      setFn s fn (fun f => { f with rid := bus % 256 * 256 }) = t →
      exec (.configurationRequest fn bus (.functionMask on)) s = .next (keep s
        (settle (sendAllPending (setFn t fn (fun f => { f with fnMask := on })) fn)))) ∧
    (∀ (fn bus : Nat) (t : State) (on : Bool), running s = true → fn = 0 ∨ (fn = 256 ∧ s.hif.mode = 1) →
      setFn s fn (fun f => { f with rid := bus % 256 * 256 }) = t → fn ≠ 256 →
      exec (.configurationRequest fn bus (.msixEnable on)) s = .next (keep s
        (settle (sendAllPending (setFn t fn (fun f => { f with msixEn := on })) fn)))) ∧
    (∀ (fn bus : Nat) (t : State) (on : Bool), running s = true → fn = 0 ∨ (fn = 256 ∧ s.hif.mode = 1) →
      setFn s fn (fun f => { f with rid := bus % 256 * 256 }) = t → (fnOf t fn).vfEnable = false →
      exec (.configurationRequest fn bus (.ari on)) s = .next (keep s (settle (setFn t fn (fun f => { f with ari := on }))))) ∧
    (∀ (fn bus : Nat) (t : State) (code : Nat), running s = true → fn = 0 ∨ (fn = 256 ∧ s.hif.mode = 1) →
      setFn s fn (fun f => { f with rid := bus % 256 * 256 }) = t → code ≤ 2 →
      exec (.configurationRequest fn bus (.maxPayload code)) s = .next (keep s
        (settle (setFn t fn (fun f => { f with maxPayload := code }))))) ∧
    (∀ (fn bus : Nat) (t : State) (code : Nat), running s = true → fn = 0 ∨ (fn = 256 ∧ s.hif.mode = 1) →
      setFn s fn (fun f => { f with rid := bus % 256 * 256 }) = t → code ≤ 5 →
      exec (.configurationRequest fn bus (.maxRead code)) s = .next (keep s
        (settle (setFn t fn (fun f => { f with maxRead := code }))))) ∧
    (∀ (fn bus : Nat) (t : State) (mask : Nat), running s = true → fn = 0 ∨ (fn = 256 ∧ s.hif.mode = 1) →
      setFn s fn (fun f => { f with rid := bus % 256 * 256 }) = t →
      exec (.configurationRequest fn bus (.aerClear mask)) s = .next (keep s
        (settle (setFn t fn (fun f => { f with aer := f.aer - Nat.land f.aer mask }))))) ∧
    (∀ (fn bus : Nat) (t : State) (n base : Nat) (vf : Bool), running s = true → fn = 0 ∨ (fn = 256 ∧ s.hif.mode = 1) →
      setFn s fn (fun f => { f with rid := bus % 256 * 256 }) = t → n = 0 ∨ ((n = 2 ∨ n = 4) ∧ (vf = true ∨ fn = 0)) →
      exec (.configurationRequest fn bus (.bar n vf base)) s = .next (keep s
        (settle (setFn t fn (fun f => { f with bars := fmSet f.bars (if vf then 10 + n else n) base }))))) ∧
    (∀ (fn bus : Nat) (w : CfgWrite) (on : Bool), running s = true → fn ≠ 0 → fn ≠ 256 → (fnOf s fn).present = true →
      w = .relaxedOrdering on →
      exec (.configurationRequest fn bus w) s = .next (keep s (settle (setFn s fn (fun f => { f with relaxed := on }))))) ∧
    (∀ (half speed width : Nat), running s = true → halfExists s half = true → 1 ≤ speed → speed ≤ 5 →
      [1, 2, 4, 8, 16].contains width = true → width ≤ (if s.hif.mode = 1 then 8 else 16) →
      exec (.hostLinkTrained half speed width) s = .next (conclude s (setFn (setHalf s half
        { up := true, speed := speed, width := width, l1 := false }) (if half = 0 then 0 else 256) (fun f => { f with
          present := true })))) ∧
    (∀ (half : Nat) (enter : Bool), running s = true → halfExists s half = true → (linkHalf s half).up = true →
      exec (.aspmL1 half enter) s = .next (conclude s (setHalf s half { linkHalf s half with l1 := enter }))) ∧
    (∀ (coord plane tenant requester n action : Nat) (t : State) (st : Nat), running s = true → n ≤ 4095 → 1 ≤ requester →
      requester ≤ 63 → action ≤ 2 → (lockGroup s (n / 64)).configured = true → (lockGroup s (n / 64)).twin = true →
      peerAccess s n (twinId tenant requester) action = (t, st) →
      exec (.remoteRelay (.access true coord plane tenant requester n action)) s = .next (conclude s
        (sendCur t none (.lockAnswer st (lockWord (lockOf t n)))))) ∧
    (∀ (coord plane tenant requester n action k : Nat) (t : State) (st : Nat), running s = true → n ≤ 4095 → 1 ≤ requester →
      requester ≤ 63 → action ≤ 2 → (lockGroup s (n / 64)).configured = true → (lockGroup s (n / 64)).remote = true →
      slotOfRequester s { coord, plane, tenant, requester } = some k → peerAccess s n (remoteId k) action = (t, st) →
      exec (.remoteRelay (.access false coord plane tenant requester n action)) s = .next (conclude s
        (trimSlots (sendCur t (some coord) (.lockAnswer st (lockWord (lockOf t n))))))) ∧
    (∀ (twin : Bool) (coord plane tenant : Nat), running s = true →
      exec (.remoteRelay (.flr twin coord plane tenant)) s = .next (conclude s
        (if twin then abandonLocks s (isTwinOf (some tenant)) else abandonRemote s coord plane (some tenant))))

/-- REGISTRAR_POWER_ON, TAP_FRAME, TAP_STOPPED, ENERGY_SAMPLE, PERIOD_BOUNDARY, SEAL, CALIBRATION_WRITE and CAL_EN have the effect that their
rules give, whatever the main die's condition, but for the tap, which sends nothing while the main die is in reset (R580, R581, R585,
R588, R590, R592, R593). -/
def Obligations.RegistrarEventsComplete : Prop :=
  ∀ (s : State),
    (∀ (n : Nat) (t : State) (st : RegStore) (g : Registrar), draw s = (n, t) → s.rgs.store = st →
      (st.blown && st.imageDigest != st.sealDigest) = false → bootedRegistrar st (n % 2 ^ 32) false = g →
      exec .registrarPowerOn s = .next { { t with rgs := regEvent g 1 (st.imageVersion % 2 ^ 16) } with pending := s.pending }) ∧
    (∀ (n : Nat) (t : State) (st : RegStore) (g : Registrar), draw s = (n, t) → s.rgs.store = st → st.blown = true →
      st.imageDigest ≠ st.sealDigest → bootedRegistrar st (n % 2 ^ 32) true = g →
      exec .registrarPowerOn s = .next {
        { t with rgs := regTamper (regEvent g 1 (st.imageVersion % 2 ^ 16)) 2 } with pending := s.pending }) ∧
    (∀ (lost bad : Bool) (t u : State), s.inReset = false →
      { s with tap := { number := (s.tap.number + 1) % 2 ^ 32, incs := [] } } = t →
      (if lost then t else { t with rgs := regFrame t.rgs bad s.tap.number (stamp t) t.rgl.synced s.tap.incs }) = u →
      exec (.tapFrame lost bad) s = .next { u with pending := s.pending }) ∧
    (∀ (g : Registrar), s.rgs = g → regRunning g = true → g.quiet ≥ 100 → g.stopped = false →
      exec .tapStopped s = .next {
        { s with rgs := regEvent { g with stopped := true, stop := true } 3 (g.lastFrame.getD 0) } with pending := s.pending }) ∧
    (∀ (e : EnergySample) (g : Registrar), s.rgs = g → regRunning g = true → e.coreOk = true → e.sramOk = true →
      exec (.energySample e) s = .next { { s with rgs := sampleClock { meters g e with bad := 0 } } with pending := s.pending }) ∧
    (∀ (e : EnergySample) (g : Registrar), s.rgs = g → regRunning g = true → e.coreOk = false → e.sramOk = true →
      bitAt g.bad 0 = false →
      exec (.energySample e) s = .next {
        { s with rgs := regEvent (sampleClock { meters g e with sensor := true, bad := 1 }) 5 1 } with pending := s.pending }) ∧
    (∀ (e : PeriodEnd) (l : List PeriodEnd) (k g : Registrar), s.rgs.ended = e :: l → regRunning s.rgs = true →
      regWrite { s.rgs with ended := l } 3 0 e.time e.flags (e.core / 100000) (e.sram / 100000) e.peak = k → trafficRecords e k = g →
      exec .periodBoundary s = .next { { s with rgs := { g with before_ := e.traffic } } with pending := s.pending }) ∧
    (∀ (g k : Registrar), s.rgs = g → g.on = true → g.store.blown = false → { g with store := blowFuse g.store } = k →
      exec .seal_ s = .next { { s with rgs := regEvent k 1 (k.store.imageVersion % 2 ^ 16) } with pending := s.pending }) ∧
    (∀ (w : CalWrite) (g : Registrar), s.rgs = g → g.on = true → g.store.blown = false →
      exec (.calibrationWrite w) s = .next { { s with rgs := { g with store := calStore g.store w } } with pending := s.pending }) ∧
    (∀ (w : CalWrite), s.rgs.on = true → s.rgs.store.blown = true →
      exec (.calibrationWrite w) s = .next { { s with rgs := regTamper s.rgs 1 } with pending := s.pending }) ∧
    (s.rgs.on = true → s.rgs.store.blown = true →
      exec .calEn s = .next { { s with rgs := regTamper s.rgs 3 } with pending := s.pending })

/-- A step takes the command at the front of the queue and is that command's `exec` with the queue's rest; on an empty queue the block idles
(log entry 28: the idling is the model's choice). -/
def Obligations.StepRunsTheFrontCommand : Prop :=
  ∀ (s : State),
    (∀ (c : Instr) (rest : List Instr), s.pending = c :: rest → step s = exec c { s with pending := rest }) ∧
    (s.pending = [] → step s = .next s)

/-- After power-on reset registers read the values that their Reset columns give; the queue is empty, the device is held in reset and out of
the safe state, and host memory lists nothing (R44, R88, R142, R176, R209, R304, R369, R400, R441, R473, R494, R575; that memory lists
nothing is log entry 7). -/
def Obligations.ResetValuesAsStated : Prop :=
  (resetReads.all (fun x => registerField State.reset x.1 x.2.1 x.2.2.1 x.2.2.2.1 == some x.2.2.2.2) = true) ∧
  (State.reset.pending = [] ∧ State.reset.inReset = true ∧ State.reset.cus.safe = false) ∧
  (State.reset.host = [] ∧ memWf State.reset.host = true)

/-- No command changes the queue of the commands behind it, and no command but the Registrar's own events changes anything of the
Registrar's: none of the resets, the safe state or any other event of the main die does (R32, R49, R580). -/
def Obligations.QueueAndRegistrarStayAsTheyWere : Prop :=
  ∀ (i : Instr) (s t : State),
    (exec i s = .next t → t.pending = s.pending) ∧
    (exec i s = .next t → registrarEvent i = false → t.rgs = s.rgs) ∧
    (step s = .next t → t.pending = s.pending.tail) ∧
    (Calm t → conclude s t = { t with pending := s.pending, rgs := s.rgs })

/-- In reset and in the safe state nothing acts on the main die but time, occurrences, the levels of pins, configuration requests, resets and
their release: every other command leaves the state as it was, or names a port without lanes (R551, R599). -/
def Obligations.StoppedDeviceObeysFewCommands : Prop :=
  ∀ (i : Instr) (s : State),
    (running s = false → registrarEvent i = false → actsWhenStopped i = false →
      (exec i s = .next s ∨ ∃ p, hasLanes p = false ∧ exec i s = .fault (.noSuchPort p))) ∧
    (∀ (sender : Nat), running s = false → exec (.fabricCommandedReset sender) s = .next s)

/-- The device leaves the safe state only by warm reset or power-on reset; SAFE_PRIOR is then 1 and stays so through the release of the
reset; FATAL_OUT is asserted in the safe state and in any reset (R553). -/
def Obligations.SafeStateEndsOnlyByReset : Prop :=
  ∀ (s t : State),
    (s.cus.safe = true → step s = .next t →
      (t.cus.safe = true ∨ ∃ rest, s.pending = .warmReset :: rest ∨ s.pending = .powerOnReset :: rest)) ∧
    (∀ (i : Instr), s.cus.safe = true → i = .warmReset ∨ i = .powerOnReset →
      (∃ u, exec i s = .next u ∧ u.cus.safe = false ∧ u.cus.safePrior = true ∧ u.inReset = true)) ∧
    (∀ (x : Straps), (∃ u, exec (.resetRelease x) s = .next u ∧ u.cus.safePrior = s.cus.safePrior)) ∧
    (s.cus.safe = true ∨ s.inReset = true → fatalOut s = true)

/-- Every fault source raised in a step is handled in that step: no step leaves one raised (R543, R545; that a step is the tick of its
occurrences is the model's choice, log entry 29). -/
def Obligations.EveryStepHandlesWhatItRaises : Prop :=
  ∀ (s t : State),
    s.cus.raised = [] → step s = .next t → t.cus.raised = []

/-- At reset nothing raised is waiting, and every SEEN bit and COUNT is 0 (R16, R556). -/
def Obligations.NothingIsRaisedAtReset : Prop :=
  ∀ (src : Nat),
    (State.reset.cus.raised = []) ∧
    ((fmGet State.reset.cus.srcs src {}).count = 0 ∧ (fmGet State.reset.cus.srcs src {}).seen = false)

/-- From SEAL on, no step of any kind changes a sealed parameter or the image, or unblows the fuse; the tamper flag and its first cause are
never cleared (R592, R593). -/
def Obligations.SealedParametersNeverChange : Prop :=
  ∀ (s t : State),
    (s.rgs.store.blown = true → step s = .next t →
      t.rgs.store = { s.rgs.store with tamper := t.rgs.store.tamper, cause := t.rgs.store.cause }) ∧
    (s.rgs.store.tamper = true → step s = .next t → t.rgs.store.tamper = true) ∧
    (s.rgs.store.cause ≠ 0 → step s = .next t → t.rgs.store.cause = s.rgs.store.cause)

/-- Host memory keeps its canonical form under every write; the bytes written are read back, and every other byte is as the earlier writes of
the same PCIe link leave it; a function that may not access memory writes nothing, and a read stores nothing (R185, R202; the form is the
model's own). -/
def Obligations.HostMemoryOperations : Prop :=
  ∀ (s : State) (fn a : Nat) (l : List Byte),
    (memWf s.host = true → canAccess s fn = true → memRead (hostWrite s fn a l).host a l.length = l) ∧
    (∀ (x : Nat), x < a ∨ a + l.length ≤ x →
      memGet (hostWrite s fn a l).host x = memGet (if canAccess s fn = true then pushWrites s fn else s).host x) ∧
    (canAccess s fn = false → hostWrite s fn a l = s) ∧
    (memWf s.host = true → memWf (hostWrite s fn a l).host = true) ∧
    (∀ (n : Nat), (hostRead s fn a n).1.host = (if canAccess s fn = true then pushWrites s fn else s).host) ∧
    (underWay s (halfOf s fn) = [] → pushWrites s fn = s)

/-- The end of a command writes host memory only in its response, in bytes 32 to 63 of its slot and in the head word, and where EVENT is 0
changes nothing of the other units; the mailbox holds the reply and the queue is free again (R252, R258). -/
def Obligations.CommandEndTouchesOnlyItsReply : Prop :=
  ∀ (s : State) (fn st d : Nat) (c : Cmd) (resp : List Byte),
    (∀ (x : Nat), (x < c.respAddr ∨ c.respAddr + resp.length ≤ x) → (x < c.slotAddr + 32 ∨ c.slotAddr + 64 ≤ x) →
      (x < (admOf s fn).head ∨ (admOf s fn).head + 4 ≤ x) → c.event = false →
      memGet (finish s fn c st resp d).host x = memGet (if canAccess s fn = true then pushWrites s fn else s).host x) ∧
    (∀ (t : State), c.event = false → finish s fn c st resp d = t →
      (t.rings = s.rings ∧ t.xlt = s.xlt ∧ t.ctx = s.ctx ∧ t.cat = s.cat ∧ t.car = s.car ∧ t.mov = s.mov ∧ t.stk = s.stk ∧
          t.sch = s.sch ∧ t.pal.locks = s.pal.locks ∧ t.mvt = s.mvt ∧ t.lne = s.lne ∧ t.rgl = s.rgl ∧ t.epo = s.epo ∧ t.twn = s.twn)) ∧
    (∀ (t : State), c.event = false → finish s fn c st resp d = t →
      (∃ b : Fn → Nat, t.hif = s.hif ∨ t.hif = { s.hif with fns := fmModify s.hif.fns fn {} (fun f => { f with aer := b f }) })) ∧
    (underWay s (halfOf s fn) = [] → pushWrites s fn = s) ∧
    (∀ (t : State), canAccess s fn = true → memWf s.host = true →
      (c.respAddr + resp.length ≤ c.slotAddr + 32 ∨ c.slotAddr + 64 ≤ c.respAddr) →
      (c.respAddr + resp.length ≤ (admOf s fn).head ∨ (admOf s fn).head + 4 ≤ c.respAddr) →
      ((admOf s fn).head + 4 ≤ c.slotAddr + 32 ∨ c.slotAddr + 64 ≤ (admOf s fn).head) → c.event = false → finish s fn c st resp d = t →
      (memRead t.host c.respAddr resp.length = resp ∧ memRead t.host (c.slotAddr + 32) 32 = replyBytes (admOf t fn).mailbox ∧
          memRead t.host (admOf s fn).head 4 = leBytes 4 (c.index + 1).toNat)) ∧
    (∀ (t : State), c.event = false → finish s fn c st resp d = t →
      ((admOf t fn).cmd = none ∧ (admOf t fn).mailbox.tag = c.tag ∧ (admOf t fn).mailbox.opcode = c.opcode ∧
          (admOf t fn).mailbox.detail = d))

/-- A write to a lock follows the table of R504, row by row, and changes no other lock; a bad release raises PAL_BAD_RELEASE. -/
def Obligations.LockWritesFollowTheTable : Prop :=
  ∀ (s t : State) (n id : Nat),
    (id ≠ 0 → (lockOf s n).owner = 0 → (lockWrite s n id false).1 = t →
      (lockOf t n = { lockOf s n with owner := id } ∧ ∀ m, m ≠ n → lockOf t m = lockOf s m)) ∧
    (id ≠ 0 → (lockOf s n).owner ≠ 0 → (lockWrite s n id false).1 = t → (∀ m, lockOf t m = lockOf s m)) ∧
    (id ≠ 0 → (lockOf s n).owner = id → (lockWrite s n id true).1 = t →
      ((lockOf t n).owner = 0 ∧ (lockOf t n).abandoned = false ∧ ∀ m, m ≠ n → lockOf t m = lockOf s m)) ∧
    ((lockOf s n).owner ≠ id → (lockWrite s n id true).1 = t →
      ((∀ m, lockOf t m = lockOf s m) ∧ t.cus.raised = s.cus.raised ++ [⟨138, n + id * 2 ^ 16⟩]))

/-- A count that passes 2^48 − 1 goes on from 0 modulo 2^48 and sets WRAPPED in mode WRAP, and stays at 2^48 − 1 and sets SATURATED in mode
SATURATE; neither bit is cleared by counting (R560). -/
def Obligations.CountersWrapOrSaturate : Prop :=
  ∀ (c d : Cnt) (k : Nat),
    (c.value < 2 ^ 48 → c.old = none → c.saturate = false → cntAdd c k = d →
      (d.value = (c.value + k) % 2 ^ 48 ∧ d.wrapped = (c.wrapped || decide (c.value + k > 2 ^ 48 - 1)) ∧ d.saturated = c.saturated ∧
          d.saturate = c.saturate ∧ d.thresh = c.thresh)) ∧
    (c.value < 2 ^ 48 → c.old = none → c.saturate = true → cntAdd c k = d →
      (d.value = min (c.value + k) (2 ^ 48 - 1) ∧ d.saturated = (c.saturated || decide (c.value + k > 2 ^ 48 - 1)) ∧
          d.wrapped = c.wrapped ∧ d.saturate = c.saturate ∧ d.thresh = c.thresh))

/-- Over any n consecutive ticks an enabled shaper without a pending reset admits at most BURST + RATE × n / 10^9 packets, whatever it admits
in each (R485, R486). -/
def Obligations.ShapersAdmitAtMostTheirRate : Prop :=
  ∀ (x y : Shaper) (ks : List Nat),
    x.en = true → x.due = false → x.tokens ≤ bucketCap x → admits x ks = some y →
      (ks.sum * 1000000000 ≤ max 1 x.burst * 1000000000 + x.rate * ks.length ∧ y.tokens ≤ bucketCap x)

/-- An occurrence merges into its source's record where the source wrote one within the last 1,000 ticks, and else writes a new record into
the next slot; every other slot of the log stays as it is (R548, R549). -/
def Obligations.FaultLogMergesOrWrites : Prop :=
  ∀ (s t : State) (o : Occ) (b : Bool),
    (∀ (seq at_ : Nat), (fmGet s.cus.srcs o.src {}).lastRec = some (seq, at_) → now s < at_ + 1000 →
      (logSlot s (seq % 1024)).seq = seq → logOcc s o = (t, b) →
      (b = false ∧ (logSlot t (seq % 1024)).count = min ((logSlot s (seq % 1024)).count + 1) 65535 ∧
          (logSlot t (seq % 1024)).detail = o.detail % 2 ^ 64 ∧ (logSlot t (seq % 1024)).seq = seq ∧
          (logSlot t (seq % 1024)).time = (logSlot s (seq % 1024)).time ∧
          (logSlot t (seq % 1024)).source = (logSlot s (seq % 1024)).source ∧ t.cus.nextSeq = s.cus.nextSeq ∧
          ∀ m, m ≠ seq % 1024 → logSlot t m = logSlot s m)) ∧
    ((∀ seq at_, (fmGet s.cus.srcs o.src {}).lastRec = some (seq, at_) → at_ + 1000 ≤ now s ∨ (logSlot s (seq % 1024)).seq ≠ seq) →
      logOcc s o = (t, b) →
      (∃ r, b = true ∧ t.cus.nextSeq = (s.cus.nextSeq + 1) % 2 ^ 32 ∧ logSlot t (s.cus.nextSeq % 1024) = r ∧ r.seq = s.cus.nextSeq ∧
          r.source = o.src ∧ r.sev = min (sevNow s o.src) 3 ∧ r.isLocal = localTime s ∧ r.count = 1 ∧ r.time = stamp s ∧
          r.detail = o.detail % 2 ^ 64 ∧ ∀ m, m ≠ s.cus.nextSeq % 1024 → logSlot t m = logSlot s m))

/-- A tick lies in a window exactly if it lies in one of its occurrences, of which those that begin before the switch time of their schedule
epoch are not used; and the end that is found is that occurrence's (R97). -/
def Obligations.OccurrencesOfAWindow : Prop :=
  ∀ (b : StrikeBank) (w : Window) (t e : Nat),
    (0 < w.length → w.length ≤ w.period →
      (occurrenceEnd b w t = some e ↔ ∃ k, baseOf b + w.offset + k * w.period ≤ t ∧
          t < baseOf b + w.offset + k * w.period + w.length ∧ e = baseOf b + w.offset + k * w.period + w.length ∧
          b.from_ ≤ baseOf b + w.offset + k * w.period)) ∧
    (∀ (s : State), tickNow s = s.rgl.time / 4)

/-- The first fatal occurrence sets CUS_FATAL, its time-stamp and its detail; of several fatal sources in that tick the lowest is recorded
and FATAL_COUNT counts the others; occurrences after entry increment COUNT and write no record (R552). -/
def Obligations.FirstFatalIsRecorded : Prop :=
  ∀ (s t : State) (os : List Occ),
    (∀ (o : Occ), s.cus.safe = false → firstFatal s os = some o → handleOccs s os = t →
      (t.cus.safe = true ∧ ∃ r, t.cus.fatal = some r ∧ r.source = o.src ∧ r.isLocal = localTime s ∧
          r.others = otherSources o.src (os.filter (fun x => actsFatal s x.src)) ∧ r.ts = stamp s ∧ r.detail = o.detail % 2 ^ 64)) ∧
    (∀ (o : Occ), firstFatal s os = some o → (o ∈ os ∧ actsFatal s o.src = true ∧ ∀ x ∈ os, actsFatal s x.src = true → o.src ≤ x.src)) ∧
    (∀ (o : Occ), s.cus.safe = true → handleOccs s [o] = t →
      (t.cus.log = s.cus.log ∧ t.cus.nextSeq = s.cus.nextSeq ∧ t.cus.fatal = s.cus.fatal ∧
          (fmGet t.cus.srcs o.src {}).count = ((fmGet s.cus.srcs o.src {}).count + 1) % 2 ^ 32))

/-- An exact-mode result depends only on the multiset of contributions: whatever the shape of the tree and the order of arrival, the same
contributions give the same bytes (R423 to R425). -/
def Obligations.ExactSumsDependOnTheMultisetOnly : Prop :=
  ∀ (p : CarParams) (a b : Shape),
    p.exact = true → (leaves a).Perm (leaves b) →
      (combined p a = combined p b ∧ resultBytes p (combined p a) = resultBytes p (combined p b))

/-- Every NaN that a collective produces is the canonical quiet NaN of its type, in native and in exact mode (R421). -/
def Obligations.CollectiveNaNsAreCanonical : Prop :=
  ∀ (p : CarParams) (w : Nat) (a : ExactAcc),
    (2 ≤ p.type → p.type ≤ 4 → fval (fmtOf p.type) (resultWord p w) = .nan →
      resultWord p w = (if p.type = 2 then 0x7FF8000000000000 else if p.type = 3 then 0x7FC00000 else 0x7FC0)) ∧
    (2 ≤ p.type → p.type ≤ 4 → fval (fmtOf p.type) (exactWord (fmtOf p.type) a) = .nan →
      exactWord (fmtOf p.type) a = (if p.type = 2 then 0x7FF8000000000000 else if p.type = 3 then 0x7FC00000 else 0x7FC0))

/-- Integer SUM, MIN, MAX and the bitwise operations are commutative and associative, so that the order of arrival does not matter; SUM is
modulo 2^64 (R420). -/
def Obligations.IntegerCollectivesIgnoreOrder : Prop :=
  ∀ (p : CarParams) (a b c : Nat),
    (p.type ≤ 1 → a < 2 ^ 64 → b < 2 ^ 64 → c < 2 ^ 64 →
      (combineWord p a b = combineWord p b a ∧ combineWord p (combineWord p a b) c = combineWord p a (combineWord p b c) ∧
          combineWord p a b < 2 ^ 64)) ∧
    (p.type ≤ 1 → p.rop = 0 → combineWord p a b = (a + b) % 2 ^ 64)

/-- A request is new if its PSN is one of the 256 from E onwards that are not yet received, a duplicate if it is one of the 256 below E or is
received already, and out of the window otherwise (R348). -/
def Obligations.PsnsAreClassifiedByTheWindow : Prop :=
  ∀ (x : Ctx) (p : Psn),
    (∀ (k : Nat), k < 256 → p = x.e + BitVec.ofNat 24 k → psnClass x p = (if x.got.contains p then .duplicate else .new)) ∧
    (∀ (k : Nat), 1 ≤ k → k ≤ 256 → p = x.e - BitVec.ofNat 24 k → psnClass x p = .duplicate) ∧
    ((∀ k, k < 256 → p ≠ x.e + BitVec.ofNat 24 k) → (∀ k, 1 ≤ k → k ≤ 256 → p ≠ x.e - BitVec.ofNat 24 k) → psnClass x p = .outside)
end

