-- ==== Sys2Proof/Laws/Ops.lean ====
section
/-! SUPPORT. Laws of the named operations: sparse tables, bytes and numbers, host memory, accesses for a function, counters. -/

namespace Sys2Proof.Machine

/-! ### Sparse tables -/

@[simp] theorem fmFind_nil {α : Type} (n : Nat) : fmFind ([] : FMap α) n = none := rfl

/-- The entry just set is found. -/
@[simp] theorem fmFind_fmSet_same {α : Type} (m : FMap α) (n : Nat) (v : α) : fmFind (fmSet m n v) n = some v := by
  induction m with
  | nil => simp [fmSet, fmFind]
  | cons h m ih =>
    obtain ⟨k, w⟩ := h
    simp only [fmSet]
    split
    · simp [fmFind]
    · split
      · simp [fmFind]
      · rename_i h1 h2
        simp only [fmFind]
        rw [if_neg (fun e => h2 e.symm), ih]

/-- Every other entry is as before. -/
theorem fmFind_fmSet_other {α : Type} (m : FMap α) {n k : Nat} (v : α) (h : k ≠ n) : fmFind (fmSet m n v) k = fmFind m k := by
  induction m with
  | nil => simp [fmSet, fmFind, Ne.symm h]
  | cons x m ih =>
    obtain ⟨j, w⟩ := x
    simp only [fmSet]
    split
    · simp [fmFind, Ne.symm h]
    · split
      · rename_i h1 h2
        subst h2
        simp [fmFind, Ne.symm h]
      · simp [fmFind, ih]

@[simp] theorem fmGet_fmSet_same {α : Type} (m : FMap α) (n : Nat) (v d : α) : fmGet (fmSet m n v) n d = v := by
  simp [fmGet]

theorem fmGet_fmSet_other {α : Type} (m : FMap α) {n k : Nat} (v d : α) (h : k ≠ n) : fmGet (fmSet m n v) k d = fmGet m k d := by
  simp [fmGet, fmFind_fmSet_other m v h]

/-! ### Numbers and their bytes -/

@[simp] theorem leBytes_length (n v : Nat) : (leBytes n v).length = n := by
  induction n generalizing v with
  | zero => rfl
  | succ n ih => simp [leBytes, ih]

/-- The bytes of a number spell the number again, modulo their width (R9). -/
theorem leNat_leBytes (n v : Nat) : leNat (leBytes n v) = v % 2 ^ (8 * n) := by
  induction n generalizing v with
  | zero => simp [leBytes, leNat, Nat.mod_one]
  | succ n ih =>
    simp only [leBytes, leNat, ih, BitVec.toNat_ofNat]
    rw [show 8 * (n + 1) = 8 + 8 * n by omega, Nat.pow_add, Nat.mod_mul]

/-! ### Memory -/

/-- A canonical memory lists its first cell below all others. -/
theorem memWf_cons {a : Nat} {b : Byte} {m : List Host.Cell} :
    memWf ((a, b) :: m) = true ↔ b ≠ memDefault ∧ (∀ c ∈ m, a < c.1) ∧ memWf m = true := by
  induction m generalizing a b with
  | nil => simp [memWf]
  | cons h m ih =>
    obtain ⟨k, v⟩ := h
    simp only [memWf, Bool.and_eq_true, bne_iff_ne, decide_eq_true_eq, List.mem_cons, forall_eq_or_imp]
    constructor
    · rintro ⟨⟨h1, h2⟩, h3⟩
      exact ⟨h1, ⟨h2, fun c hc => Nat.lt_trans h2 ((ih.1 h3).2.1 c hc)⟩, h3⟩
    · rintro ⟨h1, ⟨h2, -⟩, h3⟩
      exact ⟨⟨h1, h2⟩, h3⟩

/-- A byte below every listed address reads as an unlisted one. -/
theorem memGet_unlisted {m : List Host.Cell} {a : Nat} (h : ∀ c ∈ m, a ≠ c.1) : memGet m a = memDefault := by
  induction m with
  | nil => rfl
  | cons x m ih =>
    obtain ⟨k, v⟩ := x
    simp only [memGet]
    rw [if_neg (fun e => h (k, v) (by simp) e.symm), ih (fun c hc => h c (by simp [hc]))]

/-- What a memory lists after one byte is set was listed before or is that byte's cell. -/
theorem memSet_mem {m : List Host.Cell} {a : Nat} {v : Byte} {c : Host.Cell} (h : c ∈ memSet m a v) : c = (a, v) ∨ c ∈ m := by
  induction m with
  | nil =>
    simp only [memSet] at h
    split at h <;> simp_all
  | cons x m ih =>
    obtain ⟨k, w⟩ := x
    simp only [memSet] at h
    split at h
    · split at h <;> simp_all
    · split at h
      · split at h
        · simp [h]
        · rcases List.mem_cons.1 h with e | e <;> simp [e]
      · rcases List.mem_cons.1 h with e | e
        · simp [e]
        · rcases ih e with e | e <;> simp [e]

/-- Setting a byte keeps the canonical form. -/
theorem memSet_wf {m : List Host.Cell} (a : Nat) (v : Byte) (h : memWf m = true) : memWf (memSet m a v) = true := by
  induction m with
  | nil =>
    simp only [memSet]
    split <;> simp_all [memWf]
  | cons x m ih =>
    obtain ⟨k, w⟩ := x
    obtain ⟨h1, h2, h3⟩ := memWf_cons.1 h
    simp only [memSet]
    split
    · split
      · exact h
      · rename_i h4 h5
        refine memWf_cons.2 ⟨h5, fun c hc => ?_, h⟩
        rcases List.mem_cons.1 hc with e | e
        · simp [e, h4]
        · exact Nat.lt_trans h4 (h2 c e)
    · split
      · split
        · exact h3
        · rename_i h4 h5 h6
          exact memWf_cons.2 ⟨h6, fun c hc => h5 ▸ h2 c hc, h3⟩
      · refine memWf_cons.2 ⟨h1, fun c hc => ?_, ih h3⟩
        rcases memSet_mem hc with e | e
        · rw [e]
          change k < a
          omega
        · exact h2 c e

/-- The byte just set reads as set. -/
theorem memGet_memSet_same {m : List Host.Cell} (a : Nat) (v : Byte) (h : memWf m = true) : memGet (memSet m a v) a = v := by
  induction m with
  | nil =>
    simp only [memSet]
    split <;> simp_all [memGet]
  | cons x m ih =>
    obtain ⟨k, w⟩ := x
    obtain ⟨-, h2, h3⟩ := memWf_cons.1 h
    simp only [memSet]
    split
    · rename_i h4
      split
      · rename_i h5
        rw [h5]
        refine memGet_unlisted (fun c hc => ?_)
        rcases List.mem_cons.1 hc with e | e
        · rw [e]
          change a ≠ k
          omega
        · have := h2 c e
          omega
      · simp [memGet]
    · split
      · split
        · rename_i h5 h6
          rw [h6]
          exact memGet_unlisted (fun c hc => by have := h2 c hc; omega)
        · simp [memGet]
      · simp only [memGet]
        rw [if_neg (by omega), ih h3]

/-- Every other byte reads as before. -/
theorem memGet_memSet_other (m : List Host.Cell) {a k : Nat} (v : Byte) (h : k ≠ a) :
    memGet (memSet m a v) k = memGet m k := by
  induction m with
  | nil =>
    simp only [memSet]
    split <;> simp [memGet, Ne.symm h]
  | cons x m ih =>
    obtain ⟨j, w⟩ := x
    simp only [memSet]
    split
    · split <;> simp [memGet, Ne.symm h]
    · split
      · rename_i h1 h2
        subst h2
        split <;> simp [memGet, Ne.symm h]
      · simp [memGet, ih]

/-- Storing bytes keeps the canonical form. -/
theorem memWrite_wf {m : List Host.Cell} (a : Nat) (l : List Byte) (h : memWf m = true) : memWf (memWrite m a l) = true := by
  induction l generalizing m a with
  | nil => exact h
  | cons b l ih => exact ih (a + 1) (memSet_wf a b h)

/-- Bytes outside the stored ones read as before. -/
theorem memGet_memWrite_other (m : List Host.Cell) {a k : Nat} (l : List Byte) (h : k < a ∨ a + l.length ≤ k) :
    memGet (memWrite m a l) k = memGet m k := by
  induction l generalizing m a with
  | nil => rfl
  | cons b l ih =>
    simp only [memWrite, List.length_cons] at *
    rw [ih (memSet m a b) (by omega), memGet_memSet_other m b (by omega)]

/-- The bytes stored are those read back. -/
theorem memRead_memWrite {m : List Host.Cell} (a : Nat) (l : List Byte) (h : memWf m = true) :
    memRead (memWrite m a l) a l.length = l := by
  induction l generalizing m a with
  | nil => rfl
  | cons b l ih =>
    simp only [memWrite, List.length_cons, memRead]
    rw [memGet_memWrite_other _ l (by omega), memGet_memSet_same a b h, ih (a + 1) (memSet_wf a b h)]

/-- Bytes outside the stored ones are read back as before. -/
theorem memRead_memWrite_other (m : List Host.Cell) {a k n : Nat} (l : List Byte) (h : k + n ≤ a ∨ a + l.length ≤ k) :
    memRead (memWrite m a l) k n = memRead m k n := by
  induction n generalizing k with
  | zero => rfl
  | succ n ih =>
    simp only [memRead]
    rw [memGet_memWrite_other _ l (by omega), ih (by omega)]

@[simp] theorem memRead_length (m : List Host.Cell) (a n : Nat) : (memRead m a n).length = n := by
  induction n generalizing a with
  | zero => rfl
  | succ n ih => simp [memRead, ih]

/-! ### Counters and faults -/

/-- Counting changes the counters and the RW1C bits set in this tick. -/
theorem bumpBy_eq (s : State) (n k : Nat) : ∃ m j, bumpBy s n k = { s with mon := m, justSet := j } := by
  simp only [bumpBy]
  split <;> exact ⟨_, _, rfl⟩

@[simp] theorem bumpBy_host (s : State) (n k : Nat) : (bumpBy s n k).host = s.host := by
  obtain ⟨m, j, e⟩ := bumpBy_eq s n k
  rw [e]

@[simp] theorem bumpBy_cus (s : State) (n k : Nat) : (bumpBy s n k).cus = s.cus := by
  obtain ⟨m, j, e⟩ := bumpBy_eq s n k
  rw [e]

@[simp] theorem bump_host (s : State) (n : Nat) : (bump s n).host = s.host := bumpBy_host s n 1

@[simp] theorem bump_cus (s : State) (n : Nat) : (bump s n).cus = s.cus := bumpBy_cus s n 1

/-- A raised source waits for the end of the step, behind those raised before it. -/
@[simp] theorem fault_raised (s : State) (src detail : Nat) : (fault s src detail).cus.raised = s.cus.raised ++ [⟨src, detail⟩] := rfl

@[simp] theorem fault_host (s : State) (src detail : Nat) : (fault s src detail).host = s.host := rfl

/-! ### Writes under way (R200, R315) -/

/-- All that writes under way change when they become visible: the bytes of memory, their own list, and the draws that order them. -/
theorem landWrites_eq (half stop n : Nat) (s : State) : ∃ h i d,
    landWrites half stop n s = { s with host := h, issued := i, drawn := d } := by
  induction n generalizing s with
  | zero => exact ⟨_, _, _, rfl⟩
  | succ n ih =>
    simp only [landWrites]
    split
    · exact ⟨_, _, _, rfl⟩
    · split
      · exact ⟨_, _, _, rfl⟩
      · obtain ⟨h, i, d, e⟩ := ih (landOne (draw s).2 ‹_›)
        exact ⟨h, i, d, e⟩

/-- They keep the canonical form of memory. -/
theorem landWrites_wf (half stop n : Nat) {s : State} (h : memWf s.host = true) : memWf (landWrites half stop n s).host = true := by
  induction n generalizing s with
  | zero => exact h
  | succ n ih =>
    simp only [landWrites]
    split
    · exact h
    · split
      · exact h
      · exact ih (memWrite_wf _ _ h)

theorem pushWrites_eq (s : State) (fn : Nat) : ∃ h i d, pushWrites s fn = { s with host := h, issued := i, drawn := d } :=
  landWrites_eq _ _ _ s

theorem pushWrites_wf {s : State} (fn : Nat) (h : memWf s.host = true) : memWf (pushWrites s fn).host = true := landWrites_wf _ _ _ h

theorem settleWrites_eq (s : State) : ∃ h i d, settleWrites s = { s with host := h, issued := i, drawn := d } := by
  obtain ⟨h, i, d, e⟩ := landWrites_eq 0 1 s.issued.length s
  obtain ⟨h', i', d', e'⟩ := landWrites_eq 1 1 s.issued.length { s with host := h, issued := i, drawn := d }
  exact ⟨h', i', d', by rw [settleWrites, e, e']⟩

theorem settleWrites_wf {s : State} (h : memWf s.host = true) : memWf (settleWrites s).host = true :=
  landWrites_wf _ _ _ (landWrites_wf _ _ _ h)

/-- With no write under way there is nothing to become visible. -/
theorem landWrites_none {half : Nat} (stop n : Nat) {s : State} (h : underWay s half = []) : landWrites half stop n s = s := by
  cases n with
  | zero => rfl
  | succ n => simp [landWrites, mayLand, h]

theorem pushWrites_none {fn : Nat} {s : State} (h : underWay s (halfOf s fn) = []) : pushWrites s fn = s := landWrites_none _ _ h

@[simp] theorem pushWrites_nil (fn : Nat) {s : State} (h : s.issued = []) : pushWrites s fn = s :=
  pushWrites_none (by simp [underWay, h])

/-- A write that has become visible is no longer under way, and no other is under way that was not. -/
theorem underWay_landOne {s : State} {e : Issued} {half : Nat} (h : e ∈ underWay s half) :
    (underWay (landOne s e) half).length < (underWay s half).length := by
  have hf : halfOf (landOne s e) = halfOf s := rfl
  have hi : (landOne s e).issued = s.issued.map (fun x => if x = e then { x with landed := true } else x) := rfl
  simp only [underWay, hf, hi] at *
  generalize s.issued = l at h
  have le : ∀ l : List Issued, ((l.map (fun x => if x = e then { x with landed := true } else x)).filter
      (fun x => !x.landed && halfOf s x.fn == half)).length ≤ (l.filter (fun x => !x.landed && halfOf s x.fn == half)).length := by
    intro l
    induction l with
    | nil => simp
    | cons y l ih =>
      simp only [List.map_cons, List.filter_cons]
      by_cases c : y = e
      · simp only [c, if_true, Bool.not_true, Bool.false_and, Bool.false_eq_true, if_false]
        split <;> (try simp only [List.length_cons]) <;> omega
      · simp only [c, if_false]
        split <;> (try simp only [List.length_cons]) <;> omega
  induction l with
  | nil => simp at h
  | cons y l ih =>
    have k := le l
    simp only [List.map_cons, List.filter_cons] at h ⊢
    by_cases c : y = e
    · subst c
      have hp : (!y.landed && halfOf s y.fn == half) = true := by
        split at h
        · assumption
        · exact absurd (List.mem_filter.1 h).2 ‹_›
      simp only [if_true, Bool.not_true, Bool.false_and, Bool.false_eq_true, if_false, hp, List.length_cons]
      omega
    · simp only [c, if_false]
      split
      · rename_i hp
        simp only [hp, if_true, List.mem_cons] at h
        have := ih (h.resolve_left (fun x => c x.symm))
        simp only [List.length_cons]
        omega
      · rename_i hp
        simp only [hp] at h
        exact ih h

/-- Every write under way of a half has become visible. -/
theorem landWrites_over {half : Nat} {n : Nat} {s : State} (h : (underWay s half).length ≤ n) :
    underWay (landWrites half 0 n s) half = [] := by
  induction n generalizing s with
  | zero => exact List.eq_nil_of_length_eq_zero (by simpa [landWrites] using h)
  | succ n ih =>
    simp only [landWrites]
    split
    · rename_i hm
      cases hu : underWay s half with
      | nil => rfl
      | cons a l => simp [mayLand, hu] at hm
    · rename_i e l hm
      split
      · rename_i hn
        rw [List.getElem?_eq_none_iff] at hn
        simp only [List.length_cons, Nat.add_zero] at hn
        have := Nat.mod_lt (draw s).1 (show 0 < l.length + 1 by omega)
        omega
      · rename_i x hx
        have hmem : x ∈ underWay s half := (List.mem_filter.1 (hm ▸ List.mem_of_getElem? hx)).1
        have hd : underWay (draw s).2 half = underWay s half := rfl
        have := underWay_landOne (s := (draw s).2) (hd ▸ hmem)
        rw [hd] at this
        exact ih (by omega)

/-- After a function's writes have become visible none of its half is under way. -/
theorem pushWrites_over (s : State) (fn : Nat) : underWay (pushWrites s fn) (halfOf s fn) = [] :=
  landWrites_over (List.length_filter_le _ _)

@[simp] theorem pushWrites_again (s : State) (fn : Nat) : pushWrites (pushWrites s fn) fn = pushWrites s fn := by
  obtain ⟨h, i, d, e⟩ := pushWrites_eq s fn
  have k : halfOf (pushWrites s fn) fn = halfOf s fn := by rw [e]; rfl
  exact pushWrites_none (by rw [k]; exact pushWrites_over s fn)

/-! ### Accesses to host memory -/

/-- A write for a function that may access memory follows its earlier ones and stores its bytes (R185, R200). -/
theorem hostWrite_host {s : State} {fn : Nat} (a : Nat) (l : List Byte) (h : canAccess s fn = true) :
    (hostWrite s fn a l).host = memWrite (pushWrites s fn).host a l := by
  simp [hostWrite, h]

/-- A write for a function that may not changes nothing (R185). -/
theorem hostWrite_refused {s : State} {fn : Nat} (a : Nat) (l : List Byte) (h : canAccess s fn = false) :
    hostWrite s fn a l = s := by
  simp [hostWrite, h]

/-- Bytes outside those of a write are as the earlier writes leave them. -/
theorem memGet_hostWrite_other (s : State) (fn a x : Nat) (l : List Byte) (h : x < a ∨ a + l.length ≤ x) :
    memGet (hostWrite s fn a l).host x = memGet (if canAccess s fn = true then pushWrites s fn else s).host x := by
  by_cases c : canAccess s fn = true
  · rw [hostWrite_host a l c, memGet_memWrite_other _ l h, if_pos c]
  · rw [hostWrite_refused a l (by simpa using c), if_neg c]

/-- All that a write to host memory can change. -/
theorem hostWrite_eq (s : State) (fn a : Nat) (l : List Byte) : ∃ h r m j i d,
    hostWrite s fn a l = { s with
      host := h, pal := { s.pal with rsvs := r }, mon := m, justSet := j, issued := i, drawn := d } := by
  simp only [hostWrite]
  split
  · obtain ⟨h, i, d, e⟩ := pushWrites_eq s fn
    rw [e]
    obtain ⟨m, j, e⟩ := bumpBy_eq _ (hifCounter { s with host := h, issued := i, drawn := d } fn 5) 1
    exact ⟨_, _, m, j, i, d, e⟩
  · exact ⟨_, _, _, _, _, _, rfl⟩

/-- What a function may access does not change by a write. -/
@[simp] theorem canAccess_hostWrite (s : State) (fn fn' a : Nat) (l : List Byte) :
    canAccess (hostWrite s fn a l) fn' = canAccess s fn' := by
  obtain ⟨h, r, m, j, i, d, e⟩ := hostWrite_eq s fn a l
  rw [e]
  rfl

/-- After a function's write nothing of its half is under way. -/
theorem pushWrites_hostWrite {s : State} {fn : Nat} (a : Nat) (l : List Byte) (h : canAccess s fn = true) :
    pushWrites (hostWrite s fn a l) fn = hostWrite s fn a l := by
  refine pushWrites_none ?_
  simp only [hostWrite, h, if_true, bump]
  obtain ⟨m, j, e⟩ := bumpBy_eq { pushWrites s fn with
    host := memWrite (pushWrites s fn).host a l,
    pal := { (pushWrites s fn).pal with
      rsvs := (pushWrites s fn).pal.rsvs.filter (fun r => decide (r.addr + 8 ≤ a) || decide (a + l.length ≤ r.addr)) } }
    (hifCounter (pushWrites s fn) fn 5) 1
  obtain ⟨_, _, _, e'⟩ := pushWrites_eq s fn
  have k : halfOf (pushWrites s fn) fn = halfOf s fn := by rw [e']; rfl
  have := pushWrites_over s fn
  rw [← k] at this
  exact (congrArg (fun t => underWay t (halfOf t fn)) e).trans this

/-- All that a read of host memory can change. -/
theorem hostRead_eq (s : State) (fn a n : Nat) : ∃ h i d m j r f,
    (hostRead s fn a n).1 = { s with
      host := h, issued := i, drawn := d, mon := m, justSet := j, cus := { s.cus with raised := r },
      hif := { s.hif with fns := f } } := by
  simp only [hostRead]
  split
  · obtain ⟨h, i, d, e⟩ := pushWrites_eq s fn
    rw [e]
    generalize hs : { s with host := h, issued := i, drawn := d } = p
    obtain ⟨m, j, e⟩ := bumpBy_eq p (hifCounter p fn 4) 1
    simp only [noteLevel, bump, e]
    split
    · subst hs; exact ⟨h, _, d, _, _, s.cus.raised, s.hif.fns, rfl⟩
    · generalize hk : hifCounter _ fn 6 = k
      generalize hq : setFn _ fn _ = q
      obtain ⟨m', j', e'⟩ := bumpBy_eq q k 1
      subst hs hq
      exact ⟨h, i, d, _, _, _, _, by rw [fault, e']; rfl⟩
  · exact ⟨_, _, _, _, _, _, _, rfl⟩

/-- After a function's read nothing of its half is under way. -/
theorem pushWrites_hostRead {s : State} {fn : Nat} (a n : Nat) (h : canAccess s fn = true) :
    pushWrites (hostRead s fn a n).1 fn = (hostRead s fn a n).1 := by
  obtain ⟨_, _, _, e'⟩ := pushWrites_eq s fn
  have k : halfOf (pushWrites s fn) fn = halfOf s fn := by rw [e']; rfl
  have gone := pushWrites_over s fn
  refine pushWrites_none ?_
  simp only [hostRead, h, if_true]
  generalize pushWrites s fn = p at *
  rw [← k] at gone
  obtain ⟨m, j, e⟩ := bumpBy_eq p (hifCounter p fn 4) 1
  simp only [noteLevel, bump, e]
  split
  · simp only [underWay, List.filter_filter, halfOf, List.filter_eq_nil_iff] at *
    intro x hx
    have := gone x hx
    simp_all
  · generalize hk : hifCounter _ fn 6 = c
    generalize hq : setFn _ fn _ = q
    obtain ⟨m', j', e'⟩ := bumpBy_eq q c 1
    subst hq
    rw [fault, e']
    exact gone

/-- Of the Host Interface a read changes at most the AER bits of its function. -/
theorem hostRead_hif (s : State) (fn a n : Nat) : ∃ b : Fn → Nat, (hostRead s fn a n).1.hif = s.hif ∨
    (hostRead s fn a n).1.hif = { s.hif with fns := fmModify s.hif.fns fn {} (fun f => { f with aer := b f }) } := by
  simp only [hostRead]
  split
  · obtain ⟨_, _, _, e⟩ := pushWrites_eq s fn
    rw [e]
    generalize hp : ({ s with host := _, issued := _, drawn := _ } : State) = p
    obtain ⟨m, j, e⟩ := bumpBy_eq p (hifCounter p fn 4) 1
    simp only [noteLevel, bump, e]
    split
    · subst hp
      exact ⟨Fn.aer, .inl rfl⟩
    · rename_i x _
      generalize hk : hifCounter _ fn 6 = c
      generalize hq : setFn _ fn _ = q
      obtain ⟨m', j', e'⟩ := bumpBy_eq q c 1
      subst hp hq
      exact ⟨fun f => Nat.lor f.aer (aerBit x), .inr (by simp only [e']; rfl)⟩
  · exact ⟨Fn.aer, .inl rfl⟩

/-- Whatever happens, a write keeps the canonical form of memory. -/
theorem hostWrite_wf {s : State} (fn a : Nat) (l : List Byte) (h : memWf s.host = true) :
    memWf (hostWrite s fn a l).host = true := by
  simp only [hostWrite]
  split
  · simpa using memWrite_wf a l (pushWrites_wf fn h)
  · exact h

/-- A read stores nothing: memory is as the function's earlier writes leave it. -/
theorem hostRead_host (s : State) (fn a n : Nat) :
    (hostRead s fn a n).1.host = (if canAccess s fn = true then pushWrites s fn else s).host := by
  simp only [hostRead]
  split
  · split <;> simp [noteLevel, setFn, fault]
  · rfl

/-- A read keeps the canonical form of memory. -/
theorem hostRead_wf {s : State} (fn a n : Nat) (h : memWf s.host = true) : memWf (hostRead s fn a n).1.host = true := by
  rw [hostRead_host]
  split
  · exact pushWrites_wf fn h
  · exact h

end Sys2Proof.Machine
end

