-- ==== Sys2Proof/Laws/Admin.lean ====
section
/-! SUPPORT. What the end of a command does (R252): the writes of its completion, and the state that `finish` leaves. -/

namespace Sys2Proof.Machine

@[simp] theorem replyBytes_length (r : Reply) : (replyBytes r).length = 32 := by simp [replyBytes]

/-- Three stretches of memory written one after the other that do not overlap are all read back. -/
theorem three_writes {m : List Host.Cell} (wf : memWf m = true) (a1 a2 a3 : Nat) (l1 l2 l3 : List Byte)
    (d1 : a1 + l1.length ≤ a2 ∨ a2 + l2.length ≤ a1) (d2 : a1 + l1.length ≤ a3 ∨ a3 + l3.length ≤ a1)
    (d3 : a3 + l3.length ≤ a2 ∨ a2 + l2.length ≤ a3) {x : List Host.Cell}
    (hx : x = memWrite (memWrite (memWrite m a1 l1) a2 l2) a3 l3) :
    memWf x = true ∧ memRead x a1 l1.length = l1 ∧ memRead x a2 l2.length = l2 ∧ memRead x a3 l3.length = l3 := by
  subst hx
  have w1 := memWrite_wf a1 l1 wf
  have w2 := memWrite_wf a2 l2 w1
  refine ⟨memWrite_wf a3 l3 w2, ?_, ?_, memRead_memWrite a3 l3 w2⟩
  · rw [memRead_memWrite_other _ l3 (by omega), memRead_memWrite_other _ l2 (by omega)]
    exact memRead_memWrite a1 l1 wf
  · rw [memRead_memWrite_other _ l3 (by omega)]
    exact memRead_memWrite a2 l2 w1

/-- All that the writes of a completion can change. -/
theorem writeCompletion_eq (s : State) (fn : Nat) (c : Cmd) (resp : List Byte) (r : Reply) : ∃ h v m j i d,
    writeCompletion s fn c resp r = { s with
      host := h, pal := { s.pal with rsvs := v }, mon := m, justSet := j, issued := i, drawn := d } := by
  simp only [writeCompletion]
  obtain ⟨h, v, m, j, i, d, e⟩ : ∃ h v m j i d, (if resp = [] then s else hostWrite s fn c.respAddr resp) = { s with
      host := h, pal := { s.pal with rsvs := v }, mon := m, justSet := j, issued := i, drawn := d } := by
    split
    · exact ⟨_, _, _, _, _, _, rfl⟩
    · exact hostWrite_eq _ _ _ _
  rw [e]
  obtain ⟨h2, v2, m2, j2, i2, d2, e2⟩ := hostWrite_eq { s with
    host := h, pal := { s.pal with rsvs := v }, mon := m, justSet := j, issued := i, drawn := d } fn (c.slotAddr + 32) (replyBytes r)
  rw [e2]
  obtain ⟨h3, v3, m3, j3, i3, d3, e3⟩ := hostWrite_eq { s with
    host := h2, pal := { s.pal with rsvs := v2 }, mon := m2, justSet := j2, issued := i2, drawn := d2 } fn (admOf s fn).head
    (leBytes 4 (c.index + 1).toNat)
  exact ⟨h3, v3, m3, j3, i3, d3, e3⟩

/-- Host memory after the writes of a completion, where it may be accessed: what was under way, then the response, the reply and the head
word. -/
theorem writeCompletion_host {s : State} {fn : Nat} (c : Cmd) (resp : List Byte) (r : Reply) (h : canAccess s fn = true) :
    (writeCompletion s fn c resp r).host = memWrite (memWrite (memWrite (pushWrites s fn).host c.respAddr resp)
      (c.slotAddr + 32) (replyBytes r)) (admOf s fn).head (leBytes 4 (c.index + 1).toNat) := by
  simp only [writeCompletion]
  have k : (pushWrites (if resp = [] then s else hostWrite s fn c.respAddr resp) fn).host
      = memWrite (pushWrites s fn).host c.respAddr resp := by
    split
    · simp [*, memWrite]
    · rw [pushWrites_hostWrite _ _ h, hostWrite_host _ _ h]
  have k2 : canAccess (if resp = [] then s else hostWrite s fn c.respAddr resp) fn = true := by
    split
    · exact h
    · rw [canAccess_hostWrite]
      exact h
  rw [hostWrite_host _ _ (by rw [canAccess_hostWrite]; exact k2), pushWrites_hostWrite _ _ k2, hostWrite_host _ _ k2, k]

/-- The writes of a completion touch the response, the reply half of the slot and the head word; the rest is as the function's earlier writes
leave it. -/
theorem writeCompletion_other {s : State} {fn : Nat} (c : Cmd) (resp : List Byte) (r : Reply) {x : Nat}
    (h1 : x < c.respAddr ∨ c.respAddr + resp.length ≤ x) (h2 : x < c.slotAddr + 32 ∨ c.slotAddr + 64 ≤ x)
    (h3 : x < (admOf s fn).head ∨ (admOf s fn).head + 4 ≤ x) :
    memGet (writeCompletion s fn c resp r).host x = memGet (if canAccess s fn = true then pushWrites s fn else s).host x := by
  by_cases h : canAccess s fn = true
  · rw [writeCompletion_host c resp r h, memGet_memWrite_other _ _ (by rw [leBytes_length]; exact h3),
      memGet_memWrite_other _ _ (by rw [replyBytes_length]; omega), memGet_memWrite_other _ _ h1, if_pos h]
  · have h : canAccess s fn = false := by simpa using h
    simp [writeCompletion, hostWrite_refused _ _ h, h]

/-- After the writes of a completion nothing of the function's half is under way. -/
theorem pushWrites_writeCompletion {s : State} {fn : Nat} (c : Cmd) (resp : List Byte) (r : Reply) (h : canAccess s fn = true) :
    pushWrites (writeCompletion s fn c resp r) fn = writeCompletion s fn c resp r := by
  refine pushWrites_hostWrite _ _ ?_
  rw [canAccess_hostWrite]
  split
  · exact h
  · rw [canAccess_hostWrite]
    exact h

/-- What a function may access does not change by a completion. -/
@[simp] theorem canAccess_writeCompletion (s : State) (fn fn' : Nat) (c : Cmd) (resp : List Byte) (r : Reply) :
    canAccess (writeCompletion s fn c resp r) fn' = canAccess s fn' := by
  obtain ⟨_, _, _, _, _, _, e⟩ := writeCompletion_eq s fn c resp r
  rw [e]
  rfl

/-- The state that the end of a command without EVENT leaves: the writes of the completion and the read-back of the head word, repeated
with BUS_ERROR where the read-back fails; then the mailbox, the free queue and the samples of the Dials. -/
theorem finish_shape (s : State) (fn : Nat) (c : Cmd) (st : Nat) (resp : List Byte) (d : Nat) (ev : c.event = false) :
    ∃ (r r2 : Reply) (again : Bool) (sel : Nat → Bool) (v : Nat) (u : State),
      u = (hostRead (writeCompletion s fn c resp r) fn (admOf s fn).head 4).1 ∧
      finish s fn c st resp d = sampleDials (setAdm (if again = true then writeCompletion u fn c [] r2 else u) fn
        { admOf s fn with mailbox := r2, cmd := none, st := if (admOf s fn).enable then .idle else .disabled }) 8 sel v ∧
      r2.tag = c.tag ∧ r2.opcode = c.opcode ∧ r2.detail = d ∧ (again = false → r2 = r) := by
  unfold finish
  simp only [ev, Bool.false_eq_true, if_false]
  refine ⟨_, _, _, _, _, _, rfl, rfl, ?_, ?_, ?_, ?_⟩
  · (repeat' split) <;> rfl
  · (repeat' split) <;> rfl
  · (repeat' split) <;> rfl
  · intro h
    rw [if_neg (by rw [h]; simp)]

end Sys2Proof.Machine
end

