-- ==== Sys2Proof/Laws/Arms.lean ====
section
/-! SUPPORT. What each command is, by its row: one lemma for each arm of `exec`. -/

namespace Sys2Proof.Machine

theorem exec_deviceNop (fn : Nat) (s : State) : exec (.deviceNop fn) s
    = live (runCmd 0x0100 deviceNop fn) s := rfl
theorem exec_deviceIdentify (fn : Nat) (s : State) : exec (.deviceIdentify fn) s
    = live (runCmd 0x0101 deviceIdentify fn) s := rfl
theorem exec_deviceConfig (fn : Nat) (s : State) : exec (.deviceConfig fn) s
    = live (runCmd 0x0102 deviceConfig fn) s := rfl
theorem exec_expertEnter (fn : Nat) (s : State) : exec (.expertEnter fn) s
    = live (runCmd 0x0103 expertEnter fn) s := rfl
theorem exec_expertLeave (fn : Nat) (s : State) : exec (.expertLeave fn) s
    = live (runCmd 0x0104 expertLeave fn) s := rfl
theorem exec_fwQuery (fn : Nat) (s : State) : exec (.fwQuery fn) s
    = live (runCmd 0x0105 fwQuery fn) s := rfl
theorem exec_fwStage (fn : Nat) (s : State) : exec (.fwStage fn) s
    = live (runCmd 0x0106 fwStage fn) s := rfl
theorem exec_fwCommit (fn : Nat) (s : State) : exec (.fwCommit fn) s
    = live (runCmd 0x0107 fwCommit fn) s := rfl
theorem exec_fwDiscard (fn : Nat) (s : State) : exec (.fwDiscard fn) s
    = live (runCmd 0x0108 fwDiscard fn) s := rfl
theorem exec_queueGroupGrant (fn : Nat) (s : State) : exec (.queueGroupGrant fn) s
    = live (runCmd 0x0180 groupGrant fn) s := rfl
theorem exec_queueGroupReclaim (fn : Nat) (s : State) : exec (.queueGroupReclaim fn) s
    = live (runCmd 0x0181 groupReclaim fn) s := rfl
theorem exec_queueCreate (fn : Nat) (s : State) : exec (.queueCreate fn) s
    = live (runCmd 0x0182 queueCreate fn) s := rfl
theorem exec_queueDestroy (fn : Nat) (s : State) : exec (.queueDestroy fn) s
    = live (runCmd 0x0183 (drainQueue false) fn) s := rfl
theorem exec_queueReset (fn : Nat) (s : State) : exec (.queueReset fn) s
    = live (runCmd 0x0184 (drainQueue true) fn) s := rfl
theorem exec_queueQuery (fn : Nat) (s : State) : exec (.queueQuery fn) s
    = live (runCmd 0x0185 queueQuery fn) s := rfl
theorem exec_eventRingCreate (fn : Nat) (s : State) : exec (.eventRingCreate fn) s
    = live (runCmd 0x0186 eventRingCreate fn) s := rfl
theorem exec_eventRingDestroy (fn : Nat) (s : State) : exec (.eventRingDestroy fn) s
    = live (runCmd 0x0187 eventRingDestroy fn) s := rfl
theorem exec_eventRingClear (fn : Nat) (s : State) : exec (.eventRingClear fn) s
    = live (runCmd 0x0188 eventRingClear fn) s := rfl
theorem exec_connCreate (fn : Nat) (s : State) : exec (.connCreate fn) s
    = live (runCmd 0x0200 connCreate fn) s := rfl
theorem exec_connConnect (fn : Nat) (s : State) : exec (.connConnect fn) s
    = live (runCmd 0x0201 connConnect fn) s := rfl
theorem exec_connDestroy (fn : Nat) (s : State) : exec (.connDestroy fn) s
    = live (runCmd 0x0202 connDestroy fn) s := rfl
theorem exec_connReset (fn : Nat) (s : State) : exec (.connReset fn) s
    = live (runCmd 0x0203 connReset fn) s := rfl
theorem exec_connQuery (fn : Nat) (s : State) : exec (.connQuery fn) s
    = live (runCmd 0x0204 connQuery fn) s := rfl
theorem exec_counterAlloc (fn : Nat) (s : State) : exec (.counterAlloc fn) s
    = live (runCmd 0x0210 counterAlloc fn) s := rfl
theorem exec_counterFree (fn : Nat) (s : State) : exec (.counterFree fn) s
    = live (runCmd 0x0211 counterFree fn) s := rfl
theorem exec_counterQuery (fn : Nat) (s : State) : exec (.counterQuery fn) s
    = live (runCmd 0x0212 counterQuery fn) s := rfl
theorem exec_ctxConfig (fn : Nat) (s : State) : exec (.ctxConfig fn) s
    = live (runCmd 0x0220 ctxConfig fn) s := rfl
theorem exec_regionCreate (fn : Nat) (s : State) : exec (.regionCreate fn) s
    = live (runCmd 0x0300 regionCreate fn) s := rfl
theorem exec_regionRevoke (fn : Nat) (s : State) : exec (.regionRevoke fn) s
    = live (runCmd 0x0301 regionRevoke fn) s := rfl
theorem exec_regionDestroy (fn : Nat) (s : State) : exec (.regionDestroy fn) s
    = live (runCmd 0x0302 regionDestroy fn) s := rfl
theorem exec_regionQuery (fn : Nat) (s : State) : exec (.regionQuery fn) s
    = live (runCmd 0x0303 regionQuery fn) s := rfl
theorem exec_regionInvalidate (fn : Nat) (s : State) : exec (.regionInvalidate fn) s
    = live (runCmd 0x0304 regionInvalidate fn) s := rfl
theorem exec_faultRingCreate (fn : Nat) (s : State) : exec (.faultRingCreate fn) s
    = live (runCmd 0x0305 faultRingCreate fn) s := rfl
theorem exec_faultRingDestroy (fn : Nat) (s : State) : exec (.faultRingDestroy fn) s
    = live (runCmd 0x0306 faultRingDestroy fn) s := rfl
theorem exec_pageResolve (fn : Nat) (s : State) : exec (.pageResolve fn) s
    = live (runCmd 0x0307 pageResolve fn) s := rfl
theorem exec_xltConfig (fn : Nat) (s : State) : exec (.xltConfig fn) s
    = live (runCmd 0x0308 xltConfig fn) s := rfl
theorem exec_endpointCreate (fn : Nat) (s : State) : exec (.endpointCreate fn) s
    = live (runCmd 0x0400 endpointCreate fn) s := rfl
theorem exec_endpointDestroy (fn : Nat) (s : State) : exec (.endpointDestroy fn) s
    = live (runCmd 0x0401 endpointDestroy fn) s := rfl
theorem exec_endpointQuery (fn : Nat) (s : State) : exec (.endpointQuery fn) s
    = live (runCmd 0x0402 endpointQuery fn) s := rfl
theorem exec_catConfig (fn : Nat) (s : State) : exec (.catConfig fn) s
    = live (runCmd 0x0403 catConfig fn) s := rfl
theorem exec_groupCreate (fn : Nat) (s : State) : exec (.groupCreate fn) s
    = live (runCmd 0x0500 groupCreate fn) s := rfl
theorem exec_groupDestroy (fn : Nat) (s : State) : exec (.groupDestroy fn) s
    = live (runCmd 0x0501 groupDestroy fn) s := rfl
theorem exec_groupQuery (fn : Nat) (s : State) : exec (.groupQuery fn) s
    = live (runCmd 0x0502 groupQuery fn) s := rfl
theorem exec_groupRebuild (fn : Nat) (s : State) : exec (.groupRebuild fn) s
    = live (runCmd 0x0503 groupRebuild fn) s := rfl
theorem exec_carConfig (fn : Nat) (s : State) : exec (.carConfig fn) s
    = live (runCmd 0x0504 carConfig fn) s := rfl
theorem exec_routeQuery (fn : Nat) (s : State) : exec (.routeQuery fn) s
    = live (runCmd 0x0600 routeQuery fn) s := rfl
theorem exec_routeConfig (fn : Nat) (s : State) : exec (.routeConfig fn) s
    = live (runCmd 0x0601 routeConfig fn) s := rfl
theorem exec_routePortFence (fn : Nat) (s : State) : exec (.routePortFence fn) s
    = live (runCmd 0x0602 routePortFence fn) s := rfl
theorem exec_routeEpochChange (fn : Nat) (s : State) : exec (.routeEpochChange fn) s
    = live (runCmd 0x0603 routeEpochChange fn) s := rfl
theorem exec_routeTableRead (fn : Nat) (s : State) : exec (.routeTableRead fn) s
    = live (runCmd 0x0604 routeTableRead fn) s := rfl
theorem exec_strikeQuery (fn : Nat) (s : State) : exec (.strikeQuery fn) s
    = live (runCmd 0x0700 strikeQuery fn) s := rfl
theorem exec_strikeStage (fn : Nat) (s : State) : exec (.strikeStage fn) s
    = live (runCmd 0x0701 strikeStage fn) s := rfl
theorem exec_strikeActivate (fn : Nat) (s : State) : exec (.strikeActivate fn) s
    = live (runCmd 0x0702 strikeActivate fn) s := rfl
theorem exec_strikeDiscard (fn : Nat) (s : State) : exec (.strikeDiscard fn) s
    = live (runCmd 0x0703 strikeDiscard fn) s := rfl
theorem exec_strikeFlowBind (fn : Nat) (s : State) : exec (.strikeFlowBind fn) s
    = live (runCmd 0x0704 strikeFlowBind fn) s := rfl
theorem exec_strikeFlowUnbind (fn : Nat) (s : State) : exec (.strikeFlowUnbind fn) s
    = live (runCmd 0x0705 strikeFlowUnbind fn) s := rfl
theorem exec_strikeConfig (fn : Nat) (s : State) : exec (.strikeConfig fn) s
    = live (runCmd 0x0706 strikeConfig fn) s := rfl
theorem exec_laneQuery (fn : Nat) (s : State) : exec (.laneQuery fn) s
    = live (runCmd 0x0800 laneQuery fn) s := rfl
theorem exec_laneRetrain (fn : Nat) (s : State) : exec (.laneRetrain fn) s
    = live (runCmd 0x0801 laneRetrain fn) s := rfl
theorem exec_laneSleepConfig (fn : Nat) (s : State) : exec (.laneSleepConfig fn) s
    = live (runCmd 0x0802 laneSleepConfig fn) s := rfl
theorem exec_laneTableRead (fn : Nat) (s : State) : exec (.laneTableRead fn) s
    = live (runCmd 0x0803 laneTableRead fn) s := rfl
theorem exec_laneConfig (fn : Nat) (s : State) : exec (.laneConfig fn) s
    = live (runCmd 0x0804 laneConfig fn) s := rfl
theorem exec_lockClaim (fn : Nat) (s : State) : exec (.lockClaim fn) s
    = live (runCmd 0x0900 lockClaim fn) s := rfl
theorem exec_lockRelease (fn : Nat) (s : State) : exec (.lockRelease fn) s
    = live (runCmd 0x0901 lockRelease fn) s := rfl
theorem exec_lockQuery (fn : Nat) (s : State) : exec (.lockQuery fn) s
    = live (runCmd 0x0902 lockQuery fn) s := rfl
theorem exec_lockGroupConfig (fn : Nat) (s : State) : exec (.lockGroupConfig fn) s
    = live (runCmd 0x0903 lockGroupConfig fn) s := rfl
theorem exec_lockPeer (fn : Nat) (s : State) : exec (.lockPeer fn) s
    = live (runCmd 0x0904 lockPeer fn) s := rfl
theorem exec_wordLockClaim (fn : Nat) (s : State) : exec (.wordLockClaim fn) s
    = live (runCmd 0x0905 wordLockClaim fn) s := rfl
theorem exec_wordLockRelease (fn : Nat) (s : State) : exec (.wordLockRelease fn) s
    = live (runCmd 0x0906 wordLockRelease fn) s := rfl
theorem exec_twinQuery (fn : Nat) (s : State) : exec (.twinQuery fn) s
    = live (runCmd 0x0A00 twinQuery fn) s := rfl
theorem exec_twinConfig (fn : Nat) (s : State) : exec (.twinConfig fn) s
    = live (runCmd 0x0A01 twinConfig fn) s := rfl
theorem exec_twinBridgeRetrain (fn : Nat) (s : State) : exec (.twinBridgeRetrain fn) s
    = live (runCmd 0x0A02 twinRetrain fn) s := rfl
theorem exec_twinAdopt (fn : Nat) (s : State) : exec (.twinAdopt fn) s
    = live (runCmd 0x0A03 twinAdopt fn) s := rfl
theorem exec_counterRead (fn : Nat) (s : State) : exec (.counterRead fn) s
    = live (runCmd 0x0B00 counterRead fn) s := rfl
theorem exec_counterConfig (fn : Nat) (s : State) : exec (.counterConfig fn) s
    = live (runCmd 0x0B01 counterConfig fn) s := rfl
theorem exec_userPageConfig (fn : Nat) (s : State) : exec (.userPageConfig fn) s
    = live (runCmd 0x0B02 userPageConfig fn) s := rfl
theorem exec_dialConfig (fn : Nat) (s : State) : exec (.dialConfig fn) s
    = live (runCmd 0x0B03 dialConfig fn) s := rfl
theorem exec_dialRead (fn : Nat) (s : State) : exec (.dialRead fn) s
    = live (runCmd 0x0B04 dialRead fn) s := rfl
theorem exec_provConfig (fn : Nat) (s : State) : exec (.provConfig fn) s
    = live (runCmd 0x0B05 provConfig fn) s := rfl
theorem exec_provRead (fn : Nat) (s : State) : exec (.provRead fn) s
    = live (runCmd 0x0B06 provRead fn) s := rfl
theorem exec_faultSevSet (fn : Nat) (s : State) : exec (.faultSevSet fn) s
    = live (runCmd 0x0B10 faultSevSet fn) s := rfl
theorem exec_faultQuery (fn : Nat) (s : State) : exec (.faultQuery fn) s
    = live (runCmd 0x0B11 faultQuery fn) s := rfl
theorem exec_faultLogRead (fn : Nat) (s : State) : exec (.faultLogRead fn) s
    = live (runCmd 0x0B12 faultLogRead fn) s := rfl
theorem exec_registrarQuery (fn : Nat) (s : State) : exec (.registrarQuery fn) s
    = live (runCmd 0x0C00 registrarQuery fn) s := rfl
theorem exec_registrarRead (fn : Nat) (s : State) : exec (.registrarRead fn) s
    = live (runCmd 0x0C01 registrarRead fn) s := rfl
theorem exec_moverChannelAlloc (fn : Nat) (s : State) : exec (.moverChannelAlloc fn) s
    = live (runCmd 0x0D00 chanAlloc fn) s := rfl
theorem exec_moverChannelFree (fn : Nat) (s : State) : exec (.moverChannelFree fn) s
    = live (runCmd 0x0D01 chanFree fn) s := rfl
theorem exec_moverChannelQuery (fn : Nat) (s : State) : exec (.moverChannelQuery fn) s
    = live (runCmd 0x0D02 chanQuery fn) s := rfl
theorem exec_moverChannelPriority (fn : Nat) (s : State) : exec (.moverChannelPriority fn) s
    = live (runCmd 0x0D03 chanPriority fn) s := rfl
theorem exec_moverConfig (fn : Nat) (s : State) : exec (.moverConfig fn) s
    = live (runCmd 0x0D04 moverConfig fn) s := rfl
theorem exec_schedGroupQuery (fn : Nat) (s : State) : exec (.schedGroupQuery fn) s
    = live (runCmd 0x0E00 schedGroupQuery fn) s := rfl
theorem exec_schedGroupQuantum (fn : Nat) (s : State) : exec (.schedGroupQuantum fn) s
    = live (runCmd 0x0E01 schedGroupQuantum fn) s := rfl
theorem exec_schedShaperConfig (fn : Nat) (s : State) : exec (.schedShaperConfig fn) s
    = live (runCmd 0x0E02 schedShaperConfig fn) s := rfl
theorem exec_schedPolicerConfig (fn : Nat) (s : State) : exec (.schedPolicerConfig fn) s
    = live (runCmd 0x0E03 schedPolicerConfig fn) s := rfl
theorem exec_schedFnQuery (fn : Nat) (s : State) : exec (.schedFnQuery fn) s
    = live (runCmd 0x0E04 schedFnQuery fn) s := rfl
theorem exec_schedQueueSample (fn : Nat) (s : State) : exec (.schedQueueSample fn) s
    = live (runCmd 0x0E05 schedQueueSample fn) s := rfl
theorem exec_schedConfig (fn : Nat) (s : State) : exec (.schedConfig fn) s
    = live (runCmd 0x0E06 schedConfig fn) s := rfl
theorem exec_commandTaken (fn : Nat) (s : State) : exec (.commandTaken fn) s
    = live (takeCommand · fn) s := rfl
theorem exec_commandComplete (fn : Nat) (status : Nat) (word : Nat) (s : State) : exec (.commandComplete fn status word) s
    = live (fun s => completeCommand (claimAgain s fn) fn status word) s := rfl
theorem exec_commandTimeout (fn : Nat) (s : State) : exec (.commandTimeout fn) s
    = live (timeoutCommand · fn) s := rfl
theorem exec_curCoreStop (core : Nat) (fn : Option Nat) (s : State) : exec (.curCoreStop core fn) s
    = live (coreStop · core fn) s := rfl
theorem exec_adminQueueEnable (fn : Nat) (value : BitVec 32) (s : State) : exec (.adminQueueEnable fn value) s
    = live (adminWrite · fn value.toNat true) s := rfl
theorem exec_adminQueueDisable (fn : Nat) (value : BitVec 32) (s : State) : exec (.adminQueueDisable fn value) s
    = live (adminWrite · fn value.toNat false) s := rfl
theorem exec_admDb (fn : Nat) (value : Idx) (s : State) : exec (.admDb fn value) s
    = live (adminDoorbell · fn value) s := rfl
theorem exec_admMailboxRead (fn : Nat) (s : State) : exec (.admMailboxRead fn) s
    = live (mailboxRead · fn) s := rfl
theorem exec_dbProducer (fn : Nat) (offset : Nat) (width : Nat) (value : Idx) (s : State) : exec (.dbProducer fn offset width value) s
    = live (dbProducer · fn offset width value) s := rfl
theorem exec_inlineStore (fn : Nat) (offset : Nat) (bytes : List Byte) (s : State) : exec (.inlineStore fn offset bytes) s
    = live (inlineStore · fn offset bytes) s := rfl
theorem exec_movAppend (fn : Nat) (value : BitVec 32) (s : State) : exec (.movAppend fn value) s
    = live (movAppend · fn value.toNat) s := rfl
theorem exec_lockWordWrite (fn : Nat) (offset : Nat) (value : BitVec 32) (s : State) : exec (.lockWordWrite fn offset value) s
    = live (lockWordWrite · fn offset value.toNat) s := rfl
theorem exec_lockWaitRead (fn : Nat) (lock : Nat) (s : State) : exec (.lockWaitRead fn lock) s
    = live (lockWaitRead · fn lock) s := rfl
theorem exec_waitReadReturn (lock : Nat) (s : State) : exec (.waitReadReturn lock) s
    = live (waitReadReturn · lock) s := rfl
theorem exec_portFenceWrite (fn port : Nat) (value : BitVec 32) (s : State) : exec (.portFenceWrite fn port value) s
    = live (portFenceWrite · fn port value.toNat) s := rfl
theorem exec_retrain (fn port : Nat) (s : State) : exec (.retrain fn port) s
    = live (retrainWrite · fn port) s := rfl
theorem exec_msixUnmask (fn : Nat) (vector : Nat) (s : State) : exec (.msixUnmask fn vector) s
    = live (msixUnmask · fn vector) s := rfl
theorem exec_latchingRegisterRead (fn bar offset width : Nat) (s : State) : exec (.latchingRegisterRead fn ⟨bar, offset⟩ width) s
    = live (barRead · fn bar offset width) s := rfl
theorem exec_userPageRead (fn : Nat) (offset : Nat) (width : Nat) (s : State) : exec (.userPageRead fn offset width) s
    = live (userPageRead · fn offset width) s := rfl
theorem exec_registerWrite (fn : Nat) (offset : Nat) (width : Nat) (value : BitVec 64) (s : State) : exec (.registerWrite fn offset width value) s
    = live (writeAccess · fn offset width value.toNat) s := rfl
theorem exec_undefinedOffsetAccess (fn : Nat) (offset : Nat) (width : Nat) (write sparse : Bool) (s : State) :
    exec (.undefinedOffsetAccess fn offset width ⟨write, sparse⟩) s = live (undefinedAccess · fn offset width write sparse) s := rfl
theorem exec_nop (q : Nat) (s : State) : exec (.nop q) s
    = live (jobRow 0x00 · q) s := rfl
theorem exec_put (q : Nat) (s : State) : exec (.put q) s
    = live (jobRow 0x01 · q) s := rfl
theorem exec_putImm (q : Nat) (s : State) : exec (.putImm q) s
    = live (jobRow 0x02 · q) s := rfl
theorem exec_get (q : Nat) (s : State) : exec (.get q) s
    = live (jobRow 0x03 · q) s := rfl
theorem exec_atomic (q : Nat) (s : State) : exec (.atomic q) s
    = live (jobRow 0x04 · q) s := rfl
theorem exec_counterAdd (q : Nat) (s : State) : exec (.counterAdd q) s
    = live (jobRow 0x08 · q) s := rfl
theorem exec_counterSet (q : Nat) (s : State) : exec (.counterSet q) s
    = live (jobRow 0x09 · q) s := rfl
theorem exec_barrier (q : Nat) (s : State) : exec (.barrier q) s
    = live (jobRow 0x20 · q) s := rfl
theorem exec_reserveLoad (q : Nat) (s : State) : exec (.reserveLoad q) s
    = live (jobRow 0x21 · q) s := rfl
theorem exec_condStore (q : Nat) (s : State) : exec (.condStore q) s
    = live (jobRow 0x22 · q) s := rfl
theorem exec_send (q : Nat) (s : State) : exec (.send q) s
    = live (jobRow 0x30 · q) s := rfl
theorem exec_recv (q : Nat) (s : State) : exec (.recv q) s
    = live (jobRow 0x31 · q) s := rfl
theorem exec_collective (q : Nat) (s : State) : exec (.collective q) s
    = live (jobRow 0x40 · q) s := rfl
theorem exec_moverStart (q : Nat) (s : State) : exec (.moverStart q) s
    = live (jobRow 0x50 · q) s := rfl
theorem exec_moverChain (q : Nat) (s : State) : exec (.moverChain q) s
    = live (jobRow 0x51 · q) s := rfl
theorem exec_moverAppend (q : Nat) (s : State) : exec (.moverAppend q) s
    = live (jobRow 0x52 · q) s := rfl
theorem exec_armedJobRelease (q : Nat) (idx : Idx) (s : State) : exec (.armedJobRelease q idx) s
    = live (releaseJob · q idx) s := rfl
theorem exec_headIndexPublish (q : Nat) (s : State) : exec (.headIndexPublish q) s
    = live (publishHead · q) s := rfl
theorem exec_errorRingReread (q : Nat) (s : State) : exec (.errorRingReread q) s
    = live (errorReread · q) s := rfl
theorem exec_eventRingReread (fn ring : Nat) (s : State) : exec (.eventRingReread fn ring) s
    = live (eventReread · fn ring) s := rfl
theorem exec_msixMessage (fn ring : Nat) (s : State) : exec (.msixMessage fn ring) s
    = live (msixMessage · fn ring) s := rfl
theorem exec_faultRingReread (fn : Nat) (s : State) : exec (.faultRingReread fn) s
    = live (faultReread · fn) s := rfl
theorem exec_receiveRingReread (ep : Nat) (s : State) : exec (.receiveRingReread ep) s
    = live (recvReread · ep) s := rfl
theorem exec_localTimeout (q : Nat) (idx : Idx) (s : State) : exec (.localTimeout q idx) s
    = live (localTimeoutOf · q idx) s := rfl
theorem exec_pagePendingResend (c : Nat) (psn : Psn) (s : State) : exec (.pagePendingResend c psn) s
    = live (resend · c psn) s := rfl
theorem exec_retransmitTimeout (c : Nat) (psn : Psn) (s : State) : exec (.retransmitTimeout c psn) s
    = live (retransmitTimeout · c psn) s := rfl
theorem exec_ackSend (c : Nat) (s : State) : exec (.ackSend c) s
    = live (ackSend · c) s := rfl
theorem exec_fencedHoldExpiry (c : Nat) (s : State) : exec (.fencedHoldExpiry c) s
    = live (fencedHoldExpiry · c) s := rfl
theorem exec_peerIdleExpiry (c : Nat) (s : State) : exec (.peerIdleExpiry c) s
    = live (peerIdleExpiry · c) s := rfl
theorem exec_contextQuarantineEnd (c : Nat) (s : State) : exec (.contextQuarantineEnd c) s
    = live (contextFree · c) s := rfl
theorem exec_endpointQuarantineEnd (ep : Nat) (s : State) : exec (.endpointQuarantineEnd ep) s
    = live (endpointFree · ep) s := rfl
theorem exec_handleQuarantineEnd (handle : Nat) (s : State) : exec (.handleQuarantineEnd handle) s
    = live (handleFree · handle) s := rfl
theorem exec_ejectionReserveTimeout (c : Nat) (psn : Psn) (s : State) : exec (.ejectionReserveTimeout c psn) s
    = live (reserveTimeout · c psn) s := rfl
theorem exec_reservationExpiry (g : Nat) (s : State) : exec (.reservationExpiry g) s
    = live (expireReservations · g) s := rfl
theorem exec_putArrival (p : Packet) (s : State) : exec (.putArrival p) s
    = live (putArrival · p) s := rfl
theorem exec_strikePutArrival (p : Packet) (s : State) : exec (.strikePutArrival p) s
    = live (strikePutArrival · p) s := rfl
theorem exec_getArrival (p : Packet) (s : State) : exec (.getArrival p) s
    = live (getArrival · p) s := rfl
theorem exec_atomicArrival (p : Packet) (s : State) : exec (.atomicArrival p) s
    = live (atomicArrival · p) s := rfl
theorem exec_reserveLoadArrival (p : Packet) (s : State) : exec (.reserveLoadArrival p) s
    = live (reserveLoadArrival · p) s := rfl
theorem exec_condStoreArrival (p : Packet) (s : State) : exec (.condStoreArrival p) s
    = live (condStoreArrival · p) s := rfl
theorem exec_flush (p : Packet) (s : State) : exec (.flush p) s
    = live (flushArrival · p) s := rfl
theorem exec_skip (p : Packet) (s : State) : exec (.skip p) s
    = live (skipArrival · p) s := rfl
theorem exec_peerOpen (p : Packet) (s : State) : exec (.peerOpen p) s
    = live (peerOpenArrival · p) s := rfl
theorem exec_peerClose (p : Packet) (s : State) : exec (.peerClose p) s
    = live (peerCloseArrival · p) s := rfl
theorem exec_ack (p : Packet) (s : State) : exec (.ack p) s
    = live (ackArrival · p) s := rfl
theorem exec_nak (p : Packet) (s : State) : exec (.nak p) s
    = live (nakArrival · p) s := rfl
theorem exec_getData (p : Packet) (s : State) : exec (.getData p) s
    = live (getDataArrival · p) s := rfl
theorem exec_atomicData (p : Packet) (s : State) : exec (.atomicData p) s
    = live (atomicDataArrival · p) s := rfl
theorem exec_flushDone (p : Packet) (s : State) : exec (.flushDone p) s
    = live (flushDoneArrival · p) s := rfl
theorem exec_peerOpenAck (p : Packet) (s : State) : exec (.peerOpenAck p) s
    = live (peerOpenAckArrival · p) s := rfl
theorem exec_peerCloseAck (p : Packet) (s : State) : exec (.peerCloseAck p) s
    = live (peerCloseAckArrival · p) s := rfl
theorem exec_msgEager (p : Packet) (s : State) : exec (.msgEager p) s
    = live (msgArrival · p 0x30) s := rfl
theorem exec_msgRts (p : Packet) (s : State) : exec (.msgRts p) s
    = live (msgArrival · p 0x31) s := rfl
theorem exec_msgRdvGet (p : Packet) (s : State) : exec (.msgRdvGet p) s
    = live (rdvGetArrival · p) s := rfl
theorem exec_msgFin (p : Packet) (s : State) : exec (.msgFin p) s
    = live (finArrival · p) s := rfl
theorem exec_parkedPacketCommit (c : Nat) (msn : Psn) (s : State) : exec (.parkedPacketCommit c msn) s
    = live (parkedCommit · c msn) s := rfl
theorem exec_deliveryEnd (ep id : Nat) (s : State) : exec (.deliveryEnd ep id) s
    = live (deliveryEnd · ep id) s := rfl
theorem exec_carUp (port : Nat) (p : Packet) (s : State) : exec (.carUp port p) s
    = live (carUp · port p) s := rfl
theorem exec_carDown (port : Nat) (p : Packet) (s : State) : exec (.carDown port p) s
    = live (carDown · port p) s := rfl
theorem exec_carAck (port : Nat) (p : Packet) (s : State) : exec (.carAck port p) s
    = live (carAck · port p) s := rfl
theorem exec_carEnd (port : Nat) (p : Packet) (s : State) : exec (.carEnd port p) s
    = live (carEnd · port p) s := rfl
theorem exec_carSlot (port : Nat) (p : Packet) (s : State) : exec (.carSlot port p) s
    = live (carSlot · port p) s := rfl
theorem exec_treeInstall (m : TreeInstall) (s : State) : exec (.treeInstall m) s
    = live (treeInstall · m) s := rfl
theorem exec_treeEpochSwitch (handle : Nat) (s : State) : exec (.treeEpochSwitch handle) s
    = live (treeSwitch · handle) s := rfl
theorem exec_treeEpochRetire (handle : Nat) (s : State) : exec (.treeEpochRetire handle) s
    = live (treeRetire · handle) s := rfl
theorem exec_treeReadyTimeout (group : Nat) (s : State) : exec (.treeReadyTimeout group) s
    = live (treeReadyTimeout · group) s := rfl
theorem exec_groupJoin (j : JoinReport) (s : State) : exec (.groupJoin j) s
    = live (groupJoin · j) s := rfl
theorem exec_groupCreateTimeout (fn : Nat) (s : State) : exec (.groupCreateTimeout fn) s
    = live (createTimeout · fn) s := rfl
theorem exec_move (ch : Nat) (s : State) : exec (.move ch) s
    = live (fun s => execute s ch [0x01] (moveInstr ch)) s := rfl
theorem exec_moveChecked (ch : Nat) (s : State) : exec (.moveChecked ch) s
    = live (fun s => execute s ch [0x02, 0x03, 0x04] (moveInstr ch)) s := rfl
theorem exec_loop (ch : Nat) (s : State) : exec (.loop ch) s
    = live (fun s => execute s ch [0x10] (loopInstr ch)) s := rfl
theorem exec_wait (ch : Nat) (s : State) : exec (.wait ch) s
    = live (fun s => execute s ch [0x11] (waitInstr ch)) s := rfl
theorem exec_waitEnd (ch : Nat) (s : State) : exec (.waitEnd ch) s
    = live (waitEnd · ch) s := rfl
theorem exec_signal (ch : Nat) (s : State) : exec (.signal ch) s
    = live (fun s => execute s ch [0x12] (signalInstr ch)) s := rfl
theorem exec_moverFence (ch : Nat) (s : State) : exec (.moverFence ch) s
    = live (fun s => execute s ch [0x13] (fenceInstr ch)) s := rfl
theorem exec_moverEnd (ch : Nat) (s : State) : exec (.moverEnd ch) s
    = live (fun s => execute s ch [0x1F] (fun s _ => movDone s ch)) s := rfl
theorem exec_moverBeat (s : State) : exec (.moverBeat) s
    = live moverBeat s := rfl
theorem exec_descriptor (ch : Nat) (s : State) : exec (.descriptor ch) s
    = live (descriptor · ch) s := rfl
theorem exec_moverReadFailure (ch : Nat) (s : State) : exec (.moverReadFailure ch) s
    = live (readFailure · ch) s := rfl
theorem exec_injectionGrant (port : Nat) (s : State) : exec (.injectionGrant port) s
    = live (injectionGrant · port) s := rfl
theorem exec_shaperTick (s : State) : exec (.shaperTick) s
    = die (fun s => if running s then settle (deviceTick s) else deviceTick s) s := rfl
theorem exec_queueSample (s : State) : exec (.queueSample) s
    = live queueSample s := rfl
theorem exec_dialSample (d : Nat) (s : State) : exec (.dialSample d) s
    = live (dialSample · d) s := rfl
theorem exec_strikeFrameStart (flow : Nat) (s : State) : exec (.strikeFrameStart flow) s
    = live (frameStart · flow) s := rfl
theorem exec_strikeEpochSwitch (s : State) : exec (.strikeEpochSwitch) s
    = live strikeSwitchReport s := rfl
theorem exec_strikeEpochRetire (s : State) : exec (.strikeEpochRetire) s
    = live strikeRetire s := rfl
theorem exec_strikeActivateTimeout (s : State) : exec (.strikeActivateTimeout) s
    = live strikeTimeout s := rfl
theorem exec_strikeWaitExpiry (port : Nat) (s : State) : exec (.strikeWaitExpiry port) s
    = live (strikeWaitExpiry · port) s := rfl
theorem exec_headFlitGrant (port vc : Nat) (s : State) : exec (.headFlitGrant port vc) s
    = live (headFlitGrant · port vc) s := rfl
theorem exec_escDelayExpiry (port vc : Nat) (s : State) : exec (.escDelayExpiry port vc) s
    = live (escDelayExpiry · port vc) s := rfl
theorem exec_ageCheck (s : State) : exec (.ageCheck) s
    = live ageCheck s := rfl
theorem exec_ejectStall (fn : Nat) (s : State) : exec (.ejectStall fn) s
    = live (ejectStall · fn) s := rfl
theorem exec_flitGroupReceive (p : Nat) (g : RawGroup) (s : State) : exec (.flitGroupReceive p g) s
    = laneEvent p (fun s => advanceAll (groupReceive s p g)) s := rfl
theorem exec_nakRepeat (p : Nat) (s : State) : exec (.nakRepeat p) s
    = laneEvent p (nakRepeat · p) s := rfl
theorem exec_train (p : Nat) (lanes : List Nat) (s : State) : exec (.train p lanes) s
    = laneEvent p (trainSet · p lanes) s := rfl
theorem exec_trainingTimeout (p : Nat) (s : State) : exec (.trainingTimeout p) s
    = laneEvent p (trainingTimeout · p) s := rfl
theorem exec_timeXSend (p : Nat) (s : State) : exec (.timeXSend p) s
    = laneEvent p (timeXSend · p) s := rfl
theorem exec_timeX (p : Nat) (lanes : List Nat) (frac : Nat) (s : State) : exec (.timeX p ⟨lanes, frac⟩) s
    = laneEvent p (timeSet · p lanes frac) s := rfl
theorem exec_holdoverExpiry (s : State) : exec (.holdoverExpiry) s
    = live holdoverExpiry s := rfl
theorem exec_fence (p : Nat) (lanes : List Nat) (s : State) : exec (.fence p lanes) s
    = laneEvent p (fenceSet · p lanes) s := rfl
theorem exec_sleep (p : Nat) (lanes : List Nat) (s : State) : exec (.sleep ⟨p, lanes⟩) s
    = laneEvent p (sleepSet · p lanes) s := rfl
theorem exec_sleepEntry (p : Nat) (s : State) : exec (.sleepEntry p) s
    = laneEvent p (sleepEntry · p) s := rfl
theorem exec_sleepWake (p : Nat) (s : State) : exec (.sleepWake p) s
    = laneEvent p (sleepWake · p) s := rfl
theorem exec_laneSignalLoss (p lane : Nat) (lock : Bool) (s : State) : exec (.laneSignalLoss p lane lock) s
    = laneEvent p (signalLoss · p lane lock) s := rfl
theorem exec_lneLinkDown (p : Nat) (s : State) : exec (.lneLinkDown p) s
    = laneEvent p (linkDown · p) s := rfl
theorem exec_refSignalLoss (bits : Nat) (s : State) : exec (.refSignalLoss bits) s
    = live (refLost · bits) s := rfl
theorem exec_timeInPps (frac : Nat) (s : State) : exec (.timeInPps frac) s
    = live (ppsEdge · frac) s := rfl
theorem exec_timeInTod (m : List Byte) (s : State) : exec (.timeInTod m) s
    = live (todMessage · m) s := rfl
theorem exec_timeOutPps (s : State) : exec (.timeOutPps) s
    = live ppsOut s := rfl
theorem exec_rootHandover (s : State) : exec .rootHandover s = live rootHandover s := rfl
theorem exec_backupRootTakeover (s : State) : exec (.backupRootTakeover) s
    = live backupTakeover s := rfl
theorem exec_paceWindow (count mv : Nat) (tj : Int) (s : State) : exec (.paceWindow count mv tj) s
    = live (paceWindow · count mv tj) s := rfl
theorem exec_fenceReport (device : Nat) (r : PortReport) (s : State) : exec (.fenceReport device r) s
    = live (portReport · device r) s := rfl
theorem exec_fenceReportResend (s : State) : exec (.fenceReportResend) s
    = live resendReports s := rfl
theorem exec_epochFlood (number : Nat) (map : FaultMap) (s : State) : exec (.epochFlood number map) s
    = live (epochFlood · number map) s := rfl
theorem exec_epochReadyReport (r : ReadyReport) (s : State) : exec (.epochReadyReport r) s
    = live (readyReport · r) s := rfl
theorem exec_switchTimeFlood (f : SwitchFlood) (s : State) : exec (.switchTimeFlood f) s
    = live (switchFlood · f) s := rfl
theorem exec_routeEpochSwitch (s : State) : exec (.routeEpochSwitch) s
    = live routeSwitch s := rfl
theorem exec_switchReport (r : SwitchReport) (s : State) : exec (.switchReport r) s
    = live (switchReport · r) s := rfl
theorem exec_routeEpochRetire (s : State) : exec (.routeEpochRetire) s
    = live routeRetire s := rfl
theorem exec_epochReportTimeout (s : State) : exec (.epochReportTimeout) s
    = live epochTimeout s := rfl
theorem exec_faultMapReport (map : FaultMap) (s : State) : exec (.faultMapReport map) s
    = live (faultMapReport · map) s := rfl
theorem exec_coordinateAnnouncement (port : Nat) (coord : Nat) (s : State) : exec (.coordinateAnnouncement port coord) s
    = live (announcement · port coord) s := rfl
theorem exec_reAimNotice (coord : Nat) (failed : Nat) (s : State) : exec (.reAimNotice coord failed) s
    = live (reAimNotice · coord failed) s := rfl
theorem exec_fabricCommandedReset (sender : Nat) (s : State) : exec (.fabricCommandedReset sender) s
    = die (fabricReset · sender) s := rfl
theorem exec_heartbeatSend (s : State) : exec (.heartbeatSend) s
    = live heartbeatSend s := rfl
theorem exec_hello (frame : TwinFrame) (s : State) : exec (.hello frame) s
    = live (helloFrame · frame) s := rfl
theorem exec_heartbeat (frame : TwinFrame) (s : State) : exec (.heartbeat frame) s
    = live (heartbeatFrame · frame) s := rfl
theorem exec_mirror (frame : TwinFrame) (s : State) : exec (.mirror frame) s
    = live (mirrorFrame · frame) s := rfl
theorem exec_syncDone (frame : TwinFrame) (s : State) : exec (.syncDone frame) s
    = live (syncDoneFrame · frame) s := rfl
theorem exec_mirrorConfirm (seq : Nat) (s : State) : exec (.mirrorConfirm seq) s
    = live (mirrorConfirm · seq) s := rfl
theorem exec_heartbeatTimeout (s : State) : exec (.heartbeatTimeout) s
    = live heartbeatTimeout s := rfl
theorem exec_fatalIn (s : State) : exec (.fatalIn) s
    = die (pinEvent fatalLevel fatalIn) s := rfl
theorem exec_twinStopDelayExpiry (s : State) : exec (.twinStopDelayExpiry) s
    = live stopDelayExpiry s := rfl
theorem exec_twinStopIn (s : State) : exec (.twinStopIn) s
    = die (pinEvent stopLevel stopIn) s := rfl
theorem exec_stopConfirmTimeout (s : State) : exec (.stopConfirmTimeout) s
    = live stopConfirmTimeout s := rfl
theorem exec_stopOutRelease (s : State) : exec (.stopOutRelease) s
    = live stopOutRelease s := rfl
theorem exec_adoptQueue (q : Nat) (s : State) : exec (.adoptQueue q) s
    = live (adoptQueue · q) s := rfl
theorem exec_shadowWordPoll (q : Nat) (s : State) : exec (.shadowWordPoll q) s
    = live (shadowPoll · q) s := rfl
theorem exec_faultOccurrence (occs : List Occ) (s : State) : exec (.faultOccurrence occs) s
    = die (occurrences occs) s := rfl
theorem exec_powerOnReset (s : State) : exec (.powerOnReset) s
    = die (resetDevice · true) s := rfl
theorem exec_resetRelease (straps : Straps) (s : State) : exec (.resetRelease straps) s
    = die (resetRelease · straps) s := rfl
theorem exec_warmReset (s : State) : exec (.warmReset) s
    = die (resetDevice · false) s := rfl
theorem exec_linkHalfReset (half : Nat) (s : State) : exec (.linkHalfReset half) s
    = live (linkHalfReset · half) s := rfl
theorem exec_functionLevelReset (fn : Nat) (s : State) : exec (.functionLevelReset fn) s
    = live (functionReset · fn) s := rfl
theorem exec_machineRecordRead (bytes : List Byte) (s : State) : exec (.machineRecordRead bytes) s
    = live (machineRecordRead · bytes) s := rfl
theorem exec_firmwareLoad (s : State) : exec (.firmwareLoad) s
    = live firmwareLoad s := rfl
theorem exec_coordinateDiscovery (s : State) : exec (.coordinateDiscovery) s
    = live discover s := rfl
theorem exec_d3hotEntry (fn : Nat) (s : State) : exec (.d3hotEntry fn) s
    = live (d3hotEntry · fn) s := rfl
theorem exec_d0Return (fn : Nat) (s : State) : exec (.d0Return fn) s
    = live (d0Return · fn) s := rfl
theorem exec_supplyMonitor (src : Nat) (value : Int) (s : State) : exec (.supplyMonitor src value) s
    = live (supplyMonitor · src value) s := rfl
theorem exec_registrarPowerOn (s : State) : exec (.registrarPowerOn) s
    = registrar regPowerOn s := rfl
theorem exec_tapFrame (lost : Bool) (bad : Bool) (s : State) : exec (.tapFrame lost bad) s
    = registrar (tapFrame · lost bad) s := rfl
theorem exec_tapStopped (s : State) : exec (.tapStopped) s
    = registrar tapStopped s := rfl
theorem exec_energySample (e : EnergySample) (s : State) : exec (.energySample e) s
    = registrar (energySample · e) s := rfl
theorem exec_periodBoundary (s : State) : exec (.periodBoundary) s
    = registrar periodBoundary s := rfl
theorem exec_seal_ (s : State) : exec (.seal_) s
    = registrar regSeal s := rfl
theorem exec_calibrationWrite (w : CalWrite) (s : State) : exec (.calibrationWrite w) s
    = registrar (calWrite · w) s := rfl
theorem exec_calEn (s : State) : exec (.calEn) s
    = registrar calEnable s := rfl
theorem exec_hostReadCompletion (addr : Nat) (data : List Byte) (error : Option CplError) (s : State) : exec (.hostReadCompletion addr data error) s
    = live (readCompletion · addr data error) s := rfl
theorem exec_configurationRequest (fn : Nat) (bus : Nat) (w : CfgWrite) (s : State) : exec (.configurationRequest fn bus w) s
    = die (configurationRequest · fn bus w) s := rfl
theorem exec_hostLinkTrained (half : Nat) (speed : Nat) (width : Nat) (s : State) : exec (.hostLinkTrained half speed width) s
    = live (hostLinkTrained · half speed width) s := rfl
theorem exec_signalDetect (p lane : Nat) (s : State) : exec (.signalDetect p lane) s
    = laneEvent p (signalDetect · p lane) s := rfl
theorem exec_adapt (p : Nat) (lanes : List (Nat × LaneEq)) (s : State) : exec (.adapt p lanes) s
    = laneEvent p (adapt · p lanes) s := rfl
theorem exec_blockLock (p lane : Nat) (heads : List Nat) (skew : Nat) (s : State) : exec (.blockLock p ⟨lane, heads, skew⟩) s
    = laneEvent p (blockLock · p lane heads skew) s := rfl
theorem exec_lneFomLow (p lane fom : Nat) (s : State) : exec (.lneFomLow p lane fom) s
    = laneEvent p (fomLow · p lane fom) s := rfl
theorem exec_refOk (s : State) : exec .refOk s = live refFound s := rfl
theorem exec_remoteRelay (r : LockRelay) (s : State) : exec (.remoteRelay r) s
    = live (remoteRelay · r) s := rfl
theorem exec_treeReadyReport (r : TreeReport) (s : State) : exec (.treeReadyReport r) s
    = live (treeReadyReport · r) s := rfl
theorem exec_destroyFlood (group : Nat) (s : State) : exec (.destroyFlood group) s
    = live (destroyFlood · group) s := rfl
theorem exec_fatalInDeasserted (s : State) : exec (.fatalInDeasserted) s
    = die (pinEvent fatalInOff fatalInOff) s := rfl
theorem exec_twinStopInDeasserted (s : State) : exec (.twinStopInDeasserted) s
    = die (pinEvent stopInOff stopInOff) s := rfl
theorem exec_aspmL1 (half : Nat) (enter : Bool) (s : State) : exec (.aspmL1 half enter) s
    = live (aspmL1 · half enter) s := rfl

end Sys2Proof.Machine
end

