-- ==== Sys2Proof/Laws/CarData.lean ====
section
/-! SUPPORT. Exact sums add in any order and grouping; a rounded number is never a NaN. -/

namespace Sys2Proof.Machine

/-- Exact sums do not depend on the order of two contributions. -/
theorem exactAdd_comm (a b : ExactAcc) : exactAdd a b = exactAdd b a := by
  simp only [exactAdd, Int.add_comm, Bool.or_comm, Bool.and_comm]

/-- Exact sums do not depend on the grouping of contributions. -/
theorem exactAdd_assoc (a b c : ExactAcc) : exactAdd (exactAdd a b) c = exactAdd a (exactAdd b c) := by
  simp only [exactAdd, Int.add_assoc, Bool.or_assoc, Bool.and_assoc]

/-- Element by element, order does not matter. -/
theorem zip_comm (a b : List ExactAcc) : List.zipWith exactAdd a b = List.zipWith exactAdd b a := by
  induction a generalizing b with
  | nil => cases b <;> simp
  | cons x a ih => cases b with
    | nil => simp
    | cons y b => simp [exactAdd_comm x y, ih b]

/-- Element by element, grouping does not matter. -/
theorem zip_assoc (a b c : List ExactAcc) : List.zipWith exactAdd (List.zipWith exactAdd a b) c = List.zipWith exactAdd a (List.zipWith exactAdd b c) := by
  induction a generalizing b c with
  | nil => simp
  | cons x a ih => cases b with
    | nil => simp
    | cons y b => cases c with
      | nil => simp
      | cons z c => simp [exactAdd_assoc, ih]

/-- Combining with nothing changes nothing. -/
theorem combine_none (p : CarParams) (a : CarData) : combine p a .none = a := by cases a <;> rfl

/-- A word with its exponent field below all ones is no NaN. -/
theorem fval_place {f : Fmt} {q e b : Nat} (he : e < 2 ^ f.ebits - 1) : fval f (place [(0, q % 2 ^ f.fbits), (f.fbits, e), (f.fbits + f.ebits, b)]) ≠ .nan := by
  have hw : field (place [(0, q % 2 ^ f.fbits), (f.fbits, e), (f.fbits + f.ebits, b)]) f.fbits f.ebits = e := by
    simp only [field, place, Nat.pow_zero, Nat.mul_one, Nat.add_zero, Nat.pow_add]
    have hq : q % 2 ^ f.fbits < 2 ^ f.fbits := Nat.mod_lt _ (Nat.two_pow_pos _)
    have : q % 2 ^ f.fbits + (e * 2 ^ f.fbits + b * (2 ^ f.fbits * 2 ^ f.ebits)) = q % 2 ^ f.fbits + 2 ^ f.fbits * (e + 2 ^ f.ebits * b) := by
      rw [Nat.mul_add, Nat.mul_comm e, Nat.mul_left_comm, Nat.mul_comm b]
    rw [this, Nat.add_mul_div_left _ _ (Nat.two_pow_pos _), Nat.div_eq_of_lt hq, Nat.zero_add, Nat.add_mul_mod_self_left, Nat.mod_eq_of_lt (by omega)]
  simp only [fval, hw]
  rw [if_neg (by omega)]
  split <;> simp

/-- A rounded number is no NaN, in a format whose infinities are none. -/
theorem fval_round {f : Fmt} (hi : ∀ b, fval f (infWord f b) ≠ .nan) (neg : Bool) (mag : Nat) : fval f (roundWord f neg mag) ≠ .nan := by
  have k : ∀ q e : Nat, fval f (if e ≥ 2 ^ f.ebits - 1 then infWord f neg
      else place [(0, q % 2 ^ f.fbits), (f.fbits, e), (f.fbits + f.ebits, b2n neg)]) ≠ .nan := by
    intro q e
    split
    · exact hi _
    · exact fval_place (by omega)
  unfold roundWord
  exact k _ _

end Sys2Proof.Machine
end

