-- ==== Sys2Proof/Laws/Coding.lean ====
section
/-! SUPPORT. The generator polynomial of the Reed-Solomon code RS(538,524), and the rows of its division (R154). -/

namespace Sys2Proof.Machine

/-! ### The Reed-Solomon generator -/

/-- The generator with the roots x^0 to x^13: its 14 coefficients below the leading one, 10 bits each. -/
def rsGenerator : Nat :=
  ((List.range 14).foldl (fun g i =>
    (List.range (g.length + 1)).map (fun k => Nat.xor (if k = 0 then 0 else g.getD (k - 1) 0) (gfMul (gfPow 2 i) (g.getD k 0)))) [1]).take 14
  |>.foldr (fun c n => c + n * 1024) 0

/-- The rows that the division works with are the multiples of the generator. -/
theorem rsRows_eq : rsRows = (List.range 10).map (fun i =>
    (List.range 14).foldl (fun n k => n + gfMul (field rsGenerator (10 * k) 10) (2 ^ i) * 2 ^ (10 * k)) 0) := by decide +kernel

end Sys2Proof.Machine
end

