-- ==== Sys2Proof/Laws/Commands.lean ====
section
/-! SUPPORT. What a command that the Curator serves comes to: one lemma for each way that its work can end. -/

namespace Sys2Proof.Machine

/-- A running device does the command's own effect, and then what follows. -/
theorem live_running {f : State → State} {s : State} (h : running s = true) : live f s = .next (conclude s (f s)) := by
  simp [live, h]

/-- A running device whose command has this effect. -/
theorem live_does {f : State → State} {s u : State} (h : running s = true) (hf : f s = u) : live f s = .next (conclude s u) := by
  rw [live_running h, hf]

/-- A command that acts on the main die whatever its condition. -/
theorem die_does {f : State → State} {s u : State} (hf : f s = u) : die f s = .next (keep s u) := by
  rw [die, hf]

/-- A command of the Registrar's own. -/
theorem registrar_does {f : State → State} {s u : State} (hf : f s = u) :
    registrar f s = .next { u with pending := s.pending } := by
  rw [registrar, hf]

/-- An event of a port with lanes. -/
theorem lane_does {f : State → State} {s u : State} {p : Nat} (hp : hasLanes p = true) (h : running s = true) (hf : f s = u) :
    laneEvent p f s = .next (conclude s u) := by
  rw [laneEvent, if_pos hp, live_does h hf]

/-- A device in reset or in the safe state is left as it was. -/
theorem live_stopped {f : State → State} {s : State} (h : running s = false) : live f s = .next s := by
  simp [live, h]

/-- A served command whose work ends with a status. -/
theorem served_done {body : Nat → Cmd → State → State × CmdOut} {s u : State} {fn op st d : Nat} {c : Cmd} {resp : List Byte}
    (h : Serves s fn op c) (hb : body fn c s = (u, .done st resp d)) :
    live (runCmd op body fn) s = .next (conclude s (finish u fn c st resp d)) := by
  obtain ⟨h1, h2, h3, h4, h5⟩ := h
  rw [live_running h1]
  simp [runCmd, h2, h3, h4, h5, hb]

/-- A served command that ends OK. -/
theorem served_ok {body : Nat → Cmd → State → State × CmdOut} {s u : State} {fn op : Nat} {c : Cmd} {resp : List Byte}
    (h : Serves s fn op c) (hb : body fn c s = (u, .done stOk resp 0)) :
    live (runCmd op body fn) s = .next (completed s u fn c resp) := served_done h hb

/-- A served command that goes on to wait. -/
theorem served_wait {body : Nat → Cmd → State → State × CmdOut} {s u : State} {fn op : Nat} {c : Cmd} {w : Wait}
    (h : Serves s fn op c) (hb : body fn c s = (u, .wait w)) :
    live (runCmd op body fn) s = .next (awaits s u fn c w) := by
  obtain ⟨h1, h2, h3, h4, h5⟩ := h
  rw [live_running h1]
  simp [runCmd, awaits, h2, h3, h4, h5, hb]

/-- A served command that must let earlier ones end first. -/
theorem served_again {body : Nat → Cmd → State → State × CmdOut} {s u : State} {fn op : Nat} {c : Cmd}
    (h : Serves s fn op c) (hb : body fn c s = (u, .again)) :
    live (runCmd op body fn) s = .next (conclude s u) := by
  obtain ⟨h1, h2, h3, h4, h5⟩ := h
  rw [live_running h1]
  simp [runCmd, h2, h3, h4, h5, hb]

end Sys2Proof.Machine
end

