-- ==== Sys2Proof/Laws/State.lean ====
section
/-! SUPPORT. One lemma per named update and per field of the state: what it leaves, and what it sets. -/

namespace Sys2Proof.Machine

/-! ### setAdm -/

@[simp] theorem setAdm_brd (s : State) (fn : Nat) (a : AdmQ) : (setAdm s fn a).brd = s.brd := rfl
@[simp] theorem setAdm_cus (s : State) (fn : Nat) (a : AdmQ) : (setAdm s fn a).cus = s.cus := rfl
@[simp] theorem setAdm_mon (s : State) (fn : Nat) (a : AdmQ) : (setAdm s fn a).mon = s.mon := rfl
@[simp] theorem setAdm_hif (s : State) (fn : Nat) (a : AdmQ) : (setAdm s fn a).hif = s.hif := rfl
@[simp] theorem setAdm_rings (s : State) (fn : Nat) (a : AdmQ) : (setAdm s fn a).rings = s.rings := rfl
@[simp] theorem setAdm_rgl (s : State) (fn : Nat) (a : AdmQ) : (setAdm s fn a).rgl = s.rgl := rfl
@[simp] theorem setAdm_mvt (s : State) (fn : Nat) (a : AdmQ) : (setAdm s fn a).mvt = s.mvt := rfl
@[simp] theorem setAdm_epo (s : State) (fn : Nat) (a : AdmQ) : (setAdm s fn a).epo = s.epo := rfl
@[simp] theorem setAdm_lne (s : State) (fn : Nat) (a : AdmQ) : (setAdm s fn a).lne = s.lne := rfl
@[simp] theorem setAdm_stk (s : State) (fn : Nat) (a : AdmQ) : (setAdm s fn a).stk = s.stk := rfl
@[simp] theorem setAdm_sch (s : State) (fn : Nat) (a : AdmQ) : (setAdm s fn a).sch = s.sch := rfl
@[simp] theorem setAdm_xlt (s : State) (fn : Nat) (a : AdmQ) : (setAdm s fn a).xlt = s.xlt := rfl
@[simp] theorem setAdm_ctx (s : State) (fn : Nat) (a : AdmQ) : (setAdm s fn a).ctx = s.ctx := rfl
@[simp] theorem setAdm_pal (s : State) (fn : Nat) (a : AdmQ) : (setAdm s fn a).pal = s.pal := rfl
@[simp] theorem setAdm_cat (s : State) (fn : Nat) (a : AdmQ) : (setAdm s fn a).cat = s.cat := rfl
@[simp] theorem setAdm_car (s : State) (fn : Nat) (a : AdmQ) : (setAdm s fn a).car = s.car := rfl
@[simp] theorem setAdm_mov (s : State) (fn : Nat) (a : AdmQ) : (setAdm s fn a).mov = s.mov := rfl
@[simp] theorem setAdm_twn (s : State) (fn : Nat) (a : AdmQ) : (setAdm s fn a).twn = s.twn := rfl
@[simp] theorem setAdm_rgs (s : State) (fn : Nat) (a : AdmQ) : (setAdm s fn a).rgs = s.rgs := rfl
@[simp] theorem setAdm_tap (s : State) (fn : Nat) (a : AdmQ) : (setAdm s fn a).tap = s.tap := rfl
@[simp] theorem setAdm_host (s : State) (fn : Nat) (a : AdmQ) : (setAdm s fn a).host = s.host := rfl
@[simp] theorem setAdm_hostErr (s : State) (fn : Nat) (a : AdmQ) : (setAdm s fn a).hostErr = s.hostErr := rfl
@[simp] theorem setAdm_drawn (s : State) (fn : Nat) (a : AdmQ) : (setAdm s fn a).drawn = s.drawn := rfl
@[simp] theorem setAdm_justSet (s : State) (fn : Nat) (a : AdmQ) : (setAdm s fn a).justSet = s.justSet := rfl
@[simp] theorem setAdm_inReset (s : State) (fn : Nat) (a : AdmQ) : (setAdm s fn a).inReset = s.inReset := rfl
@[simp] theorem setAdm_pending (s : State) (fn : Nat) (a : AdmQ) : (setAdm s fn a).pending = s.pending := rfl
@[simp] theorem setAdm_same (s : State) (fn : Nat) (a : AdmQ) : admOf (setAdm s fn a) fn = a := by simp [admOf, setAdm]

/-! ### setFn -/

@[simp] theorem setFn_brd (s : State) (fn : Nat) (f : Fn → Fn) : (setFn s fn f).brd = s.brd := rfl
@[simp] theorem setFn_cus (s : State) (fn : Nat) (f : Fn → Fn) : (setFn s fn f).cus = s.cus := rfl
@[simp] theorem setFn_mon (s : State) (fn : Nat) (f : Fn → Fn) : (setFn s fn f).mon = s.mon := rfl
@[simp] theorem setFn_rings (s : State) (fn : Nat) (f : Fn → Fn) : (setFn s fn f).rings = s.rings := rfl
@[simp] theorem setFn_cur (s : State) (fn : Nat) (f : Fn → Fn) : (setFn s fn f).cur = s.cur := rfl
@[simp] theorem setFn_rgl (s : State) (fn : Nat) (f : Fn → Fn) : (setFn s fn f).rgl = s.rgl := rfl
@[simp] theorem setFn_mvt (s : State) (fn : Nat) (f : Fn → Fn) : (setFn s fn f).mvt = s.mvt := rfl
@[simp] theorem setFn_epo (s : State) (fn : Nat) (f : Fn → Fn) : (setFn s fn f).epo = s.epo := rfl
@[simp] theorem setFn_lne (s : State) (fn : Nat) (f : Fn → Fn) : (setFn s fn f).lne = s.lne := rfl
@[simp] theorem setFn_stk (s : State) (fn : Nat) (f : Fn → Fn) : (setFn s fn f).stk = s.stk := rfl
@[simp] theorem setFn_sch (s : State) (fn : Nat) (f : Fn → Fn) : (setFn s fn f).sch = s.sch := rfl
@[simp] theorem setFn_xlt (s : State) (fn : Nat) (f : Fn → Fn) : (setFn s fn f).xlt = s.xlt := rfl
@[simp] theorem setFn_ctx (s : State) (fn : Nat) (f : Fn → Fn) : (setFn s fn f).ctx = s.ctx := rfl
@[simp] theorem setFn_pal (s : State) (fn : Nat) (f : Fn → Fn) : (setFn s fn f).pal = s.pal := rfl
@[simp] theorem setFn_cat (s : State) (fn : Nat) (f : Fn → Fn) : (setFn s fn f).cat = s.cat := rfl
@[simp] theorem setFn_car (s : State) (fn : Nat) (f : Fn → Fn) : (setFn s fn f).car = s.car := rfl
@[simp] theorem setFn_mov (s : State) (fn : Nat) (f : Fn → Fn) : (setFn s fn f).mov = s.mov := rfl
@[simp] theorem setFn_twn (s : State) (fn : Nat) (f : Fn → Fn) : (setFn s fn f).twn = s.twn := rfl
@[simp] theorem setFn_rgs (s : State) (fn : Nat) (f : Fn → Fn) : (setFn s fn f).rgs = s.rgs := rfl
@[simp] theorem setFn_tap (s : State) (fn : Nat) (f : Fn → Fn) : (setFn s fn f).tap = s.tap := rfl
@[simp] theorem setFn_host (s : State) (fn : Nat) (f : Fn → Fn) : (setFn s fn f).host = s.host := rfl
@[simp] theorem setFn_hostErr (s : State) (fn : Nat) (f : Fn → Fn) : (setFn s fn f).hostErr = s.hostErr := rfl
@[simp] theorem setFn_drawn (s : State) (fn : Nat) (f : Fn → Fn) : (setFn s fn f).drawn = s.drawn := rfl
@[simp] theorem setFn_justSet (s : State) (fn : Nat) (f : Fn → Fn) : (setFn s fn f).justSet = s.justSet := rfl
@[simp] theorem setFn_inReset (s : State) (fn : Nat) (f : Fn → Fn) : (setFn s fn f).inReset = s.inReset := rfl
@[simp] theorem setFn_pending (s : State) (fn : Nat) (f : Fn → Fn) : (setFn s fn f).pending = s.pending := rfl
@[simp] theorem setFn_same (s : State) (fn : Nat) (f : Fn → Fn) : fnOf (setFn s fn f) fn = f (fnOf s fn) := by simp [fnOf, setFn, fmModify]

/-! ### setRing -/

@[simp] theorem setRing_brd (s : State) (key : Nat) (r : EvRing) : (setRing s key r).brd = s.brd := rfl
@[simp] theorem setRing_cus (s : State) (key : Nat) (r : EvRing) : (setRing s key r).cus = s.cus := rfl
@[simp] theorem setRing_mon (s : State) (key : Nat) (r : EvRing) : (setRing s key r).mon = s.mon := rfl
@[simp] theorem setRing_hif (s : State) (key : Nat) (r : EvRing) : (setRing s key r).hif = s.hif := rfl
@[simp] theorem setRing_cur (s : State) (key : Nat) (r : EvRing) : (setRing s key r).cur = s.cur := rfl
@[simp] theorem setRing_rgl (s : State) (key : Nat) (r : EvRing) : (setRing s key r).rgl = s.rgl := rfl
@[simp] theorem setRing_mvt (s : State) (key : Nat) (r : EvRing) : (setRing s key r).mvt = s.mvt := rfl
@[simp] theorem setRing_epo (s : State) (key : Nat) (r : EvRing) : (setRing s key r).epo = s.epo := rfl
@[simp] theorem setRing_lne (s : State) (key : Nat) (r : EvRing) : (setRing s key r).lne = s.lne := rfl
@[simp] theorem setRing_stk (s : State) (key : Nat) (r : EvRing) : (setRing s key r).stk = s.stk := rfl
@[simp] theorem setRing_sch (s : State) (key : Nat) (r : EvRing) : (setRing s key r).sch = s.sch := rfl
@[simp] theorem setRing_xlt (s : State) (key : Nat) (r : EvRing) : (setRing s key r).xlt = s.xlt := rfl
@[simp] theorem setRing_ctx (s : State) (key : Nat) (r : EvRing) : (setRing s key r).ctx = s.ctx := rfl
@[simp] theorem setRing_pal (s : State) (key : Nat) (r : EvRing) : (setRing s key r).pal = s.pal := rfl
@[simp] theorem setRing_cat (s : State) (key : Nat) (r : EvRing) : (setRing s key r).cat = s.cat := rfl
@[simp] theorem setRing_car (s : State) (key : Nat) (r : EvRing) : (setRing s key r).car = s.car := rfl
@[simp] theorem setRing_mov (s : State) (key : Nat) (r : EvRing) : (setRing s key r).mov = s.mov := rfl
@[simp] theorem setRing_twn (s : State) (key : Nat) (r : EvRing) : (setRing s key r).twn = s.twn := rfl
@[simp] theorem setRing_rgs (s : State) (key : Nat) (r : EvRing) : (setRing s key r).rgs = s.rgs := rfl
@[simp] theorem setRing_tap (s : State) (key : Nat) (r : EvRing) : (setRing s key r).tap = s.tap := rfl
@[simp] theorem setRing_host (s : State) (key : Nat) (r : EvRing) : (setRing s key r).host = s.host := rfl
@[simp] theorem setRing_hostErr (s : State) (key : Nat) (r : EvRing) : (setRing s key r).hostErr = s.hostErr := rfl
@[simp] theorem setRing_drawn (s : State) (key : Nat) (r : EvRing) : (setRing s key r).drawn = s.drawn := rfl
@[simp] theorem setRing_justSet (s : State) (key : Nat) (r : EvRing) : (setRing s key r).justSet = s.justSet := rfl
@[simp] theorem setRing_inReset (s : State) (key : Nat) (r : EvRing) : (setRing s key r).inReset = s.inReset := rfl
@[simp] theorem setRing_pending (s : State) (key : Nat) (r : EvRing) : (setRing s key r).pending = s.pending := rfl

/-! ### setMarks -/

@[simp] theorem setMarks_brd (s : State) (key : Nat) (l : List Mark) : (setMarks s key l).brd = s.brd := rfl
@[simp] theorem setMarks_cus (s : State) (key : Nat) (l : List Mark) : (setMarks s key l).cus = s.cus := rfl
@[simp] theorem setMarks_mon (s : State) (key : Nat) (l : List Mark) : (setMarks s key l).mon = s.mon := rfl
@[simp] theorem setMarks_hif (s : State) (key : Nat) (l : List Mark) : (setMarks s key l).hif = s.hif := rfl
@[simp] theorem setMarks_cur (s : State) (key : Nat) (l : List Mark) : (setMarks s key l).cur = s.cur := rfl
@[simp] theorem setMarks_rgl (s : State) (key : Nat) (l : List Mark) : (setMarks s key l).rgl = s.rgl := rfl
@[simp] theorem setMarks_mvt (s : State) (key : Nat) (l : List Mark) : (setMarks s key l).mvt = s.mvt := rfl
@[simp] theorem setMarks_epo (s : State) (key : Nat) (l : List Mark) : (setMarks s key l).epo = s.epo := rfl
@[simp] theorem setMarks_lne (s : State) (key : Nat) (l : List Mark) : (setMarks s key l).lne = s.lne := rfl
@[simp] theorem setMarks_stk (s : State) (key : Nat) (l : List Mark) : (setMarks s key l).stk = s.stk := rfl
@[simp] theorem setMarks_sch (s : State) (key : Nat) (l : List Mark) : (setMarks s key l).sch = s.sch := rfl
@[simp] theorem setMarks_xlt (s : State) (key : Nat) (l : List Mark) : (setMarks s key l).xlt = s.xlt := rfl
@[simp] theorem setMarks_ctx (s : State) (key : Nat) (l : List Mark) : (setMarks s key l).ctx = s.ctx := rfl
@[simp] theorem setMarks_pal (s : State) (key : Nat) (l : List Mark) : (setMarks s key l).pal = s.pal := rfl
@[simp] theorem setMarks_cat (s : State) (key : Nat) (l : List Mark) : (setMarks s key l).cat = s.cat := rfl
@[simp] theorem setMarks_car (s : State) (key : Nat) (l : List Mark) : (setMarks s key l).car = s.car := rfl
@[simp] theorem setMarks_mov (s : State) (key : Nat) (l : List Mark) : (setMarks s key l).mov = s.mov := rfl
@[simp] theorem setMarks_twn (s : State) (key : Nat) (l : List Mark) : (setMarks s key l).twn = s.twn := rfl
@[simp] theorem setMarks_rgs (s : State) (key : Nat) (l : List Mark) : (setMarks s key l).rgs = s.rgs := rfl
@[simp] theorem setMarks_tap (s : State) (key : Nat) (l : List Mark) : (setMarks s key l).tap = s.tap := rfl
@[simp] theorem setMarks_host (s : State) (key : Nat) (l : List Mark) : (setMarks s key l).host = s.host := rfl
@[simp] theorem setMarks_hostErr (s : State) (key : Nat) (l : List Mark) : (setMarks s key l).hostErr = s.hostErr := rfl
@[simp] theorem setMarks_drawn (s : State) (key : Nat) (l : List Mark) : (setMarks s key l).drawn = s.drawn := rfl
@[simp] theorem setMarks_justSet (s : State) (key : Nat) (l : List Mark) : (setMarks s key l).justSet = s.justSet := rfl
@[simp] theorem setMarks_inReset (s : State) (key : Nat) (l : List Mark) : (setMarks s key l).inReset = s.inReset := rfl
@[simp] theorem setMarks_pending (s : State) (key : Nat) (l : List Mark) : (setMarks s key l).pending = s.pending := rfl

/-! ### setQueue -/

@[simp] theorem setQueue_brd (s : State) (q : Nat) (x : Queue) : (setQueue s q x).brd = s.brd := rfl
@[simp] theorem setQueue_cus (s : State) (q : Nat) (x : Queue) : (setQueue s q x).cus = s.cus := rfl
@[simp] theorem setQueue_mon (s : State) (q : Nat) (x : Queue) : (setQueue s q x).mon = s.mon := rfl
@[simp] theorem setQueue_hif (s : State) (q : Nat) (x : Queue) : (setQueue s q x).hif = s.hif := rfl
@[simp] theorem setQueue_cur (s : State) (q : Nat) (x : Queue) : (setQueue s q x).cur = s.cur := rfl
@[simp] theorem setQueue_rgl (s : State) (q : Nat) (x : Queue) : (setQueue s q x).rgl = s.rgl := rfl
@[simp] theorem setQueue_mvt (s : State) (q : Nat) (x : Queue) : (setQueue s q x).mvt = s.mvt := rfl
@[simp] theorem setQueue_epo (s : State) (q : Nat) (x : Queue) : (setQueue s q x).epo = s.epo := rfl
@[simp] theorem setQueue_lne (s : State) (q : Nat) (x : Queue) : (setQueue s q x).lne = s.lne := rfl
@[simp] theorem setQueue_stk (s : State) (q : Nat) (x : Queue) : (setQueue s q x).stk = s.stk := rfl
@[simp] theorem setQueue_sch (s : State) (q : Nat) (x : Queue) : (setQueue s q x).sch = s.sch := rfl
@[simp] theorem setQueue_xlt (s : State) (q : Nat) (x : Queue) : (setQueue s q x).xlt = s.xlt := rfl
@[simp] theorem setQueue_ctx (s : State) (q : Nat) (x : Queue) : (setQueue s q x).ctx = s.ctx := rfl
@[simp] theorem setQueue_pal (s : State) (q : Nat) (x : Queue) : (setQueue s q x).pal = s.pal := rfl
@[simp] theorem setQueue_cat (s : State) (q : Nat) (x : Queue) : (setQueue s q x).cat = s.cat := rfl
@[simp] theorem setQueue_car (s : State) (q : Nat) (x : Queue) : (setQueue s q x).car = s.car := rfl
@[simp] theorem setQueue_mov (s : State) (q : Nat) (x : Queue) : (setQueue s q x).mov = s.mov := rfl
@[simp] theorem setQueue_twn (s : State) (q : Nat) (x : Queue) : (setQueue s q x).twn = s.twn := rfl
@[simp] theorem setQueue_rgs (s : State) (q : Nat) (x : Queue) : (setQueue s q x).rgs = s.rgs := rfl
@[simp] theorem setQueue_tap (s : State) (q : Nat) (x : Queue) : (setQueue s q x).tap = s.tap := rfl
@[simp] theorem setQueue_host (s : State) (q : Nat) (x : Queue) : (setQueue s q x).host = s.host := rfl
@[simp] theorem setQueue_hostErr (s : State) (q : Nat) (x : Queue) : (setQueue s q x).hostErr = s.hostErr := rfl
@[simp] theorem setQueue_drawn (s : State) (q : Nat) (x : Queue) : (setQueue s q x).drawn = s.drawn := rfl
@[simp] theorem setQueue_justSet (s : State) (q : Nat) (x : Queue) : (setQueue s q x).justSet = s.justSet := rfl
@[simp] theorem setQueue_inReset (s : State) (q : Nat) (x : Queue) : (setQueue s q x).inReset = s.inReset := rfl
@[simp] theorem setQueue_pending (s : State) (q : Nat) (x : Queue) : (setQueue s q x).pending = s.pending := rfl
@[simp] theorem setQueue_same (s : State) (q : Nat) (x : Queue) : queueOf (setQueue s q x) q = x := by simp [queueOf, setQueue]

/-! ### modQueue -/

@[simp] theorem modQueue_brd (s : State) (q : Nat) (f : Queue → Queue) : (modQueue s q f).brd = s.brd := rfl
@[simp] theorem modQueue_cus (s : State) (q : Nat) (f : Queue → Queue) : (modQueue s q f).cus = s.cus := rfl
@[simp] theorem modQueue_mon (s : State) (q : Nat) (f : Queue → Queue) : (modQueue s q f).mon = s.mon := rfl
@[simp] theorem modQueue_hif (s : State) (q : Nat) (f : Queue → Queue) : (modQueue s q f).hif = s.hif := rfl
@[simp] theorem modQueue_cur (s : State) (q : Nat) (f : Queue → Queue) : (modQueue s q f).cur = s.cur := rfl
@[simp] theorem modQueue_rgl (s : State) (q : Nat) (f : Queue → Queue) : (modQueue s q f).rgl = s.rgl := rfl
@[simp] theorem modQueue_mvt (s : State) (q : Nat) (f : Queue → Queue) : (modQueue s q f).mvt = s.mvt := rfl
@[simp] theorem modQueue_epo (s : State) (q : Nat) (f : Queue → Queue) : (modQueue s q f).epo = s.epo := rfl
@[simp] theorem modQueue_lne (s : State) (q : Nat) (f : Queue → Queue) : (modQueue s q f).lne = s.lne := rfl
@[simp] theorem modQueue_stk (s : State) (q : Nat) (f : Queue → Queue) : (modQueue s q f).stk = s.stk := rfl
@[simp] theorem modQueue_sch (s : State) (q : Nat) (f : Queue → Queue) : (modQueue s q f).sch = s.sch := rfl
@[simp] theorem modQueue_xlt (s : State) (q : Nat) (f : Queue → Queue) : (modQueue s q f).xlt = s.xlt := rfl
@[simp] theorem modQueue_ctx (s : State) (q : Nat) (f : Queue → Queue) : (modQueue s q f).ctx = s.ctx := rfl
@[simp] theorem modQueue_pal (s : State) (q : Nat) (f : Queue → Queue) : (modQueue s q f).pal = s.pal := rfl
@[simp] theorem modQueue_cat (s : State) (q : Nat) (f : Queue → Queue) : (modQueue s q f).cat = s.cat := rfl
@[simp] theorem modQueue_car (s : State) (q : Nat) (f : Queue → Queue) : (modQueue s q f).car = s.car := rfl
@[simp] theorem modQueue_mov (s : State) (q : Nat) (f : Queue → Queue) : (modQueue s q f).mov = s.mov := rfl
@[simp] theorem modQueue_twn (s : State) (q : Nat) (f : Queue → Queue) : (modQueue s q f).twn = s.twn := rfl
@[simp] theorem modQueue_rgs (s : State) (q : Nat) (f : Queue → Queue) : (modQueue s q f).rgs = s.rgs := rfl
@[simp] theorem modQueue_tap (s : State) (q : Nat) (f : Queue → Queue) : (modQueue s q f).tap = s.tap := rfl
@[simp] theorem modQueue_host (s : State) (q : Nat) (f : Queue → Queue) : (modQueue s q f).host = s.host := rfl
@[simp] theorem modQueue_hostErr (s : State) (q : Nat) (f : Queue → Queue) : (modQueue s q f).hostErr = s.hostErr := rfl
@[simp] theorem modQueue_drawn (s : State) (q : Nat) (f : Queue → Queue) : (modQueue s q f).drawn = s.drawn := rfl
@[simp] theorem modQueue_justSet (s : State) (q : Nat) (f : Queue → Queue) : (modQueue s q f).justSet = s.justSet := rfl
@[simp] theorem modQueue_inReset (s : State) (q : Nat) (f : Queue → Queue) : (modQueue s q f).inReset = s.inReset := rfl
@[simp] theorem modQueue_pending (s : State) (q : Nat) (f : Queue → Queue) : (modQueue s q f).pending = s.pending := rfl
@[simp] theorem modQueue_same (s : State) (q : Nat) (f : Queue → Queue) : queueOf (modQueue s q f) q = f (queueOf s q) := by simp [queueOf, modQueue, setQueue]

/-! ### modJob -/

@[simp] theorem modJob_brd (s : State) (q : Nat) (idx : Idx) (f : Job → Job) : (modJob s q idx f).brd = s.brd := rfl
@[simp] theorem modJob_cus (s : State) (q : Nat) (idx : Idx) (f : Job → Job) : (modJob s q idx f).cus = s.cus := rfl
@[simp] theorem modJob_mon (s : State) (q : Nat) (idx : Idx) (f : Job → Job) : (modJob s q idx f).mon = s.mon := rfl
@[simp] theorem modJob_hif (s : State) (q : Nat) (idx : Idx) (f : Job → Job) : (modJob s q idx f).hif = s.hif := rfl
@[simp] theorem modJob_cur (s : State) (q : Nat) (idx : Idx) (f : Job → Job) : (modJob s q idx f).cur = s.cur := rfl
@[simp] theorem modJob_rgl (s : State) (q : Nat) (idx : Idx) (f : Job → Job) : (modJob s q idx f).rgl = s.rgl := rfl
@[simp] theorem modJob_mvt (s : State) (q : Nat) (idx : Idx) (f : Job → Job) : (modJob s q idx f).mvt = s.mvt := rfl
@[simp] theorem modJob_epo (s : State) (q : Nat) (idx : Idx) (f : Job → Job) : (modJob s q idx f).epo = s.epo := rfl
@[simp] theorem modJob_lne (s : State) (q : Nat) (idx : Idx) (f : Job → Job) : (modJob s q idx f).lne = s.lne := rfl
@[simp] theorem modJob_stk (s : State) (q : Nat) (idx : Idx) (f : Job → Job) : (modJob s q idx f).stk = s.stk := rfl
@[simp] theorem modJob_sch (s : State) (q : Nat) (idx : Idx) (f : Job → Job) : (modJob s q idx f).sch = s.sch := rfl
@[simp] theorem modJob_xlt (s : State) (q : Nat) (idx : Idx) (f : Job → Job) : (modJob s q idx f).xlt = s.xlt := rfl
@[simp] theorem modJob_ctx (s : State) (q : Nat) (idx : Idx) (f : Job → Job) : (modJob s q idx f).ctx = s.ctx := rfl
@[simp] theorem modJob_pal (s : State) (q : Nat) (idx : Idx) (f : Job → Job) : (modJob s q idx f).pal = s.pal := rfl
@[simp] theorem modJob_cat (s : State) (q : Nat) (idx : Idx) (f : Job → Job) : (modJob s q idx f).cat = s.cat := rfl
@[simp] theorem modJob_car (s : State) (q : Nat) (idx : Idx) (f : Job → Job) : (modJob s q idx f).car = s.car := rfl
@[simp] theorem modJob_mov (s : State) (q : Nat) (idx : Idx) (f : Job → Job) : (modJob s q idx f).mov = s.mov := rfl
@[simp] theorem modJob_twn (s : State) (q : Nat) (idx : Idx) (f : Job → Job) : (modJob s q idx f).twn = s.twn := rfl
@[simp] theorem modJob_rgs (s : State) (q : Nat) (idx : Idx) (f : Job → Job) : (modJob s q idx f).rgs = s.rgs := rfl
@[simp] theorem modJob_tap (s : State) (q : Nat) (idx : Idx) (f : Job → Job) : (modJob s q idx f).tap = s.tap := rfl
@[simp] theorem modJob_host (s : State) (q : Nat) (idx : Idx) (f : Job → Job) : (modJob s q idx f).host = s.host := rfl
@[simp] theorem modJob_hostErr (s : State) (q : Nat) (idx : Idx) (f : Job → Job) : (modJob s q idx f).hostErr = s.hostErr := rfl
@[simp] theorem modJob_drawn (s : State) (q : Nat) (idx : Idx) (f : Job → Job) : (modJob s q idx f).drawn = s.drawn := rfl
@[simp] theorem modJob_justSet (s : State) (q : Nat) (idx : Idx) (f : Job → Job) : (modJob s q idx f).justSet = s.justSet := rfl
@[simp] theorem modJob_inReset (s : State) (q : Nat) (idx : Idx) (f : Job → Job) : (modJob s q idx f).inReset = s.inReset := rfl
@[simp] theorem modJob_pending (s : State) (q : Nat) (idx : Idx) (f : Job → Job) : (modJob s q idx f).pending = s.pending := rfl

/-! ### setCtx -/

@[simp] theorem setCtx_brd (s : State) (c : Nat) (x : Ctx) : (setCtx s c x).brd = s.brd := rfl
@[simp] theorem setCtx_cus (s : State) (c : Nat) (x : Ctx) : (setCtx s c x).cus = s.cus := rfl
@[simp] theorem setCtx_mon (s : State) (c : Nat) (x : Ctx) : (setCtx s c x).mon = s.mon := rfl
@[simp] theorem setCtx_hif (s : State) (c : Nat) (x : Ctx) : (setCtx s c x).hif = s.hif := rfl
@[simp] theorem setCtx_rings (s : State) (c : Nat) (x : Ctx) : (setCtx s c x).rings = s.rings := rfl
@[simp] theorem setCtx_cur (s : State) (c : Nat) (x : Ctx) : (setCtx s c x).cur = s.cur := rfl
@[simp] theorem setCtx_rgl (s : State) (c : Nat) (x : Ctx) : (setCtx s c x).rgl = s.rgl := rfl
@[simp] theorem setCtx_mvt (s : State) (c : Nat) (x : Ctx) : (setCtx s c x).mvt = s.mvt := rfl
@[simp] theorem setCtx_epo (s : State) (c : Nat) (x : Ctx) : (setCtx s c x).epo = s.epo := rfl
@[simp] theorem setCtx_lne (s : State) (c : Nat) (x : Ctx) : (setCtx s c x).lne = s.lne := rfl
@[simp] theorem setCtx_stk (s : State) (c : Nat) (x : Ctx) : (setCtx s c x).stk = s.stk := rfl
@[simp] theorem setCtx_sch (s : State) (c : Nat) (x : Ctx) : (setCtx s c x).sch = s.sch := rfl
@[simp] theorem setCtx_xlt (s : State) (c : Nat) (x : Ctx) : (setCtx s c x).xlt = s.xlt := rfl
@[simp] theorem setCtx_pal (s : State) (c : Nat) (x : Ctx) : (setCtx s c x).pal = s.pal := rfl
@[simp] theorem setCtx_cat (s : State) (c : Nat) (x : Ctx) : (setCtx s c x).cat = s.cat := rfl
@[simp] theorem setCtx_car (s : State) (c : Nat) (x : Ctx) : (setCtx s c x).car = s.car := rfl
@[simp] theorem setCtx_mov (s : State) (c : Nat) (x : Ctx) : (setCtx s c x).mov = s.mov := rfl
@[simp] theorem setCtx_twn (s : State) (c : Nat) (x : Ctx) : (setCtx s c x).twn = s.twn := rfl
@[simp] theorem setCtx_rgs (s : State) (c : Nat) (x : Ctx) : (setCtx s c x).rgs = s.rgs := rfl
@[simp] theorem setCtx_tap (s : State) (c : Nat) (x : Ctx) : (setCtx s c x).tap = s.tap := rfl
@[simp] theorem setCtx_host (s : State) (c : Nat) (x : Ctx) : (setCtx s c x).host = s.host := rfl
@[simp] theorem setCtx_hostErr (s : State) (c : Nat) (x : Ctx) : (setCtx s c x).hostErr = s.hostErr := rfl
@[simp] theorem setCtx_drawn (s : State) (c : Nat) (x : Ctx) : (setCtx s c x).drawn = s.drawn := rfl
@[simp] theorem setCtx_justSet (s : State) (c : Nat) (x : Ctx) : (setCtx s c x).justSet = s.justSet := rfl
@[simp] theorem setCtx_inReset (s : State) (c : Nat) (x : Ctx) : (setCtx s c x).inReset = s.inReset := rfl
@[simp] theorem setCtx_pending (s : State) (c : Nat) (x : Ctx) : (setCtx s c x).pending = s.pending := rfl
@[simp] theorem setCtx_same (s : State) (c : Nat) (x : Ctx) : ctxOf (setCtx s c x) c = x := by simp [ctxOf, setCtx]

/-! ### modCtx -/

@[simp] theorem modCtx_brd (s : State) (c : Nat) (f : Ctx → Ctx) : (modCtx s c f).brd = s.brd := rfl
@[simp] theorem modCtx_cus (s : State) (c : Nat) (f : Ctx → Ctx) : (modCtx s c f).cus = s.cus := rfl
@[simp] theorem modCtx_mon (s : State) (c : Nat) (f : Ctx → Ctx) : (modCtx s c f).mon = s.mon := rfl
@[simp] theorem modCtx_hif (s : State) (c : Nat) (f : Ctx → Ctx) : (modCtx s c f).hif = s.hif := rfl
@[simp] theorem modCtx_rings (s : State) (c : Nat) (f : Ctx → Ctx) : (modCtx s c f).rings = s.rings := rfl
@[simp] theorem modCtx_cur (s : State) (c : Nat) (f : Ctx → Ctx) : (modCtx s c f).cur = s.cur := rfl
@[simp] theorem modCtx_rgl (s : State) (c : Nat) (f : Ctx → Ctx) : (modCtx s c f).rgl = s.rgl := rfl
@[simp] theorem modCtx_mvt (s : State) (c : Nat) (f : Ctx → Ctx) : (modCtx s c f).mvt = s.mvt := rfl
@[simp] theorem modCtx_epo (s : State) (c : Nat) (f : Ctx → Ctx) : (modCtx s c f).epo = s.epo := rfl
@[simp] theorem modCtx_lne (s : State) (c : Nat) (f : Ctx → Ctx) : (modCtx s c f).lne = s.lne := rfl
@[simp] theorem modCtx_stk (s : State) (c : Nat) (f : Ctx → Ctx) : (modCtx s c f).stk = s.stk := rfl
@[simp] theorem modCtx_sch (s : State) (c : Nat) (f : Ctx → Ctx) : (modCtx s c f).sch = s.sch := rfl
@[simp] theorem modCtx_xlt (s : State) (c : Nat) (f : Ctx → Ctx) : (modCtx s c f).xlt = s.xlt := rfl
@[simp] theorem modCtx_pal (s : State) (c : Nat) (f : Ctx → Ctx) : (modCtx s c f).pal = s.pal := rfl
@[simp] theorem modCtx_cat (s : State) (c : Nat) (f : Ctx → Ctx) : (modCtx s c f).cat = s.cat := rfl
@[simp] theorem modCtx_car (s : State) (c : Nat) (f : Ctx → Ctx) : (modCtx s c f).car = s.car := rfl
@[simp] theorem modCtx_mov (s : State) (c : Nat) (f : Ctx → Ctx) : (modCtx s c f).mov = s.mov := rfl
@[simp] theorem modCtx_twn (s : State) (c : Nat) (f : Ctx → Ctx) : (modCtx s c f).twn = s.twn := rfl
@[simp] theorem modCtx_rgs (s : State) (c : Nat) (f : Ctx → Ctx) : (modCtx s c f).rgs = s.rgs := rfl
@[simp] theorem modCtx_tap (s : State) (c : Nat) (f : Ctx → Ctx) : (modCtx s c f).tap = s.tap := rfl
@[simp] theorem modCtx_host (s : State) (c : Nat) (f : Ctx → Ctx) : (modCtx s c f).host = s.host := rfl
@[simp] theorem modCtx_hostErr (s : State) (c : Nat) (f : Ctx → Ctx) : (modCtx s c f).hostErr = s.hostErr := rfl
@[simp] theorem modCtx_drawn (s : State) (c : Nat) (f : Ctx → Ctx) : (modCtx s c f).drawn = s.drawn := rfl
@[simp] theorem modCtx_justSet (s : State) (c : Nat) (f : Ctx → Ctx) : (modCtx s c f).justSet = s.justSet := rfl
@[simp] theorem modCtx_inReset (s : State) (c : Nat) (f : Ctx → Ctx) : (modCtx s c f).inReset = s.inReset := rfl
@[simp] theorem modCtx_pending (s : State) (c : Nat) (f : Ctx → Ctx) : (modCtx s c f).pending = s.pending := rfl
@[simp] theorem modCtx_same (s : State) (c : Nat) (f : Ctx → Ctx) : ctxOf (modCtx s c f) c = f (ctxOf s c) := by simp [ctxOf, modCtx, setCtx]

/-! ### setGroup -/

@[simp] theorem setGroup_brd (s : State) (g : Nat) (x : GroupSched) : (setGroup s g x).brd = s.brd := rfl
@[simp] theorem setGroup_cus (s : State) (g : Nat) (x : GroupSched) : (setGroup s g x).cus = s.cus := rfl
@[simp] theorem setGroup_mon (s : State) (g : Nat) (x : GroupSched) : (setGroup s g x).mon = s.mon := rfl
@[simp] theorem setGroup_hif (s : State) (g : Nat) (x : GroupSched) : (setGroup s g x).hif = s.hif := rfl
@[simp] theorem setGroup_rings (s : State) (g : Nat) (x : GroupSched) : (setGroup s g x).rings = s.rings := rfl
@[simp] theorem setGroup_cur (s : State) (g : Nat) (x : GroupSched) : (setGroup s g x).cur = s.cur := rfl
@[simp] theorem setGroup_rgl (s : State) (g : Nat) (x : GroupSched) : (setGroup s g x).rgl = s.rgl := rfl
@[simp] theorem setGroup_mvt (s : State) (g : Nat) (x : GroupSched) : (setGroup s g x).mvt = s.mvt := rfl
@[simp] theorem setGroup_epo (s : State) (g : Nat) (x : GroupSched) : (setGroup s g x).epo = s.epo := rfl
@[simp] theorem setGroup_lne (s : State) (g : Nat) (x : GroupSched) : (setGroup s g x).lne = s.lne := rfl
@[simp] theorem setGroup_stk (s : State) (g : Nat) (x : GroupSched) : (setGroup s g x).stk = s.stk := rfl
@[simp] theorem setGroup_xlt (s : State) (g : Nat) (x : GroupSched) : (setGroup s g x).xlt = s.xlt := rfl
@[simp] theorem setGroup_ctx (s : State) (g : Nat) (x : GroupSched) : (setGroup s g x).ctx = s.ctx := rfl
@[simp] theorem setGroup_pal (s : State) (g : Nat) (x : GroupSched) : (setGroup s g x).pal = s.pal := rfl
@[simp] theorem setGroup_cat (s : State) (g : Nat) (x : GroupSched) : (setGroup s g x).cat = s.cat := rfl
@[simp] theorem setGroup_car (s : State) (g : Nat) (x : GroupSched) : (setGroup s g x).car = s.car := rfl
@[simp] theorem setGroup_mov (s : State) (g : Nat) (x : GroupSched) : (setGroup s g x).mov = s.mov := rfl
@[simp] theorem setGroup_twn (s : State) (g : Nat) (x : GroupSched) : (setGroup s g x).twn = s.twn := rfl
@[simp] theorem setGroup_rgs (s : State) (g : Nat) (x : GroupSched) : (setGroup s g x).rgs = s.rgs := rfl
@[simp] theorem setGroup_tap (s : State) (g : Nat) (x : GroupSched) : (setGroup s g x).tap = s.tap := rfl
@[simp] theorem setGroup_host (s : State) (g : Nat) (x : GroupSched) : (setGroup s g x).host = s.host := rfl
@[simp] theorem setGroup_hostErr (s : State) (g : Nat) (x : GroupSched) : (setGroup s g x).hostErr = s.hostErr := rfl
@[simp] theorem setGroup_drawn (s : State) (g : Nat) (x : GroupSched) : (setGroup s g x).drawn = s.drawn := rfl
@[simp] theorem setGroup_justSet (s : State) (g : Nat) (x : GroupSched) : (setGroup s g x).justSet = s.justSet := rfl
@[simp] theorem setGroup_inReset (s : State) (g : Nat) (x : GroupSched) : (setGroup s g x).inReset = s.inReset := rfl
@[simp] theorem setGroup_pending (s : State) (g : Nat) (x : GroupSched) : (setGroup s g x).pending = s.pending := rfl

/-! ### setFnSched -/

@[simp] theorem setFnSched_brd (s : State) (fn : Nat) (x : FnSched) : (setFnSched s fn x).brd = s.brd := rfl
@[simp] theorem setFnSched_cus (s : State) (fn : Nat) (x : FnSched) : (setFnSched s fn x).cus = s.cus := rfl
@[simp] theorem setFnSched_mon (s : State) (fn : Nat) (x : FnSched) : (setFnSched s fn x).mon = s.mon := rfl
@[simp] theorem setFnSched_hif (s : State) (fn : Nat) (x : FnSched) : (setFnSched s fn x).hif = s.hif := rfl
@[simp] theorem setFnSched_rings (s : State) (fn : Nat) (x : FnSched) : (setFnSched s fn x).rings = s.rings := rfl
@[simp] theorem setFnSched_cur (s : State) (fn : Nat) (x : FnSched) : (setFnSched s fn x).cur = s.cur := rfl
@[simp] theorem setFnSched_rgl (s : State) (fn : Nat) (x : FnSched) : (setFnSched s fn x).rgl = s.rgl := rfl
@[simp] theorem setFnSched_mvt (s : State) (fn : Nat) (x : FnSched) : (setFnSched s fn x).mvt = s.mvt := rfl
@[simp] theorem setFnSched_epo (s : State) (fn : Nat) (x : FnSched) : (setFnSched s fn x).epo = s.epo := rfl
@[simp] theorem setFnSched_lne (s : State) (fn : Nat) (x : FnSched) : (setFnSched s fn x).lne = s.lne := rfl
@[simp] theorem setFnSched_stk (s : State) (fn : Nat) (x : FnSched) : (setFnSched s fn x).stk = s.stk := rfl
@[simp] theorem setFnSched_xlt (s : State) (fn : Nat) (x : FnSched) : (setFnSched s fn x).xlt = s.xlt := rfl
@[simp] theorem setFnSched_ctx (s : State) (fn : Nat) (x : FnSched) : (setFnSched s fn x).ctx = s.ctx := rfl
@[simp] theorem setFnSched_pal (s : State) (fn : Nat) (x : FnSched) : (setFnSched s fn x).pal = s.pal := rfl
@[simp] theorem setFnSched_cat (s : State) (fn : Nat) (x : FnSched) : (setFnSched s fn x).cat = s.cat := rfl
@[simp] theorem setFnSched_car (s : State) (fn : Nat) (x : FnSched) : (setFnSched s fn x).car = s.car := rfl
@[simp] theorem setFnSched_mov (s : State) (fn : Nat) (x : FnSched) : (setFnSched s fn x).mov = s.mov := rfl
@[simp] theorem setFnSched_twn (s : State) (fn : Nat) (x : FnSched) : (setFnSched s fn x).twn = s.twn := rfl
@[simp] theorem setFnSched_rgs (s : State) (fn : Nat) (x : FnSched) : (setFnSched s fn x).rgs = s.rgs := rfl
@[simp] theorem setFnSched_tap (s : State) (fn : Nat) (x : FnSched) : (setFnSched s fn x).tap = s.tap := rfl
@[simp] theorem setFnSched_host (s : State) (fn : Nat) (x : FnSched) : (setFnSched s fn x).host = s.host := rfl
@[simp] theorem setFnSched_hostErr (s : State) (fn : Nat) (x : FnSched) : (setFnSched s fn x).hostErr = s.hostErr := rfl
@[simp] theorem setFnSched_drawn (s : State) (fn : Nat) (x : FnSched) : (setFnSched s fn x).drawn = s.drawn := rfl
@[simp] theorem setFnSched_justSet (s : State) (fn : Nat) (x : FnSched) : (setFnSched s fn x).justSet = s.justSet := rfl
@[simp] theorem setFnSched_inReset (s : State) (fn : Nat) (x : FnSched) : (setFnSched s fn x).inReset = s.inReset := rfl
@[simp] theorem setFnSched_pending (s : State) (fn : Nat) (x : FnSched) : (setFnSched s fn x).pending = s.pending := rfl

/-! ### setItems -/

@[simp] theorem setItems_brd (s : State) (q : Nat) (l : List Item) : (setItems s q l).brd = s.brd := rfl
@[simp] theorem setItems_cus (s : State) (q : Nat) (l : List Item) : (setItems s q l).cus = s.cus := rfl
@[simp] theorem setItems_mon (s : State) (q : Nat) (l : List Item) : (setItems s q l).mon = s.mon := rfl
@[simp] theorem setItems_hif (s : State) (q : Nat) (l : List Item) : (setItems s q l).hif = s.hif := rfl
@[simp] theorem setItems_rings (s : State) (q : Nat) (l : List Item) : (setItems s q l).rings = s.rings := rfl
@[simp] theorem setItems_cur (s : State) (q : Nat) (l : List Item) : (setItems s q l).cur = s.cur := rfl
@[simp] theorem setItems_rgl (s : State) (q : Nat) (l : List Item) : (setItems s q l).rgl = s.rgl := rfl
@[simp] theorem setItems_mvt (s : State) (q : Nat) (l : List Item) : (setItems s q l).mvt = s.mvt := rfl
@[simp] theorem setItems_epo (s : State) (q : Nat) (l : List Item) : (setItems s q l).epo = s.epo := rfl
@[simp] theorem setItems_lne (s : State) (q : Nat) (l : List Item) : (setItems s q l).lne = s.lne := rfl
@[simp] theorem setItems_stk (s : State) (q : Nat) (l : List Item) : (setItems s q l).stk = s.stk := rfl
@[simp] theorem setItems_xlt (s : State) (q : Nat) (l : List Item) : (setItems s q l).xlt = s.xlt := rfl
@[simp] theorem setItems_ctx (s : State) (q : Nat) (l : List Item) : (setItems s q l).ctx = s.ctx := rfl
@[simp] theorem setItems_pal (s : State) (q : Nat) (l : List Item) : (setItems s q l).pal = s.pal := rfl
@[simp] theorem setItems_cat (s : State) (q : Nat) (l : List Item) : (setItems s q l).cat = s.cat := rfl
@[simp] theorem setItems_car (s : State) (q : Nat) (l : List Item) : (setItems s q l).car = s.car := rfl
@[simp] theorem setItems_mov (s : State) (q : Nat) (l : List Item) : (setItems s q l).mov = s.mov := rfl
@[simp] theorem setItems_twn (s : State) (q : Nat) (l : List Item) : (setItems s q l).twn = s.twn := rfl
@[simp] theorem setItems_rgs (s : State) (q : Nat) (l : List Item) : (setItems s q l).rgs = s.rgs := rfl
@[simp] theorem setItems_tap (s : State) (q : Nat) (l : List Item) : (setItems s q l).tap = s.tap := rfl
@[simp] theorem setItems_host (s : State) (q : Nat) (l : List Item) : (setItems s q l).host = s.host := rfl
@[simp] theorem setItems_hostErr (s : State) (q : Nat) (l : List Item) : (setItems s q l).hostErr = s.hostErr := rfl
@[simp] theorem setItems_drawn (s : State) (q : Nat) (l : List Item) : (setItems s q l).drawn = s.drawn := rfl
@[simp] theorem setItems_justSet (s : State) (q : Nat) (l : List Item) : (setItems s q l).justSet = s.justSet := rfl
@[simp] theorem setItems_inReset (s : State) (q : Nat) (l : List Item) : (setItems s q l).inReset = s.inReset := rfl
@[simp] theorem setItems_pending (s : State) (q : Nat) (l : List Item) : (setItems s q l).pending = s.pending := rfl

/-! ### setLane -/

@[simp] theorem setLane_brd (s : State) (p : Nat) (x : LanePort) : (setLane s p x).brd = s.brd := rfl
@[simp] theorem setLane_cus (s : State) (p : Nat) (x : LanePort) : (setLane s p x).cus = s.cus := rfl
@[simp] theorem setLane_mon (s : State) (p : Nat) (x : LanePort) : (setLane s p x).mon = s.mon := rfl
@[simp] theorem setLane_hif (s : State) (p : Nat) (x : LanePort) : (setLane s p x).hif = s.hif := rfl
@[simp] theorem setLane_rings (s : State) (p : Nat) (x : LanePort) : (setLane s p x).rings = s.rings := rfl
@[simp] theorem setLane_cur (s : State) (p : Nat) (x : LanePort) : (setLane s p x).cur = s.cur := rfl
@[simp] theorem setLane_rgl (s : State) (p : Nat) (x : LanePort) : (setLane s p x).rgl = s.rgl := rfl
@[simp] theorem setLane_mvt (s : State) (p : Nat) (x : LanePort) : (setLane s p x).mvt = s.mvt := rfl
@[simp] theorem setLane_epo (s : State) (p : Nat) (x : LanePort) : (setLane s p x).epo = s.epo := rfl
@[simp] theorem setLane_stk (s : State) (p : Nat) (x : LanePort) : (setLane s p x).stk = s.stk := rfl
@[simp] theorem setLane_sch (s : State) (p : Nat) (x : LanePort) : (setLane s p x).sch = s.sch := rfl
@[simp] theorem setLane_xlt (s : State) (p : Nat) (x : LanePort) : (setLane s p x).xlt = s.xlt := rfl
@[simp] theorem setLane_ctx (s : State) (p : Nat) (x : LanePort) : (setLane s p x).ctx = s.ctx := rfl
@[simp] theorem setLane_pal (s : State) (p : Nat) (x : LanePort) : (setLane s p x).pal = s.pal := rfl
@[simp] theorem setLane_cat (s : State) (p : Nat) (x : LanePort) : (setLane s p x).cat = s.cat := rfl
@[simp] theorem setLane_car (s : State) (p : Nat) (x : LanePort) : (setLane s p x).car = s.car := rfl
@[simp] theorem setLane_mov (s : State) (p : Nat) (x : LanePort) : (setLane s p x).mov = s.mov := rfl
@[simp] theorem setLane_twn (s : State) (p : Nat) (x : LanePort) : (setLane s p x).twn = s.twn := rfl
@[simp] theorem setLane_rgs (s : State) (p : Nat) (x : LanePort) : (setLane s p x).rgs = s.rgs := rfl
@[simp] theorem setLane_tap (s : State) (p : Nat) (x : LanePort) : (setLane s p x).tap = s.tap := rfl
@[simp] theorem setLane_host (s : State) (p : Nat) (x : LanePort) : (setLane s p x).host = s.host := rfl
@[simp] theorem setLane_hostErr (s : State) (p : Nat) (x : LanePort) : (setLane s p x).hostErr = s.hostErr := rfl
@[simp] theorem setLane_drawn (s : State) (p : Nat) (x : LanePort) : (setLane s p x).drawn = s.drawn := rfl
@[simp] theorem setLane_justSet (s : State) (p : Nat) (x : LanePort) : (setLane s p x).justSet = s.justSet := rfl
@[simp] theorem setLane_inReset (s : State) (p : Nat) (x : LanePort) : (setLane s p x).inReset = s.inReset := rfl
@[simp] theorem setLane_pending (s : State) (p : Nat) (x : LanePort) : (setLane s p x).pending = s.pending := rfl
@[simp] theorem setLane_same (s : State) (p : Nat) (x : LanePort) : laneOf (setLane s p x) p = x := by simp [laneOf, setLane]

/-! ### modLane -/

@[simp] theorem modLane_brd (s : State) (p : Nat) (f : LanePort → LanePort) : (modLane s p f).brd = s.brd := rfl
@[simp] theorem modLane_cus (s : State) (p : Nat) (f : LanePort → LanePort) : (modLane s p f).cus = s.cus := rfl
@[simp] theorem modLane_mon (s : State) (p : Nat) (f : LanePort → LanePort) : (modLane s p f).mon = s.mon := rfl
@[simp] theorem modLane_hif (s : State) (p : Nat) (f : LanePort → LanePort) : (modLane s p f).hif = s.hif := rfl
@[simp] theorem modLane_rings (s : State) (p : Nat) (f : LanePort → LanePort) : (modLane s p f).rings = s.rings := rfl
@[simp] theorem modLane_cur (s : State) (p : Nat) (f : LanePort → LanePort) : (modLane s p f).cur = s.cur := rfl
@[simp] theorem modLane_rgl (s : State) (p : Nat) (f : LanePort → LanePort) : (modLane s p f).rgl = s.rgl := rfl
@[simp] theorem modLane_mvt (s : State) (p : Nat) (f : LanePort → LanePort) : (modLane s p f).mvt = s.mvt := rfl
@[simp] theorem modLane_epo (s : State) (p : Nat) (f : LanePort → LanePort) : (modLane s p f).epo = s.epo := rfl
@[simp] theorem modLane_stk (s : State) (p : Nat) (f : LanePort → LanePort) : (modLane s p f).stk = s.stk := rfl
@[simp] theorem modLane_sch (s : State) (p : Nat) (f : LanePort → LanePort) : (modLane s p f).sch = s.sch := rfl
@[simp] theorem modLane_xlt (s : State) (p : Nat) (f : LanePort → LanePort) : (modLane s p f).xlt = s.xlt := rfl
@[simp] theorem modLane_ctx (s : State) (p : Nat) (f : LanePort → LanePort) : (modLane s p f).ctx = s.ctx := rfl
@[simp] theorem modLane_pal (s : State) (p : Nat) (f : LanePort → LanePort) : (modLane s p f).pal = s.pal := rfl
@[simp] theorem modLane_cat (s : State) (p : Nat) (f : LanePort → LanePort) : (modLane s p f).cat = s.cat := rfl
@[simp] theorem modLane_car (s : State) (p : Nat) (f : LanePort → LanePort) : (modLane s p f).car = s.car := rfl
@[simp] theorem modLane_mov (s : State) (p : Nat) (f : LanePort → LanePort) : (modLane s p f).mov = s.mov := rfl
@[simp] theorem modLane_twn (s : State) (p : Nat) (f : LanePort → LanePort) : (modLane s p f).twn = s.twn := rfl
@[simp] theorem modLane_rgs (s : State) (p : Nat) (f : LanePort → LanePort) : (modLane s p f).rgs = s.rgs := rfl
@[simp] theorem modLane_tap (s : State) (p : Nat) (f : LanePort → LanePort) : (modLane s p f).tap = s.tap := rfl
@[simp] theorem modLane_host (s : State) (p : Nat) (f : LanePort → LanePort) : (modLane s p f).host = s.host := rfl
@[simp] theorem modLane_hostErr (s : State) (p : Nat) (f : LanePort → LanePort) : (modLane s p f).hostErr = s.hostErr := rfl
@[simp] theorem modLane_drawn (s : State) (p : Nat) (f : LanePort → LanePort) : (modLane s p f).drawn = s.drawn := rfl
@[simp] theorem modLane_justSet (s : State) (p : Nat) (f : LanePort → LanePort) : (modLane s p f).justSet = s.justSet := rfl
@[simp] theorem modLane_inReset (s : State) (p : Nat) (f : LanePort → LanePort) : (modLane s p f).inReset = s.inReset := rfl
@[simp] theorem modLane_pending (s : State) (p : Nat) (f : LanePort → LanePort) : (modLane s p f).pending = s.pending := rfl
@[simp] theorem modLane_same (s : State) (p : Nat) (f : LanePort → LanePort) : laneOf (modLane s p f) p = f (laneOf s p) := by simp [laneOf, modLane, setLane]

/-! ### setBuf -/

@[simp] theorem setBuf_brd (s : State) (key : Nat) (l : List Held) : (setBuf s key l).brd = s.brd := rfl
@[simp] theorem setBuf_cus (s : State) (key : Nat) (l : List Held) : (setBuf s key l).cus = s.cus := rfl
@[simp] theorem setBuf_mon (s : State) (key : Nat) (l : List Held) : (setBuf s key l).mon = s.mon := rfl
@[simp] theorem setBuf_hif (s : State) (key : Nat) (l : List Held) : (setBuf s key l).hif = s.hif := rfl
@[simp] theorem setBuf_rings (s : State) (key : Nat) (l : List Held) : (setBuf s key l).rings = s.rings := rfl
@[simp] theorem setBuf_cur (s : State) (key : Nat) (l : List Held) : (setBuf s key l).cur = s.cur := rfl
@[simp] theorem setBuf_rgl (s : State) (key : Nat) (l : List Held) : (setBuf s key l).rgl = s.rgl := rfl
@[simp] theorem setBuf_epo (s : State) (key : Nat) (l : List Held) : (setBuf s key l).epo = s.epo := rfl
@[simp] theorem setBuf_lne (s : State) (key : Nat) (l : List Held) : (setBuf s key l).lne = s.lne := rfl
@[simp] theorem setBuf_stk (s : State) (key : Nat) (l : List Held) : (setBuf s key l).stk = s.stk := rfl
@[simp] theorem setBuf_sch (s : State) (key : Nat) (l : List Held) : (setBuf s key l).sch = s.sch := rfl
@[simp] theorem setBuf_xlt (s : State) (key : Nat) (l : List Held) : (setBuf s key l).xlt = s.xlt := rfl
@[simp] theorem setBuf_ctx (s : State) (key : Nat) (l : List Held) : (setBuf s key l).ctx = s.ctx := rfl
@[simp] theorem setBuf_pal (s : State) (key : Nat) (l : List Held) : (setBuf s key l).pal = s.pal := rfl
@[simp] theorem setBuf_cat (s : State) (key : Nat) (l : List Held) : (setBuf s key l).cat = s.cat := rfl
@[simp] theorem setBuf_car (s : State) (key : Nat) (l : List Held) : (setBuf s key l).car = s.car := rfl
@[simp] theorem setBuf_mov (s : State) (key : Nat) (l : List Held) : (setBuf s key l).mov = s.mov := rfl
@[simp] theorem setBuf_twn (s : State) (key : Nat) (l : List Held) : (setBuf s key l).twn = s.twn := rfl
@[simp] theorem setBuf_rgs (s : State) (key : Nat) (l : List Held) : (setBuf s key l).rgs = s.rgs := rfl
@[simp] theorem setBuf_tap (s : State) (key : Nat) (l : List Held) : (setBuf s key l).tap = s.tap := rfl
@[simp] theorem setBuf_host (s : State) (key : Nat) (l : List Held) : (setBuf s key l).host = s.host := rfl
@[simp] theorem setBuf_hostErr (s : State) (key : Nat) (l : List Held) : (setBuf s key l).hostErr = s.hostErr := rfl
@[simp] theorem setBuf_drawn (s : State) (key : Nat) (l : List Held) : (setBuf s key l).drawn = s.drawn := rfl
@[simp] theorem setBuf_justSet (s : State) (key : Nat) (l : List Held) : (setBuf s key l).justSet = s.justSet := rfl
@[simp] theorem setBuf_inReset (s : State) (key : Nat) (l : List Held) : (setBuf s key l).inReset = s.inReset := rfl
@[simp] theorem setBuf_pending (s : State) (key : Nat) (l : List Held) : (setBuf s key l).pending = s.pending := rfl

/-! ### setLock -/

@[simp] theorem setLock_brd (s : State) (n : Nat) (l : Lock) : (setLock s n l).brd = s.brd := rfl
@[simp] theorem setLock_cus (s : State) (n : Nat) (l : Lock) : (setLock s n l).cus = s.cus := rfl
@[simp] theorem setLock_mon (s : State) (n : Nat) (l : Lock) : (setLock s n l).mon = s.mon := rfl
@[simp] theorem setLock_hif (s : State) (n : Nat) (l : Lock) : (setLock s n l).hif = s.hif := rfl
@[simp] theorem setLock_rings (s : State) (n : Nat) (l : Lock) : (setLock s n l).rings = s.rings := rfl
@[simp] theorem setLock_cur (s : State) (n : Nat) (l : Lock) : (setLock s n l).cur = s.cur := rfl
@[simp] theorem setLock_rgl (s : State) (n : Nat) (l : Lock) : (setLock s n l).rgl = s.rgl := rfl
@[simp] theorem setLock_mvt (s : State) (n : Nat) (l : Lock) : (setLock s n l).mvt = s.mvt := rfl
@[simp] theorem setLock_epo (s : State) (n : Nat) (l : Lock) : (setLock s n l).epo = s.epo := rfl
@[simp] theorem setLock_lne (s : State) (n : Nat) (l : Lock) : (setLock s n l).lne = s.lne := rfl
@[simp] theorem setLock_stk (s : State) (n : Nat) (l : Lock) : (setLock s n l).stk = s.stk := rfl
@[simp] theorem setLock_sch (s : State) (n : Nat) (l : Lock) : (setLock s n l).sch = s.sch := rfl
@[simp] theorem setLock_xlt (s : State) (n : Nat) (l : Lock) : (setLock s n l).xlt = s.xlt := rfl
@[simp] theorem setLock_ctx (s : State) (n : Nat) (l : Lock) : (setLock s n l).ctx = s.ctx := rfl
@[simp] theorem setLock_cat (s : State) (n : Nat) (l : Lock) : (setLock s n l).cat = s.cat := rfl
@[simp] theorem setLock_car (s : State) (n : Nat) (l : Lock) : (setLock s n l).car = s.car := rfl
@[simp] theorem setLock_mov (s : State) (n : Nat) (l : Lock) : (setLock s n l).mov = s.mov := rfl
@[simp] theorem setLock_twn (s : State) (n : Nat) (l : Lock) : (setLock s n l).twn = s.twn := rfl
@[simp] theorem setLock_rgs (s : State) (n : Nat) (l : Lock) : (setLock s n l).rgs = s.rgs := rfl
@[simp] theorem setLock_tap (s : State) (n : Nat) (l : Lock) : (setLock s n l).tap = s.tap := rfl
@[simp] theorem setLock_host (s : State) (n : Nat) (l : Lock) : (setLock s n l).host = s.host := rfl
@[simp] theorem setLock_hostErr (s : State) (n : Nat) (l : Lock) : (setLock s n l).hostErr = s.hostErr := rfl
@[simp] theorem setLock_drawn (s : State) (n : Nat) (l : Lock) : (setLock s n l).drawn = s.drawn := rfl
@[simp] theorem setLock_justSet (s : State) (n : Nat) (l : Lock) : (setLock s n l).justSet = s.justSet := rfl
@[simp] theorem setLock_inReset (s : State) (n : Nat) (l : Lock) : (setLock s n l).inReset = s.inReset := rfl
@[simp] theorem setLock_pending (s : State) (n : Nat) (l : Lock) : (setLock s n l).pending = s.pending := rfl
@[simp] theorem setLock_same (s : State) (n : Nat) (l : Lock) : lockOf (setLock s n l) n = l := by simp [lockOf, setLock]

/-! ### setCar -/

@[simp] theorem setCar_brd (s : State) (h : Nat) (g : CarGroup) : (setCar s h g).brd = s.brd := rfl
@[simp] theorem setCar_cus (s : State) (h : Nat) (g : CarGroup) : (setCar s h g).cus = s.cus := rfl
@[simp] theorem setCar_mon (s : State) (h : Nat) (g : CarGroup) : (setCar s h g).mon = s.mon := rfl
@[simp] theorem setCar_hif (s : State) (h : Nat) (g : CarGroup) : (setCar s h g).hif = s.hif := rfl
@[simp] theorem setCar_rings (s : State) (h : Nat) (g : CarGroup) : (setCar s h g).rings = s.rings := rfl
@[simp] theorem setCar_cur (s : State) (h : Nat) (g : CarGroup) : (setCar s h g).cur = s.cur := rfl
@[simp] theorem setCar_rgl (s : State) (h : Nat) (g : CarGroup) : (setCar s h g).rgl = s.rgl := rfl
@[simp] theorem setCar_mvt (s : State) (h : Nat) (g : CarGroup) : (setCar s h g).mvt = s.mvt := rfl
@[simp] theorem setCar_epo (s : State) (h : Nat) (g : CarGroup) : (setCar s h g).epo = s.epo := rfl
@[simp] theorem setCar_lne (s : State) (h : Nat) (g : CarGroup) : (setCar s h g).lne = s.lne := rfl
@[simp] theorem setCar_stk (s : State) (h : Nat) (g : CarGroup) : (setCar s h g).stk = s.stk := rfl
@[simp] theorem setCar_sch (s : State) (h : Nat) (g : CarGroup) : (setCar s h g).sch = s.sch := rfl
@[simp] theorem setCar_xlt (s : State) (h : Nat) (g : CarGroup) : (setCar s h g).xlt = s.xlt := rfl
@[simp] theorem setCar_ctx (s : State) (h : Nat) (g : CarGroup) : (setCar s h g).ctx = s.ctx := rfl
@[simp] theorem setCar_pal (s : State) (h : Nat) (g : CarGroup) : (setCar s h g).pal = s.pal := rfl
@[simp] theorem setCar_cat (s : State) (h : Nat) (g : CarGroup) : (setCar s h g).cat = s.cat := rfl
@[simp] theorem setCar_mov (s : State) (h : Nat) (g : CarGroup) : (setCar s h g).mov = s.mov := rfl
@[simp] theorem setCar_twn (s : State) (h : Nat) (g : CarGroup) : (setCar s h g).twn = s.twn := rfl
@[simp] theorem setCar_rgs (s : State) (h : Nat) (g : CarGroup) : (setCar s h g).rgs = s.rgs := rfl
@[simp] theorem setCar_tap (s : State) (h : Nat) (g : CarGroup) : (setCar s h g).tap = s.tap := rfl
@[simp] theorem setCar_host (s : State) (h : Nat) (g : CarGroup) : (setCar s h g).host = s.host := rfl
@[simp] theorem setCar_hostErr (s : State) (h : Nat) (g : CarGroup) : (setCar s h g).hostErr = s.hostErr := rfl
@[simp] theorem setCar_drawn (s : State) (h : Nat) (g : CarGroup) : (setCar s h g).drawn = s.drawn := rfl
@[simp] theorem setCar_justSet (s : State) (h : Nat) (g : CarGroup) : (setCar s h g).justSet = s.justSet := rfl
@[simp] theorem setCar_inReset (s : State) (h : Nat) (g : CarGroup) : (setCar s h g).inReset = s.inReset := rfl
@[simp] theorem setCar_pending (s : State) (h : Nat) (g : CarGroup) : (setCar s h g).pending = s.pending := rfl
@[simp] theorem setCar_same (s : State) (h : Nat) (g : CarGroup) : carGroup (setCar s h g) h = g := by simp [carGroup, setCar]

/-! ### modOp -/

@[simp] theorem modOp_brd (s : State) (h n : Nat) (f : CarOp → CarOp) : (modOp s h n f).brd = s.brd := rfl
@[simp] theorem modOp_cus (s : State) (h n : Nat) (f : CarOp → CarOp) : (modOp s h n f).cus = s.cus := rfl
@[simp] theorem modOp_mon (s : State) (h n : Nat) (f : CarOp → CarOp) : (modOp s h n f).mon = s.mon := rfl
@[simp] theorem modOp_hif (s : State) (h n : Nat) (f : CarOp → CarOp) : (modOp s h n f).hif = s.hif := rfl
@[simp] theorem modOp_rings (s : State) (h n : Nat) (f : CarOp → CarOp) : (modOp s h n f).rings = s.rings := rfl
@[simp] theorem modOp_cur (s : State) (h n : Nat) (f : CarOp → CarOp) : (modOp s h n f).cur = s.cur := rfl
@[simp] theorem modOp_rgl (s : State) (h n : Nat) (f : CarOp → CarOp) : (modOp s h n f).rgl = s.rgl := rfl
@[simp] theorem modOp_mvt (s : State) (h n : Nat) (f : CarOp → CarOp) : (modOp s h n f).mvt = s.mvt := rfl
@[simp] theorem modOp_epo (s : State) (h n : Nat) (f : CarOp → CarOp) : (modOp s h n f).epo = s.epo := rfl
@[simp] theorem modOp_lne (s : State) (h n : Nat) (f : CarOp → CarOp) : (modOp s h n f).lne = s.lne := rfl
@[simp] theorem modOp_stk (s : State) (h n : Nat) (f : CarOp → CarOp) : (modOp s h n f).stk = s.stk := rfl
@[simp] theorem modOp_sch (s : State) (h n : Nat) (f : CarOp → CarOp) : (modOp s h n f).sch = s.sch := rfl
@[simp] theorem modOp_xlt (s : State) (h n : Nat) (f : CarOp → CarOp) : (modOp s h n f).xlt = s.xlt := rfl
@[simp] theorem modOp_ctx (s : State) (h n : Nat) (f : CarOp → CarOp) : (modOp s h n f).ctx = s.ctx := rfl
@[simp] theorem modOp_pal (s : State) (h n : Nat) (f : CarOp → CarOp) : (modOp s h n f).pal = s.pal := rfl
@[simp] theorem modOp_cat (s : State) (h n : Nat) (f : CarOp → CarOp) : (modOp s h n f).cat = s.cat := rfl
@[simp] theorem modOp_mov (s : State) (h n : Nat) (f : CarOp → CarOp) : (modOp s h n f).mov = s.mov := rfl
@[simp] theorem modOp_twn (s : State) (h n : Nat) (f : CarOp → CarOp) : (modOp s h n f).twn = s.twn := rfl
@[simp] theorem modOp_rgs (s : State) (h n : Nat) (f : CarOp → CarOp) : (modOp s h n f).rgs = s.rgs := rfl
@[simp] theorem modOp_tap (s : State) (h n : Nat) (f : CarOp → CarOp) : (modOp s h n f).tap = s.tap := rfl
@[simp] theorem modOp_host (s : State) (h n : Nat) (f : CarOp → CarOp) : (modOp s h n f).host = s.host := rfl
@[simp] theorem modOp_hostErr (s : State) (h n : Nat) (f : CarOp → CarOp) : (modOp s h n f).hostErr = s.hostErr := rfl
@[simp] theorem modOp_drawn (s : State) (h n : Nat) (f : CarOp → CarOp) : (modOp s h n f).drawn = s.drawn := rfl
@[simp] theorem modOp_justSet (s : State) (h n : Nat) (f : CarOp → CarOp) : (modOp s h n f).justSet = s.justSet := rfl
@[simp] theorem modOp_inReset (s : State) (h n : Nat) (f : CarOp → CarOp) : (modOp s h n f).inReset = s.inReset := rfl
@[simp] theorem modOp_pending (s : State) (h n : Nat) (f : CarOp → CarOp) : (modOp s h n f).pending = s.pending := rfl

/-! ### setEp -/

@[simp] theorem setEp_brd (s : State) (ep : Nat) (e : Endpoint) : (setEp s ep e).brd = s.brd := rfl
@[simp] theorem setEp_cus (s : State) (ep : Nat) (e : Endpoint) : (setEp s ep e).cus = s.cus := rfl
@[simp] theorem setEp_mon (s : State) (ep : Nat) (e : Endpoint) : (setEp s ep e).mon = s.mon := rfl
@[simp] theorem setEp_hif (s : State) (ep : Nat) (e : Endpoint) : (setEp s ep e).hif = s.hif := rfl
@[simp] theorem setEp_rings (s : State) (ep : Nat) (e : Endpoint) : (setEp s ep e).rings = s.rings := rfl
@[simp] theorem setEp_cur (s : State) (ep : Nat) (e : Endpoint) : (setEp s ep e).cur = s.cur := rfl
@[simp] theorem setEp_rgl (s : State) (ep : Nat) (e : Endpoint) : (setEp s ep e).rgl = s.rgl := rfl
@[simp] theorem setEp_mvt (s : State) (ep : Nat) (e : Endpoint) : (setEp s ep e).mvt = s.mvt := rfl
@[simp] theorem setEp_epo (s : State) (ep : Nat) (e : Endpoint) : (setEp s ep e).epo = s.epo := rfl
@[simp] theorem setEp_lne (s : State) (ep : Nat) (e : Endpoint) : (setEp s ep e).lne = s.lne := rfl
@[simp] theorem setEp_stk (s : State) (ep : Nat) (e : Endpoint) : (setEp s ep e).stk = s.stk := rfl
@[simp] theorem setEp_sch (s : State) (ep : Nat) (e : Endpoint) : (setEp s ep e).sch = s.sch := rfl
@[simp] theorem setEp_xlt (s : State) (ep : Nat) (e : Endpoint) : (setEp s ep e).xlt = s.xlt := rfl
@[simp] theorem setEp_ctx (s : State) (ep : Nat) (e : Endpoint) : (setEp s ep e).ctx = s.ctx := rfl
@[simp] theorem setEp_pal (s : State) (ep : Nat) (e : Endpoint) : (setEp s ep e).pal = s.pal := rfl
@[simp] theorem setEp_car (s : State) (ep : Nat) (e : Endpoint) : (setEp s ep e).car = s.car := rfl
@[simp] theorem setEp_mov (s : State) (ep : Nat) (e : Endpoint) : (setEp s ep e).mov = s.mov := rfl
@[simp] theorem setEp_twn (s : State) (ep : Nat) (e : Endpoint) : (setEp s ep e).twn = s.twn := rfl
@[simp] theorem setEp_rgs (s : State) (ep : Nat) (e : Endpoint) : (setEp s ep e).rgs = s.rgs := rfl
@[simp] theorem setEp_tap (s : State) (ep : Nat) (e : Endpoint) : (setEp s ep e).tap = s.tap := rfl
@[simp] theorem setEp_host (s : State) (ep : Nat) (e : Endpoint) : (setEp s ep e).host = s.host := rfl
@[simp] theorem setEp_hostErr (s : State) (ep : Nat) (e : Endpoint) : (setEp s ep e).hostErr = s.hostErr := rfl
@[simp] theorem setEp_drawn (s : State) (ep : Nat) (e : Endpoint) : (setEp s ep e).drawn = s.drawn := rfl
@[simp] theorem setEp_justSet (s : State) (ep : Nat) (e : Endpoint) : (setEp s ep e).justSet = s.justSet := rfl
@[simp] theorem setEp_inReset (s : State) (ep : Nat) (e : Endpoint) : (setEp s ep e).inReset = s.inReset := rfl
@[simp] theorem setEp_pending (s : State) (ep : Nat) (e : Endpoint) : (setEp s ep e).pending = s.pending := rfl

/-! ### setChan -/

@[simp] theorem setChan_brd (s : State) (ch : Nat) (x : Channel) : (setChan s ch x).brd = s.brd := rfl
@[simp] theorem setChan_cus (s : State) (ch : Nat) (x : Channel) : (setChan s ch x).cus = s.cus := rfl
@[simp] theorem setChan_mon (s : State) (ch : Nat) (x : Channel) : (setChan s ch x).mon = s.mon := rfl
@[simp] theorem setChan_hif (s : State) (ch : Nat) (x : Channel) : (setChan s ch x).hif = s.hif := rfl
@[simp] theorem setChan_rings (s : State) (ch : Nat) (x : Channel) : (setChan s ch x).rings = s.rings := rfl
@[simp] theorem setChan_cur (s : State) (ch : Nat) (x : Channel) : (setChan s ch x).cur = s.cur := rfl
@[simp] theorem setChan_rgl (s : State) (ch : Nat) (x : Channel) : (setChan s ch x).rgl = s.rgl := rfl
@[simp] theorem setChan_mvt (s : State) (ch : Nat) (x : Channel) : (setChan s ch x).mvt = s.mvt := rfl
@[simp] theorem setChan_epo (s : State) (ch : Nat) (x : Channel) : (setChan s ch x).epo = s.epo := rfl
@[simp] theorem setChan_lne (s : State) (ch : Nat) (x : Channel) : (setChan s ch x).lne = s.lne := rfl
@[simp] theorem setChan_stk (s : State) (ch : Nat) (x : Channel) : (setChan s ch x).stk = s.stk := rfl
@[simp] theorem setChan_sch (s : State) (ch : Nat) (x : Channel) : (setChan s ch x).sch = s.sch := rfl
@[simp] theorem setChan_xlt (s : State) (ch : Nat) (x : Channel) : (setChan s ch x).xlt = s.xlt := rfl
@[simp] theorem setChan_ctx (s : State) (ch : Nat) (x : Channel) : (setChan s ch x).ctx = s.ctx := rfl
@[simp] theorem setChan_pal (s : State) (ch : Nat) (x : Channel) : (setChan s ch x).pal = s.pal := rfl
@[simp] theorem setChan_cat (s : State) (ch : Nat) (x : Channel) : (setChan s ch x).cat = s.cat := rfl
@[simp] theorem setChan_car (s : State) (ch : Nat) (x : Channel) : (setChan s ch x).car = s.car := rfl
@[simp] theorem setChan_twn (s : State) (ch : Nat) (x : Channel) : (setChan s ch x).twn = s.twn := rfl
@[simp] theorem setChan_rgs (s : State) (ch : Nat) (x : Channel) : (setChan s ch x).rgs = s.rgs := rfl
@[simp] theorem setChan_tap (s : State) (ch : Nat) (x : Channel) : (setChan s ch x).tap = s.tap := rfl
@[simp] theorem setChan_host (s : State) (ch : Nat) (x : Channel) : (setChan s ch x).host = s.host := rfl
@[simp] theorem setChan_hostErr (s : State) (ch : Nat) (x : Channel) : (setChan s ch x).hostErr = s.hostErr := rfl
@[simp] theorem setChan_drawn (s : State) (ch : Nat) (x : Channel) : (setChan s ch x).drawn = s.drawn := rfl
@[simp] theorem setChan_justSet (s : State) (ch : Nat) (x : Channel) : (setChan s ch x).justSet = s.justSet := rfl
@[simp] theorem setChan_inReset (s : State) (ch : Nat) (x : Channel) : (setChan s ch x).inReset = s.inReset := rfl
@[simp] theorem setChan_pending (s : State) (ch : Nat) (x : Channel) : (setChan s ch x).pending = s.pending := rfl
@[simp] theorem setChan_same (s : State) (ch : Nat) (x : Channel) : chanOf (setChan s ch x) ch = x := by simp [chanOf, setChan]

/-! ### setFaultRing -/

@[simp] theorem setFaultRing_brd (s : State) (fn : Nat) (r : FaultRing) : (setFaultRing s fn r).brd = s.brd := rfl
@[simp] theorem setFaultRing_cus (s : State) (fn : Nat) (r : FaultRing) : (setFaultRing s fn r).cus = s.cus := rfl
@[simp] theorem setFaultRing_mon (s : State) (fn : Nat) (r : FaultRing) : (setFaultRing s fn r).mon = s.mon := rfl
@[simp] theorem setFaultRing_hif (s : State) (fn : Nat) (r : FaultRing) : (setFaultRing s fn r).hif = s.hif := rfl
@[simp] theorem setFaultRing_rings (s : State) (fn : Nat) (r : FaultRing) : (setFaultRing s fn r).rings = s.rings := rfl
@[simp] theorem setFaultRing_cur (s : State) (fn : Nat) (r : FaultRing) : (setFaultRing s fn r).cur = s.cur := rfl
@[simp] theorem setFaultRing_rgl (s : State) (fn : Nat) (r : FaultRing) : (setFaultRing s fn r).rgl = s.rgl := rfl
@[simp] theorem setFaultRing_mvt (s : State) (fn : Nat) (r : FaultRing) : (setFaultRing s fn r).mvt = s.mvt := rfl
@[simp] theorem setFaultRing_epo (s : State) (fn : Nat) (r : FaultRing) : (setFaultRing s fn r).epo = s.epo := rfl
@[simp] theorem setFaultRing_lne (s : State) (fn : Nat) (r : FaultRing) : (setFaultRing s fn r).lne = s.lne := rfl
@[simp] theorem setFaultRing_stk (s : State) (fn : Nat) (r : FaultRing) : (setFaultRing s fn r).stk = s.stk := rfl
@[simp] theorem setFaultRing_sch (s : State) (fn : Nat) (r : FaultRing) : (setFaultRing s fn r).sch = s.sch := rfl
@[simp] theorem setFaultRing_ctx (s : State) (fn : Nat) (r : FaultRing) : (setFaultRing s fn r).ctx = s.ctx := rfl
@[simp] theorem setFaultRing_pal (s : State) (fn : Nat) (r : FaultRing) : (setFaultRing s fn r).pal = s.pal := rfl
@[simp] theorem setFaultRing_cat (s : State) (fn : Nat) (r : FaultRing) : (setFaultRing s fn r).cat = s.cat := rfl
@[simp] theorem setFaultRing_car (s : State) (fn : Nat) (r : FaultRing) : (setFaultRing s fn r).car = s.car := rfl
@[simp] theorem setFaultRing_mov (s : State) (fn : Nat) (r : FaultRing) : (setFaultRing s fn r).mov = s.mov := rfl
@[simp] theorem setFaultRing_twn (s : State) (fn : Nat) (r : FaultRing) : (setFaultRing s fn r).twn = s.twn := rfl
@[simp] theorem setFaultRing_rgs (s : State) (fn : Nat) (r : FaultRing) : (setFaultRing s fn r).rgs = s.rgs := rfl
@[simp] theorem setFaultRing_tap (s : State) (fn : Nat) (r : FaultRing) : (setFaultRing s fn r).tap = s.tap := rfl
@[simp] theorem setFaultRing_host (s : State) (fn : Nat) (r : FaultRing) : (setFaultRing s fn r).host = s.host := rfl
@[simp] theorem setFaultRing_hostErr (s : State) (fn : Nat) (r : FaultRing) : (setFaultRing s fn r).hostErr = s.hostErr := rfl
@[simp] theorem setFaultRing_drawn (s : State) (fn : Nat) (r : FaultRing) : (setFaultRing s fn r).drawn = s.drawn := rfl
@[simp] theorem setFaultRing_justSet (s : State) (fn : Nat) (r : FaultRing) : (setFaultRing s fn r).justSet = s.justSet := rfl
@[simp] theorem setFaultRing_inReset (s : State) (fn : Nat) (r : FaultRing) : (setFaultRing s fn r).inReset = s.inReset := rfl
@[simp] theorem setFaultRing_pending (s : State) (fn : Nat) (r : FaultRing) : (setFaultRing s fn r).pending = s.pending := rfl

/-! ### fault -/

@[simp] theorem fault_brd (s : State) (src detail : Nat) : (fault s src detail).brd = s.brd := rfl
@[simp] theorem fault_mon (s : State) (src detail : Nat) : (fault s src detail).mon = s.mon := rfl
@[simp] theorem fault_hif (s : State) (src detail : Nat) : (fault s src detail).hif = s.hif := rfl
@[simp] theorem fault_rings (s : State) (src detail : Nat) : (fault s src detail).rings = s.rings := rfl
@[simp] theorem fault_cur (s : State) (src detail : Nat) : (fault s src detail).cur = s.cur := rfl
@[simp] theorem fault_rgl (s : State) (src detail : Nat) : (fault s src detail).rgl = s.rgl := rfl
@[simp] theorem fault_mvt (s : State) (src detail : Nat) : (fault s src detail).mvt = s.mvt := rfl
@[simp] theorem fault_epo (s : State) (src detail : Nat) : (fault s src detail).epo = s.epo := rfl
@[simp] theorem fault_lne (s : State) (src detail : Nat) : (fault s src detail).lne = s.lne := rfl
@[simp] theorem fault_stk (s : State) (src detail : Nat) : (fault s src detail).stk = s.stk := rfl
@[simp] theorem fault_sch (s : State) (src detail : Nat) : (fault s src detail).sch = s.sch := rfl
@[simp] theorem fault_xlt (s : State) (src detail : Nat) : (fault s src detail).xlt = s.xlt := rfl
@[simp] theorem fault_ctx (s : State) (src detail : Nat) : (fault s src detail).ctx = s.ctx := rfl
@[simp] theorem fault_pal (s : State) (src detail : Nat) : (fault s src detail).pal = s.pal := rfl
@[simp] theorem fault_cat (s : State) (src detail : Nat) : (fault s src detail).cat = s.cat := rfl
@[simp] theorem fault_car (s : State) (src detail : Nat) : (fault s src detail).car = s.car := rfl
@[simp] theorem fault_mov (s : State) (src detail : Nat) : (fault s src detail).mov = s.mov := rfl
@[simp] theorem fault_twn (s : State) (src detail : Nat) : (fault s src detail).twn = s.twn := rfl
@[simp] theorem fault_rgs (s : State) (src detail : Nat) : (fault s src detail).rgs = s.rgs := rfl
@[simp] theorem fault_tap (s : State) (src detail : Nat) : (fault s src detail).tap = s.tap := rfl
@[simp] theorem fault_hostErr (s : State) (src detail : Nat) : (fault s src detail).hostErr = s.hostErr := rfl
@[simp] theorem fault_drawn (s : State) (src detail : Nat) : (fault s src detail).drawn = s.drawn := rfl
@[simp] theorem fault_justSet (s : State) (src detail : Nat) : (fault s src detail).justSet = s.justSet := rfl
@[simp] theorem fault_inReset (s : State) (src detail : Nat) : (fault s src detail).inReset = s.inReset := rfl
@[simp] theorem fault_pending (s : State) (src detail : Nat) : (fault s src detail).pending = s.pending := rfl

/-! ### markSet -/

@[simp] theorem markSet_brd (s : State) (kind n : Nat) : (markSet s kind n).brd = s.brd := rfl
@[simp] theorem markSet_cus (s : State) (kind n : Nat) : (markSet s kind n).cus = s.cus := rfl
@[simp] theorem markSet_mon (s : State) (kind n : Nat) : (markSet s kind n).mon = s.mon := rfl
@[simp] theorem markSet_hif (s : State) (kind n : Nat) : (markSet s kind n).hif = s.hif := rfl
@[simp] theorem markSet_rings (s : State) (kind n : Nat) : (markSet s kind n).rings = s.rings := rfl
@[simp] theorem markSet_cur (s : State) (kind n : Nat) : (markSet s kind n).cur = s.cur := rfl
@[simp] theorem markSet_rgl (s : State) (kind n : Nat) : (markSet s kind n).rgl = s.rgl := rfl
@[simp] theorem markSet_mvt (s : State) (kind n : Nat) : (markSet s kind n).mvt = s.mvt := rfl
@[simp] theorem markSet_epo (s : State) (kind n : Nat) : (markSet s kind n).epo = s.epo := rfl
@[simp] theorem markSet_lne (s : State) (kind n : Nat) : (markSet s kind n).lne = s.lne := rfl
@[simp] theorem markSet_stk (s : State) (kind n : Nat) : (markSet s kind n).stk = s.stk := rfl
@[simp] theorem markSet_sch (s : State) (kind n : Nat) : (markSet s kind n).sch = s.sch := rfl
@[simp] theorem markSet_xlt (s : State) (kind n : Nat) : (markSet s kind n).xlt = s.xlt := rfl
@[simp] theorem markSet_ctx (s : State) (kind n : Nat) : (markSet s kind n).ctx = s.ctx := rfl
@[simp] theorem markSet_pal (s : State) (kind n : Nat) : (markSet s kind n).pal = s.pal := rfl
@[simp] theorem markSet_cat (s : State) (kind n : Nat) : (markSet s kind n).cat = s.cat := rfl
@[simp] theorem markSet_car (s : State) (kind n : Nat) : (markSet s kind n).car = s.car := rfl
@[simp] theorem markSet_mov (s : State) (kind n : Nat) : (markSet s kind n).mov = s.mov := rfl
@[simp] theorem markSet_twn (s : State) (kind n : Nat) : (markSet s kind n).twn = s.twn := rfl
@[simp] theorem markSet_rgs (s : State) (kind n : Nat) : (markSet s kind n).rgs = s.rgs := rfl
@[simp] theorem markSet_tap (s : State) (kind n : Nat) : (markSet s kind n).tap = s.tap := rfl
@[simp] theorem markSet_host (s : State) (kind n : Nat) : (markSet s kind n).host = s.host := rfl
@[simp] theorem markSet_hostErr (s : State) (kind n : Nat) : (markSet s kind n).hostErr = s.hostErr := rfl
@[simp] theorem markSet_drawn (s : State) (kind n : Nat) : (markSet s kind n).drawn = s.drawn := rfl
@[simp] theorem markSet_inReset (s : State) (kind n : Nat) : (markSet s kind n).inReset = s.inReset := rfl
@[simp] theorem markSet_pending (s : State) (kind n : Nat) : (markSet s kind n).pending = s.pending := rfl

/-! ### Counting -/

@[simp] theorem bumpBy_brd (s : State) (n k : Nat) : (bumpBy s n k).brd = s.brd := by
  obtain ⟨_, _, e⟩ := bumpBy_eq s n k; rw [e]
@[simp] theorem bump_brd (s : State) (n : Nat) : (bump s n).brd = s.brd := bumpBy_brd s n 1
@[simp] theorem bumpBy_hif (s : State) (n k : Nat) : (bumpBy s n k).hif = s.hif := by
  obtain ⟨_, _, e⟩ := bumpBy_eq s n k; rw [e]
@[simp] theorem bump_hif (s : State) (n : Nat) : (bump s n).hif = s.hif := bumpBy_hif s n 1
@[simp] theorem bumpBy_rings (s : State) (n k : Nat) : (bumpBy s n k).rings = s.rings := by
  obtain ⟨_, _, e⟩ := bumpBy_eq s n k; rw [e]
@[simp] theorem bump_rings (s : State) (n : Nat) : (bump s n).rings = s.rings := bumpBy_rings s n 1
@[simp] theorem bumpBy_cur (s : State) (n k : Nat) : (bumpBy s n k).cur = s.cur := by
  obtain ⟨_, _, e⟩ := bumpBy_eq s n k; rw [e]
@[simp] theorem bump_cur (s : State) (n : Nat) : (bump s n).cur = s.cur := bumpBy_cur s n 1
@[simp] theorem bumpBy_rgl (s : State) (n k : Nat) : (bumpBy s n k).rgl = s.rgl := by
  obtain ⟨_, _, e⟩ := bumpBy_eq s n k; rw [e]
@[simp] theorem bump_rgl (s : State) (n : Nat) : (bump s n).rgl = s.rgl := bumpBy_rgl s n 1
@[simp] theorem bumpBy_mvt (s : State) (n k : Nat) : (bumpBy s n k).mvt = s.mvt := by
  obtain ⟨_, _, e⟩ := bumpBy_eq s n k; rw [e]
@[simp] theorem bump_mvt (s : State) (n : Nat) : (bump s n).mvt = s.mvt := bumpBy_mvt s n 1
@[simp] theorem bumpBy_epo (s : State) (n k : Nat) : (bumpBy s n k).epo = s.epo := by
  obtain ⟨_, _, e⟩ := bumpBy_eq s n k; rw [e]
@[simp] theorem bump_epo (s : State) (n : Nat) : (bump s n).epo = s.epo := bumpBy_epo s n 1
@[simp] theorem bumpBy_lne (s : State) (n k : Nat) : (bumpBy s n k).lne = s.lne := by
  obtain ⟨_, _, e⟩ := bumpBy_eq s n k; rw [e]
@[simp] theorem bump_lne (s : State) (n : Nat) : (bump s n).lne = s.lne := bumpBy_lne s n 1
@[simp] theorem bumpBy_stk (s : State) (n k : Nat) : (bumpBy s n k).stk = s.stk := by
  obtain ⟨_, _, e⟩ := bumpBy_eq s n k; rw [e]
@[simp] theorem bump_stk (s : State) (n : Nat) : (bump s n).stk = s.stk := bumpBy_stk s n 1
@[simp] theorem bumpBy_sch (s : State) (n k : Nat) : (bumpBy s n k).sch = s.sch := by
  obtain ⟨_, _, e⟩ := bumpBy_eq s n k; rw [e]
@[simp] theorem bump_sch (s : State) (n : Nat) : (bump s n).sch = s.sch := bumpBy_sch s n 1
@[simp] theorem bumpBy_xlt (s : State) (n k : Nat) : (bumpBy s n k).xlt = s.xlt := by
  obtain ⟨_, _, e⟩ := bumpBy_eq s n k; rw [e]
@[simp] theorem bump_xlt (s : State) (n : Nat) : (bump s n).xlt = s.xlt := bumpBy_xlt s n 1
@[simp] theorem bumpBy_ctx (s : State) (n k : Nat) : (bumpBy s n k).ctx = s.ctx := by
  obtain ⟨_, _, e⟩ := bumpBy_eq s n k; rw [e]
@[simp] theorem bump_ctx (s : State) (n : Nat) : (bump s n).ctx = s.ctx := bumpBy_ctx s n 1
@[simp] theorem bumpBy_pal (s : State) (n k : Nat) : (bumpBy s n k).pal = s.pal := by
  obtain ⟨_, _, e⟩ := bumpBy_eq s n k; rw [e]
@[simp] theorem bump_pal (s : State) (n : Nat) : (bump s n).pal = s.pal := bumpBy_pal s n 1
@[simp] theorem bumpBy_cat (s : State) (n k : Nat) : (bumpBy s n k).cat = s.cat := by
  obtain ⟨_, _, e⟩ := bumpBy_eq s n k; rw [e]
@[simp] theorem bump_cat (s : State) (n : Nat) : (bump s n).cat = s.cat := bumpBy_cat s n 1
@[simp] theorem bumpBy_car (s : State) (n k : Nat) : (bumpBy s n k).car = s.car := by
  obtain ⟨_, _, e⟩ := bumpBy_eq s n k; rw [e]
@[simp] theorem bump_car (s : State) (n : Nat) : (bump s n).car = s.car := bumpBy_car s n 1
@[simp] theorem bumpBy_mov (s : State) (n k : Nat) : (bumpBy s n k).mov = s.mov := by
  obtain ⟨_, _, e⟩ := bumpBy_eq s n k; rw [e]
@[simp] theorem bump_mov (s : State) (n : Nat) : (bump s n).mov = s.mov := bumpBy_mov s n 1
@[simp] theorem bumpBy_twn (s : State) (n k : Nat) : (bumpBy s n k).twn = s.twn := by
  obtain ⟨_, _, e⟩ := bumpBy_eq s n k; rw [e]
@[simp] theorem bump_twn (s : State) (n : Nat) : (bump s n).twn = s.twn := bumpBy_twn s n 1
@[simp] theorem bumpBy_rgs (s : State) (n k : Nat) : (bumpBy s n k).rgs = s.rgs := by
  obtain ⟨_, _, e⟩ := bumpBy_eq s n k; rw [e]
@[simp] theorem bump_rgs (s : State) (n : Nat) : (bump s n).rgs = s.rgs := bumpBy_rgs s n 1
@[simp] theorem bumpBy_tap (s : State) (n k : Nat) : (bumpBy s n k).tap = s.tap := by
  obtain ⟨_, _, e⟩ := bumpBy_eq s n k; rw [e]
@[simp] theorem bump_tap (s : State) (n : Nat) : (bump s n).tap = s.tap := bumpBy_tap s n 1
@[simp] theorem bumpBy_hostErr (s : State) (n k : Nat) : (bumpBy s n k).hostErr = s.hostErr := by
  obtain ⟨_, _, e⟩ := bumpBy_eq s n k; rw [e]
@[simp] theorem bump_hostErr (s : State) (n : Nat) : (bump s n).hostErr = s.hostErr := bumpBy_hostErr s n 1
@[simp] theorem bumpBy_drawn (s : State) (n k : Nat) : (bumpBy s n k).drawn = s.drawn := by
  obtain ⟨_, _, e⟩ := bumpBy_eq s n k; rw [e]
@[simp] theorem bump_drawn (s : State) (n : Nat) : (bump s n).drawn = s.drawn := bumpBy_drawn s n 1
@[simp] theorem bumpBy_inReset (s : State) (n k : Nat) : (bumpBy s n k).inReset = s.inReset := by
  obtain ⟨_, _, e⟩ := bumpBy_eq s n k; rw [e]
@[simp] theorem bump_inReset (s : State) (n : Nat) : (bump s n).inReset = s.inReset := bumpBy_inReset s n 1
@[simp] theorem bumpBy_pending (s : State) (n k : Nat) : (bumpBy s n k).pending = s.pending := by
  obtain ⟨_, _, e⟩ := bumpBy_eq s n k; rw [e]
@[simp] theorem bump_pending (s : State) (n : Nat) : (bump s n).pending = s.pending := bumpBy_pending s n 1

end Sys2Proof.Machine
end

