-- ==== Sys2Proof/Laws/Faults.lean ====
section
/-! SUPPORT. The Custodian: the order in which occurrences are handled, the log's slots, and what stays in the safe state. -/

namespace Sys2Proof.Machine

/-- Putting an occurrence in its place keeps the occurrences. -/
theorem insertOcc_perm (o : Occ) (l : List Occ) : (insertOcc o l).Perm (o :: l) := by
  induction l with
  | nil => exact List.Perm.refl _
  | cons x l ih =>
    simp only [insertOcc]
    split
    · exact List.Perm.refl _
    · exact (ih.cons x).trans (List.Perm.swap _ _ _)

/-- Sorting keeps the occurrences. -/
theorem sortOccs_perm (l : List Occ) : (sortOccs l).Perm l := by
  induction l with
  | nil => exact List.Perm.refl _
  | cons o l ih => exact (insertOcc_perm o _).trans (ih.cons o)

/-- Putting an occurrence in its place keeps the order. -/
theorem insertOcc_sorted (o : Occ) (l : List Occ) (h : l.Pairwise (fun a b => a.src ≤ b.src)) : (insertOcc o l).Pairwise (fun a b => a.src ≤ b.src) := by
  induction l with
  | nil => simp [insertOcc]
  | cons x l ih =>
    simp only [insertOcc]
    rw [List.pairwise_cons] at h
    split
    · rename_i hx
      refine List.pairwise_cons.2 ⟨fun a ha => ?_, List.pairwise_cons.2 h⟩
      rcases List.mem_cons.1 ha with e | e
      · rw [e]; omega
      · have := h.1 a e; omega
    · refine List.pairwise_cons.2 ⟨fun a ha => ?_, ih h.2⟩
      have := (insertOcc_perm o l).mem_iff.1 ha
      rcases List.mem_cons.1 this with e | e
      · rw [e]; omega
      · exact h.1 a e

/-- The occurrences of a tick are handled in ascending source number (R545). -/
theorem sortOccs_sorted (l : List Occ) : (sortOccs l).Pairwise (fun a b => a.src ≤ b.src) := by
  induction l with
  | nil => simp [sortOccs]
  | cons o l ih => exact insertOcc_sorted o _ ih

/-- One slot written: that slot holds the record, every other is as before. -/
theorem logSlot_set (s t : State) (n : Nat) (r : LogRec) (h : t.cus.log = fmSet s.cus.log n r) : logSlot t n = r ∧ ∀ m, m ≠ n → logSlot t m = logSlot s m := by
  refine ⟨by simp [logSlot, h], fun m hm => ?_⟩
  simp only [logSlot, h]; exact fmGet_fmSet_other _ _ _ hm

/-- In the safe state occurrences change only counts (R552). -/
theorem handleOccs_safe_safe {s : State} (os : List Occ) (h : s.cus.safe = true) : (handleOccs s os).cus.safe = true := by
  have key : ∀ (b : Bool) (l : List Occ) (s : State), s.cus.safe = true → (l.foldl (handleOcc b) s).cus.safe = true := by
    intro b l
    induction l with
    | nil => intro s h; exact h
    | cons o l ih =>
      intro s h
      refine ih _ ?_
      simp [handleOcc, h, countOcc, markSet]
  simp only [handleOccs, h, Bool.not_true, Bool.and_false, Bool.false_eq_true, if_false]
  exact key _ _ _ h

/-- In the safe state the handling of occurrences raises nothing and drops nothing. -/
theorem handleOccs_safe_raised {s : State} (os : List Occ) (h : s.cus.safe = true) :
    (handleOccs s os).cus.raised = s.cus.raised := by
  have key : ∀ (b : Bool) (l : List Occ) (s : State), s.cus.safe = true → (l.foldl (handleOcc b) s).cus.raised = s.cus.raised := by
    intro b l
    induction l with
    | nil => intro s h; rfl
    | cons o l ih =>
      intro s h
      rw [List.foldl_cons, ih _ (by simp [handleOcc, h, countOcc, markSet])]
      simp [handleOcc, h, countOcc, markSet]
  simp only [handleOccs, h, Bool.not_true, Bool.and_false, Bool.false_eq_true, if_false]
  exact key _ _ _ h

/-- A run of discarded packets changes neither the safe state nor the record of its entry. -/
theorem countDiscard_keeps (l : List Nat) (s : State) : (l.foldl (fun s src => countDiscard s .safeState src) s).cus.safe = s.cus.safe ∧ (l.foldl (fun s src => countDiscard s .safeState src) s).cus.fatal = s.cus.fatal := by
  induction l generalizing s with
  | nil => exact ⟨rfl, rfl⟩
  | cons x l ih =>
    rw [List.foldl_cons]
    obtain ⟨a, b⟩ := ih (countDiscard s .safeState x)
    have c : (countDiscard s .safeState x).cus.safe = s.cus.safe ∧ (countDiscard s .safeState x).cus.fatal = s.cus.fatal := by
      simp [countDiscard, fault]
    exact ⟨a.trans c.1, b.trans c.2⟩

/-- Discarding every held packet changes neither the safe state nor the record of its entry. -/
theorem discardAll_keeps (s : State) : (discardAll s).cus.safe = s.cus.safe ∧ (discardAll s).cus.fatal = s.cus.fatal :=
  countDiscard_keeps _ _

end Sys2Proof.Machine
end

