-- ==== Sys2Proof/Laws/Pallet.lean ====
section
/-! SUPPORT. What a write to a lock does to the bank: its own lock by the rule, no other. -/

namespace Sys2Proof.Machine

/-- The locks after a write to one of them. -/
theorem lockWrite_locks (s : State) (n id : Nat) (r : Bool) : (lockWrite s n id r).1.pal.locks = fmSet s.pal.locks n (lockRule (lockOf s n) id r).1 := by
  simp only [lockWrite]
  generalize lockRule (lockOf s n) id r = x
  obtain ⟨l, o⟩ := x
  cases o <;> simp [setLock, lockFreed, fault]

/-- The lock written is as the rule leaves it (R504). -/
theorem lockWrite_same (s : State) (n id : Nat) (r : Bool) : lockOf (lockWrite s n id r).1 n = (lockRule (lockOf s n) id r).1 := by
  rw [lockOf, lockWrite_locks]; simp

/-- Every other lock is as before. -/
theorem lockWrite_other (s : State) (n id : Nat) (r : Bool) {m : Nat} (h : m ≠ n) : lockOf (lockWrite s n id r).1 m = lockOf s m := by
  simp only [lockOf, lockWrite_locks]; exact fmGet_fmSet_other _ _ _ h

end Sys2Proof.Machine
end

