-- ==== Sys2Proof/Laws/PerInstr.lean ====
section
/-! SUPPORT. Families of statements over all commands, one lemma for each constructor. -/

namespace Sys2Proof.Laws.RowNumber

/-- Every command's row lies in the table of 291 rows. -/
def Statement (i : Instr) : Prop := i.row < 291

theorem deviceNop (x0 : Nat) : Statement (.deviceNop x0) := show 0 < 291 from by decide
theorem deviceIdentify (x0 : Nat) : Statement (.deviceIdentify x0) := show 1 < 291 from by decide
theorem deviceConfig (x0 : Nat) : Statement (.deviceConfig x0) := show 2 < 291 from by decide
theorem expertEnter (x0 : Nat) : Statement (.expertEnter x0) := show 3 < 291 from by decide
theorem expertLeave (x0 : Nat) : Statement (.expertLeave x0) := show 4 < 291 from by decide
theorem fwQuery (x0 : Nat) : Statement (.fwQuery x0) := show 5 < 291 from by decide
theorem fwStage (x0 : Nat) : Statement (.fwStage x0) := show 6 < 291 from by decide
theorem fwCommit (x0 : Nat) : Statement (.fwCommit x0) := show 7 < 291 from by decide
theorem fwDiscard (x0 : Nat) : Statement (.fwDiscard x0) := show 8 < 291 from by decide
theorem queueGroupGrant (x0 : Nat) : Statement (.queueGroupGrant x0) := show 9 < 291 from by decide
theorem queueGroupReclaim (x0 : Nat) : Statement (.queueGroupReclaim x0) := show 10 < 291 from by decide
theorem queueCreate (x0 : Nat) : Statement (.queueCreate x0) := show 11 < 291 from by decide
theorem queueDestroy (x0 : Nat) : Statement (.queueDestroy x0) := show 12 < 291 from by decide
theorem queueReset (x0 : Nat) : Statement (.queueReset x0) := show 13 < 291 from by decide
theorem queueQuery (x0 : Nat) : Statement (.queueQuery x0) := show 14 < 291 from by decide
theorem eventRingCreate (x0 : Nat) : Statement (.eventRingCreate x0) := show 15 < 291 from by decide
theorem eventRingDestroy (x0 : Nat) : Statement (.eventRingDestroy x0) := show 16 < 291 from by decide
theorem eventRingClear (x0 : Nat) : Statement (.eventRingClear x0) := show 17 < 291 from by decide
theorem connCreate (x0 : Nat) : Statement (.connCreate x0) := show 18 < 291 from by decide
theorem connConnect (x0 : Nat) : Statement (.connConnect x0) := show 19 < 291 from by decide
theorem connDestroy (x0 : Nat) : Statement (.connDestroy x0) := show 20 < 291 from by decide
theorem connReset (x0 : Nat) : Statement (.connReset x0) := show 21 < 291 from by decide
theorem connQuery (x0 : Nat) : Statement (.connQuery x0) := show 22 < 291 from by decide
theorem counterAlloc (x0 : Nat) : Statement (.counterAlloc x0) := show 23 < 291 from by decide
theorem counterFree (x0 : Nat) : Statement (.counterFree x0) := show 24 < 291 from by decide
theorem counterQuery (x0 : Nat) : Statement (.counterQuery x0) := show 25 < 291 from by decide
theorem ctxConfig (x0 : Nat) : Statement (.ctxConfig x0) := show 26 < 291 from by decide
theorem regionCreate (x0 : Nat) : Statement (.regionCreate x0) := show 27 < 291 from by decide
theorem regionRevoke (x0 : Nat) : Statement (.regionRevoke x0) := show 28 < 291 from by decide
theorem regionDestroy (x0 : Nat) : Statement (.regionDestroy x0) := show 29 < 291 from by decide
theorem regionQuery (x0 : Nat) : Statement (.regionQuery x0) := show 30 < 291 from by decide
theorem regionInvalidate (x0 : Nat) : Statement (.regionInvalidate x0) := show 31 < 291 from by decide
theorem faultRingCreate (x0 : Nat) : Statement (.faultRingCreate x0) := show 32 < 291 from by decide
theorem faultRingDestroy (x0 : Nat) : Statement (.faultRingDestroy x0) := show 33 < 291 from by decide
theorem pageResolve (x0 : Nat) : Statement (.pageResolve x0) := show 34 < 291 from by decide
theorem xltConfig (x0 : Nat) : Statement (.xltConfig x0) := show 35 < 291 from by decide
theorem endpointCreate (x0 : Nat) : Statement (.endpointCreate x0) := show 36 < 291 from by decide
theorem endpointDestroy (x0 : Nat) : Statement (.endpointDestroy x0) := show 37 < 291 from by decide
theorem endpointQuery (x0 : Nat) : Statement (.endpointQuery x0) := show 38 < 291 from by decide
theorem catConfig (x0 : Nat) : Statement (.catConfig x0) := show 39 < 291 from by decide
theorem groupCreate (x0 : Nat) : Statement (.groupCreate x0) := show 40 < 291 from by decide
theorem groupDestroy (x0 : Nat) : Statement (.groupDestroy x0) := show 41 < 291 from by decide
theorem groupQuery (x0 : Nat) : Statement (.groupQuery x0) := show 42 < 291 from by decide
theorem groupRebuild (x0 : Nat) : Statement (.groupRebuild x0) := show 43 < 291 from by decide
theorem carConfig (x0 : Nat) : Statement (.carConfig x0) := show 44 < 291 from by decide
theorem routeQuery (x0 : Nat) : Statement (.routeQuery x0) := show 45 < 291 from by decide
theorem routeConfig (x0 : Nat) : Statement (.routeConfig x0) := show 46 < 291 from by decide
theorem routePortFence (x0 : Nat) : Statement (.routePortFence x0) := show 47 < 291 from by decide
theorem routeEpochChange (x0 : Nat) : Statement (.routeEpochChange x0) := show 48 < 291 from by decide
theorem routeTableRead (x0 : Nat) : Statement (.routeTableRead x0) := show 49 < 291 from by decide
theorem strikeQuery (x0 : Nat) : Statement (.strikeQuery x0) := show 50 < 291 from by decide
theorem strikeStage (x0 : Nat) : Statement (.strikeStage x0) := show 51 < 291 from by decide
theorem strikeActivate (x0 : Nat) : Statement (.strikeActivate x0) := show 52 < 291 from by decide
theorem strikeDiscard (x0 : Nat) : Statement (.strikeDiscard x0) := show 53 < 291 from by decide
theorem strikeFlowBind (x0 : Nat) : Statement (.strikeFlowBind x0) := show 54 < 291 from by decide
theorem strikeFlowUnbind (x0 : Nat) : Statement (.strikeFlowUnbind x0) := show 55 < 291 from by decide
theorem strikeConfig (x0 : Nat) : Statement (.strikeConfig x0) := show 56 < 291 from by decide
theorem laneQuery (x0 : Nat) : Statement (.laneQuery x0) := show 57 < 291 from by decide
theorem laneRetrain (x0 : Nat) : Statement (.laneRetrain x0) := show 58 < 291 from by decide
theorem laneSleepConfig (x0 : Nat) : Statement (.laneSleepConfig x0) := show 59 < 291 from by decide
theorem laneTableRead (x0 : Nat) : Statement (.laneTableRead x0) := show 60 < 291 from by decide
theorem laneConfig (x0 : Nat) : Statement (.laneConfig x0) := show 61 < 291 from by decide
theorem lockClaim (x0 : Nat) : Statement (.lockClaim x0) := show 62 < 291 from by decide
theorem lockRelease (x0 : Nat) : Statement (.lockRelease x0) := show 63 < 291 from by decide
theorem lockQuery (x0 : Nat) : Statement (.lockQuery x0) := show 64 < 291 from by decide
theorem lockGroupConfig (x0 : Nat) : Statement (.lockGroupConfig x0) := show 65 < 291 from by decide
theorem lockPeer (x0 : Nat) : Statement (.lockPeer x0) := show 66 < 291 from by decide
theorem wordLockClaim (x0 : Nat) : Statement (.wordLockClaim x0) := show 67 < 291 from by decide
theorem wordLockRelease (x0 : Nat) : Statement (.wordLockRelease x0) := show 68 < 291 from by decide
theorem twinQuery (x0 : Nat) : Statement (.twinQuery x0) := show 69 < 291 from by decide
theorem twinConfig (x0 : Nat) : Statement (.twinConfig x0) := show 70 < 291 from by decide
theorem twinBridgeRetrain (x0 : Nat) : Statement (.twinBridgeRetrain x0) := show 71 < 291 from by decide
theorem twinAdopt (x0 : Nat) : Statement (.twinAdopt x0) := show 72 < 291 from by decide
theorem counterRead (x0 : Nat) : Statement (.counterRead x0) := show 73 < 291 from by decide
theorem counterConfig (x0 : Nat) : Statement (.counterConfig x0) := show 74 < 291 from by decide
theorem userPageConfig (x0 : Nat) : Statement (.userPageConfig x0) := show 75 < 291 from by decide
theorem dialConfig (x0 : Nat) : Statement (.dialConfig x0) := show 76 < 291 from by decide
theorem dialRead (x0 : Nat) : Statement (.dialRead x0) := show 77 < 291 from by decide
theorem provConfig (x0 : Nat) : Statement (.provConfig x0) := show 78 < 291 from by decide
theorem provRead (x0 : Nat) : Statement (.provRead x0) := show 79 < 291 from by decide
theorem faultSevSet (x0 : Nat) : Statement (.faultSevSet x0) := show 80 < 291 from by decide
theorem faultQuery (x0 : Nat) : Statement (.faultQuery x0) := show 81 < 291 from by decide
theorem faultLogRead (x0 : Nat) : Statement (.faultLogRead x0) := show 82 < 291 from by decide
theorem registrarQuery (x0 : Nat) : Statement (.registrarQuery x0) := show 83 < 291 from by decide
theorem registrarRead (x0 : Nat) : Statement (.registrarRead x0) := show 84 < 291 from by decide
theorem moverChannelAlloc (x0 : Nat) : Statement (.moverChannelAlloc x0) := show 85 < 291 from by decide
theorem moverChannelFree (x0 : Nat) : Statement (.moverChannelFree x0) := show 86 < 291 from by decide
theorem moverChannelQuery (x0 : Nat) : Statement (.moverChannelQuery x0) := show 87 < 291 from by decide
theorem moverChannelPriority (x0 : Nat) : Statement (.moverChannelPriority x0) := show 88 < 291 from by decide
theorem moverConfig (x0 : Nat) : Statement (.moverConfig x0) := show 89 < 291 from by decide
theorem schedGroupQuery (x0 : Nat) : Statement (.schedGroupQuery x0) := show 90 < 291 from by decide
theorem schedGroupQuantum (x0 : Nat) : Statement (.schedGroupQuantum x0) := show 91 < 291 from by decide
theorem schedShaperConfig (x0 : Nat) : Statement (.schedShaperConfig x0) := show 92 < 291 from by decide
theorem schedPolicerConfig (x0 : Nat) : Statement (.schedPolicerConfig x0) := show 93 < 291 from by decide
theorem schedFnQuery (x0 : Nat) : Statement (.schedFnQuery x0) := show 94 < 291 from by decide
theorem schedQueueSample (x0 : Nat) : Statement (.schedQueueSample x0) := show 95 < 291 from by decide
theorem schedConfig (x0 : Nat) : Statement (.schedConfig x0) := show 96 < 291 from by decide
theorem commandTaken (x0 : Nat) : Statement (.commandTaken x0) := show 97 < 291 from by decide
theorem commandComplete (x0 : Nat) (x1 : Nat) (x2 : Nat) : Statement (.commandComplete x0 x1 x2) := show 98 < 291 from by decide
theorem commandTimeout (x0 : Nat) : Statement (.commandTimeout x0) := show 99 < 291 from by decide
theorem curCoreStop (x0 : Nat) (x1 : Option Nat) : Statement (.curCoreStop x0 x1) := show 100 < 291 from by decide
theorem adminQueueEnable (x0 : Nat) (x1 : BitVec 32) : Statement (.adminQueueEnable x0 x1) := show 101 < 291 from by decide
theorem adminQueueDisable (x0 : Nat) (x1 : BitVec 32) : Statement (.adminQueueDisable x0 x1) := show 102 < 291 from by decide
theorem admDb (x0 : Nat) (x1 : Idx) : Statement (.admDb x0 x1) := show 103 < 291 from by decide
theorem admMailboxRead (x0 : Nat) : Statement (.admMailboxRead x0) := show 104 < 291 from by decide
theorem dbProducer (x0 : Nat) (x1 : Nat) (x2 : Nat) (x3 : Idx) : Statement (.dbProducer x0 x1 x2 x3) := show 105 < 291 from by decide
theorem inlineStore (x0 : Nat) (x1 : Nat) (x2 : List Byte) : Statement (.inlineStore x0 x1 x2) := show 106 < 291 from by decide
theorem movAppend (x0 : Nat) (x1 : BitVec 32) : Statement (.movAppend x0 x1) := show 107 < 291 from by decide
theorem lockWordWrite (x0 : Nat) (x1 : Nat) (x2 : BitVec 32) : Statement (.lockWordWrite x0 x1 x2) := show 108 < 291 from by decide
theorem lockWaitRead (x0 : Nat) (x1 : Nat) : Statement (.lockWaitRead x0 x1) := show 109 < 291 from by decide
theorem waitReadReturn (x0 : Nat) : Statement (.waitReadReturn x0) := show 110 < 291 from by decide
theorem portFenceWrite (x0 : Nat) (x1 : Nat) (x2 : BitVec 32) : Statement (.portFenceWrite x0 x1 x2) := show 111 < 291 from by decide
theorem retrain (x0 : Nat) (x1 : Nat) : Statement (.retrain x0 x1) := show 112 < 291 from by decide
theorem msixUnmask (x0 : Nat) (x1 : Nat) : Statement (.msixUnmask x0 x1) := show 113 < 291 from by decide
theorem latchingRegisterRead (x0 : Nat) (x1 : BarPlace) (x2 : Nat) : Statement (.latchingRegisterRead x0 x1 x2) := show 114 < 291 from by decide
theorem userPageRead (x0 : Nat) (x1 : Nat) (x2 : Nat) : Statement (.userPageRead x0 x1 x2) := show 115 < 291 from by decide
theorem registerWrite (x0 : Nat) (x1 : Nat) (x2 : Nat) (x3 : BitVec 64) : Statement (.registerWrite x0 x1 x2 x3) := show 116 < 291 from by decide
theorem undefinedOffsetAccess (x0 : Nat) (x1 : Nat) (x2 : Nat) (x3 : AccessKind) : Statement (.undefinedOffsetAccess x0 x1 x2 x3) := show 117 < 291 from by decide
theorem nop (x0 : Nat) : Statement (.nop x0) := show 118 < 291 from by decide
theorem put (x0 : Nat) : Statement (.put x0) := show 119 < 291 from by decide
theorem putImm (x0 : Nat) : Statement (.putImm x0) := show 120 < 291 from by decide
theorem get (x0 : Nat) : Statement (.get x0) := show 121 < 291 from by decide
theorem atomic (x0 : Nat) : Statement (.atomic x0) := show 122 < 291 from by decide
theorem counterAdd (x0 : Nat) : Statement (.counterAdd x0) := show 123 < 291 from by decide
theorem counterSet (x0 : Nat) : Statement (.counterSet x0) := show 124 < 291 from by decide
theorem barrier (x0 : Nat) : Statement (.barrier x0) := show 125 < 291 from by decide
theorem reserveLoad (x0 : Nat) : Statement (.reserveLoad x0) := show 126 < 291 from by decide
theorem condStore (x0 : Nat) : Statement (.condStore x0) := show 127 < 291 from by decide
theorem send (x0 : Nat) : Statement (.send x0) := show 128 < 291 from by decide
theorem recv (x0 : Nat) : Statement (.recv x0) := show 129 < 291 from by decide
theorem collective (x0 : Nat) : Statement (.collective x0) := show 130 < 291 from by decide
theorem moverStart (x0 : Nat) : Statement (.moverStart x0) := show 131 < 291 from by decide
theorem moverChain (x0 : Nat) : Statement (.moverChain x0) := show 132 < 291 from by decide
theorem moverAppend (x0 : Nat) : Statement (.moverAppend x0) := show 133 < 291 from by decide
theorem armedJobRelease (x0 : Nat) (x1 : Idx) : Statement (.armedJobRelease x0 x1) := show 134 < 291 from by decide
theorem headIndexPublish (x0 : Nat) : Statement (.headIndexPublish x0) := show 135 < 291 from by decide
theorem errorRingReread (x0 : Nat) : Statement (.errorRingReread x0) := show 136 < 291 from by decide
theorem eventRingReread (x0 : Nat) (x1 : Nat) : Statement (.eventRingReread x0 x1) := show 137 < 291 from by decide
theorem msixMessage (x0 : Nat) (x1 : Nat) : Statement (.msixMessage x0 x1) := show 138 < 291 from by decide
theorem faultRingReread (x0 : Nat) : Statement (.faultRingReread x0) := show 139 < 291 from by decide
theorem receiveRingReread (x0 : Nat) : Statement (.receiveRingReread x0) := show 140 < 291 from by decide
theorem localTimeout (x0 : Nat) (x1 : Idx) : Statement (.localTimeout x0 x1) := show 141 < 291 from by decide
theorem pagePendingResend (x0 : Nat) (x1 : Psn) : Statement (.pagePendingResend x0 x1) := show 142 < 291 from by decide
theorem retransmitTimeout (x0 : Nat) (x1 : Psn) : Statement (.retransmitTimeout x0 x1) := show 143 < 291 from by decide
theorem ackSend (x0 : Nat) : Statement (.ackSend x0) := show 144 < 291 from by decide
theorem fencedHoldExpiry (x0 : Nat) : Statement (.fencedHoldExpiry x0) := show 145 < 291 from by decide
theorem peerIdleExpiry (x0 : Nat) : Statement (.peerIdleExpiry x0) := show 146 < 291 from by decide
theorem contextQuarantineEnd (x0 : Nat) : Statement (.contextQuarantineEnd x0) := show 147 < 291 from by decide
theorem endpointQuarantineEnd (x0 : Nat) : Statement (.endpointQuarantineEnd x0) := show 148 < 291 from by decide
theorem handleQuarantineEnd (x0 : Nat) : Statement (.handleQuarantineEnd x0) := show 149 < 291 from by decide
theorem ejectionReserveTimeout (x0 : Nat) (x1 : Psn) : Statement (.ejectionReserveTimeout x0 x1) := show 150 < 291 from by decide
theorem reservationExpiry (x0 : Nat) : Statement (.reservationExpiry x0) := show 151 < 291 from by decide
theorem putArrival (x0 : Packet) : Statement (.putArrival x0) := show 152 < 291 from by decide
theorem strikePutArrival (x0 : Packet) : Statement (.strikePutArrival x0) := show 153 < 291 from by decide
theorem getArrival (x0 : Packet) : Statement (.getArrival x0) := show 154 < 291 from by decide
theorem atomicArrival (x0 : Packet) : Statement (.atomicArrival x0) := show 155 < 291 from by decide
theorem reserveLoadArrival (x0 : Packet) : Statement (.reserveLoadArrival x0) := show 156 < 291 from by decide
theorem condStoreArrival (x0 : Packet) : Statement (.condStoreArrival x0) := show 157 < 291 from by decide
theorem flush (x0 : Packet) : Statement (.flush x0) := show 158 < 291 from by decide
theorem skip (x0 : Packet) : Statement (.skip x0) := show 159 < 291 from by decide
theorem peerOpen (x0 : Packet) : Statement (.peerOpen x0) := show 160 < 291 from by decide
theorem peerClose (x0 : Packet) : Statement (.peerClose x0) := show 161 < 291 from by decide
theorem ack (x0 : Packet) : Statement (.ack x0) := show 162 < 291 from by decide
theorem nak (x0 : Packet) : Statement (.nak x0) := show 163 < 291 from by decide
theorem getData (x0 : Packet) : Statement (.getData x0) := show 164 < 291 from by decide
theorem atomicData (x0 : Packet) : Statement (.atomicData x0) := show 165 < 291 from by decide
theorem flushDone (x0 : Packet) : Statement (.flushDone x0) := show 166 < 291 from by decide
theorem peerOpenAck (x0 : Packet) : Statement (.peerOpenAck x0) := show 167 < 291 from by decide
theorem peerCloseAck (x0 : Packet) : Statement (.peerCloseAck x0) := show 168 < 291 from by decide
theorem msgEager (x0 : Packet) : Statement (.msgEager x0) := show 169 < 291 from by decide
theorem msgRts (x0 : Packet) : Statement (.msgRts x0) := show 170 < 291 from by decide
theorem msgRdvGet (x0 : Packet) : Statement (.msgRdvGet x0) := show 171 < 291 from by decide
theorem msgFin (x0 : Packet) : Statement (.msgFin x0) := show 172 < 291 from by decide
theorem parkedPacketCommit (x0 : Nat) (x1 : Psn) : Statement (.parkedPacketCommit x0 x1) := show 173 < 291 from by decide
theorem deliveryEnd (x0 : Nat) (x1 : Nat) : Statement (.deliveryEnd x0 x1) := show 174 < 291 from by decide
theorem carUp (x0 : Nat) (x1 : Packet) : Statement (.carUp x0 x1) := show 175 < 291 from by decide
theorem carDown (x0 : Nat) (x1 : Packet) : Statement (.carDown x0 x1) := show 176 < 291 from by decide
theorem carAck (x0 : Nat) (x1 : Packet) : Statement (.carAck x0 x1) := show 177 < 291 from by decide
theorem carEnd (x0 : Nat) (x1 : Packet) : Statement (.carEnd x0 x1) := show 178 < 291 from by decide
theorem carSlot (x0 : Nat) (x1 : Packet) : Statement (.carSlot x0 x1) := show 179 < 291 from by decide
theorem treeInstall (x0 : TreeInstall) : Statement (.treeInstall x0) := show 180 < 291 from by decide
theorem treeEpochSwitch (x0 : Nat) : Statement (.treeEpochSwitch x0) := show 181 < 291 from by decide
theorem treeEpochRetire (x0 : Nat) : Statement (.treeEpochRetire x0) := show 182 < 291 from by decide
theorem treeReadyTimeout (x0 : Nat) : Statement (.treeReadyTimeout x0) := show 183 < 291 from by decide
theorem groupJoin (x0 : JoinReport) : Statement (.groupJoin x0) := show 184 < 291 from by decide
theorem groupCreateTimeout (x0 : Nat) : Statement (.groupCreateTimeout x0) := show 185 < 291 from by decide
theorem move (x0 : Nat) : Statement (.move x0) := show 186 < 291 from by decide
theorem moveChecked (x0 : Nat) : Statement (.moveChecked x0) := show 187 < 291 from by decide
theorem loop (x0 : Nat) : Statement (.loop x0) := show 188 < 291 from by decide
theorem wait (x0 : Nat) : Statement (.wait x0) := show 189 < 291 from by decide
theorem waitEnd (x0 : Nat) : Statement (.waitEnd x0) := show 190 < 291 from by decide
theorem signal (x0 : Nat) : Statement (.signal x0) := show 191 < 291 from by decide
theorem moverFence (x0 : Nat) : Statement (.moverFence x0) := show 192 < 291 from by decide
theorem moverEnd (x0 : Nat) : Statement (.moverEnd x0) := show 193 < 291 from by decide
theorem moverBeat : Statement (.moverBeat ) := show 194 < 291 from by decide
theorem descriptor (x0 : Nat) : Statement (.descriptor x0) := show 195 < 291 from by decide
theorem moverReadFailure (x0 : Nat) : Statement (.moverReadFailure x0) := show 196 < 291 from by decide
theorem injectionGrant (x0 : Nat) : Statement (.injectionGrant x0) := show 197 < 291 from by decide
theorem shaperTick : Statement (.shaperTick ) := show 198 < 291 from by decide
theorem queueSample : Statement (.queueSample ) := show 199 < 291 from by decide
theorem dialSample (x0 : Nat) : Statement (.dialSample x0) := show 200 < 291 from by decide
theorem strikeFrameStart (x0 : Nat) : Statement (.strikeFrameStart x0) := show 201 < 291 from by decide
theorem strikeEpochSwitch : Statement (.strikeEpochSwitch ) := show 202 < 291 from by decide
theorem strikeEpochRetire : Statement (.strikeEpochRetire ) := show 203 < 291 from by decide
theorem strikeActivateTimeout : Statement (.strikeActivateTimeout ) := show 204 < 291 from by decide
theorem strikeWaitExpiry (x0 : Nat) : Statement (.strikeWaitExpiry x0) := show 205 < 291 from by decide
theorem headFlitGrant (x0 : Nat) (x1 : Nat) : Statement (.headFlitGrant x0 x1) := show 206 < 291 from by decide
theorem escDelayExpiry (x0 : Nat) (x1 : Nat) : Statement (.escDelayExpiry x0 x1) := show 207 < 291 from by decide
theorem ageCheck : Statement (.ageCheck ) := show 208 < 291 from by decide
theorem ejectStall (x0 : Nat) : Statement (.ejectStall x0) := show 209 < 291 from by decide
theorem flitGroupReceive (x0 : Nat) (x1 : RawGroup) : Statement (.flitGroupReceive x0 x1) := show 210 < 291 from by decide
theorem nakRepeat (x0 : Nat) : Statement (.nakRepeat x0) := show 211 < 291 from by decide
theorem train (x0 : Nat) (x1 : List Nat) : Statement (.train x0 x1) := show 212 < 291 from by decide
theorem trainingTimeout (x0 : Nat) : Statement (.trainingTimeout x0) := show 213 < 291 from by decide
theorem timeXSend (x0 : Nat) : Statement (.timeXSend x0) := show 214 < 291 from by decide
theorem timeX (x0 : Nat) (x1 : TimedSet) : Statement (.timeX x0 x1) := show 215 < 291 from by decide
theorem holdoverExpiry : Statement (.holdoverExpiry ) := show 216 < 291 from by decide
theorem fence (x0 : Nat) (x1 : List Nat) : Statement (.fence x0 x1) := show 217 < 291 from by decide
theorem sleep (x0 : PortSet) : Statement (.sleep x0) := show 218 < 291 from by decide
theorem sleepEntry (x0 : Nat) : Statement (.sleepEntry x0) := show 219 < 291 from by decide
theorem sleepWake (x0 : Nat) : Statement (.sleepWake x0) := show 220 < 291 from by decide
theorem laneSignalLoss (x0 : Nat) (x1 : Nat) (x2 : Bool) : Statement (.laneSignalLoss x0 x1 x2) := show 221 < 291 from by decide
theorem lneLinkDown (x0 : Nat) : Statement (.lneLinkDown x0) := show 222 < 291 from by decide
theorem refSignalLoss (x0 : Nat) : Statement (.refSignalLoss x0) := show 223 < 291 from by decide
theorem timeInPps (x0 : Nat) : Statement (.timeInPps x0) := show 224 < 291 from by decide
theorem timeInTod (x0 : List Byte) : Statement (.timeInTod x0) := show 225 < 291 from by decide
theorem timeOutPps : Statement (.timeOutPps ) := show 226 < 291 from by decide
theorem rootHandover : Statement .rootHandover := show 227 < 291 from by decide
theorem backupRootTakeover : Statement (.backupRootTakeover ) := show 228 < 291 from by decide
theorem paceWindow (x0 : Nat) (x1 : Nat) (x2 : Int) : Statement (.paceWindow x0 x1 x2) := show 229 < 291 from by decide
theorem fenceReport (x0 : Nat) (x1 : PortReport) : Statement (.fenceReport x0 x1) := show 230 < 291 from by decide
theorem fenceReportResend : Statement (.fenceReportResend ) := show 231 < 291 from by decide
theorem epochFlood (x0 : Nat) (x1 : FaultMap) : Statement (.epochFlood x0 x1) := show 232 < 291 from by decide
theorem epochReadyReport (x0 : ReadyReport) : Statement (.epochReadyReport x0) := show 233 < 291 from by decide
theorem switchTimeFlood (x0 : SwitchFlood) : Statement (.switchTimeFlood x0) := show 234 < 291 from by decide
theorem routeEpochSwitch : Statement (.routeEpochSwitch ) := show 235 < 291 from by decide
theorem switchReport (x0 : SwitchReport) : Statement (.switchReport x0) := show 236 < 291 from by decide
theorem routeEpochRetire : Statement (.routeEpochRetire ) := show 237 < 291 from by decide
theorem epochReportTimeout : Statement (.epochReportTimeout ) := show 238 < 291 from by decide
theorem faultMapReport (x0 : FaultMap) : Statement (.faultMapReport x0) := show 239 < 291 from by decide
theorem coordinateAnnouncement (x0 : Nat) (x1 : Nat) : Statement (.coordinateAnnouncement x0 x1) := show 240 < 291 from by decide
theorem reAimNotice (x0 : Nat) (x1 : Nat) : Statement (.reAimNotice x0 x1) := show 241 < 291 from by decide
theorem fabricCommandedReset (x0 : Nat) : Statement (.fabricCommandedReset x0) := show 242 < 291 from by decide
theorem heartbeatSend : Statement (.heartbeatSend ) := show 243 < 291 from by decide
theorem hello (x0 : TwinFrame) : Statement (.hello x0) := show 244 < 291 from by decide
theorem heartbeat (x0 : TwinFrame) : Statement (.heartbeat x0) := show 245 < 291 from by decide
theorem mirror (x0 : TwinFrame) : Statement (.mirror x0) := show 246 < 291 from by decide
theorem syncDone (x0 : TwinFrame) : Statement (.syncDone x0) := show 247 < 291 from by decide
theorem mirrorConfirm (x0 : Nat) : Statement (.mirrorConfirm x0) := show 248 < 291 from by decide
theorem heartbeatTimeout : Statement (.heartbeatTimeout ) := show 249 < 291 from by decide
theorem fatalIn : Statement (.fatalIn ) := show 250 < 291 from by decide
theorem twinStopDelayExpiry : Statement (.twinStopDelayExpiry ) := show 251 < 291 from by decide
theorem twinStopIn : Statement (.twinStopIn ) := show 252 < 291 from by decide
theorem stopConfirmTimeout : Statement (.stopConfirmTimeout ) := show 253 < 291 from by decide
theorem stopOutRelease : Statement (.stopOutRelease ) := show 254 < 291 from by decide
theorem adoptQueue (x0 : Nat) : Statement (.adoptQueue x0) := show 255 < 291 from by decide
theorem shadowWordPoll (x0 : Nat) : Statement (.shadowWordPoll x0) := show 256 < 291 from by decide
theorem faultOccurrence (x0 : List Occ) : Statement (.faultOccurrence x0) := show 257 < 291 from by decide
theorem powerOnReset : Statement (.powerOnReset ) := show 258 < 291 from by decide
theorem resetRelease (x0 : Straps) : Statement (.resetRelease x0) := show 259 < 291 from by decide
theorem warmReset : Statement (.warmReset ) := show 260 < 291 from by decide
theorem linkHalfReset (x0 : Nat) : Statement (.linkHalfReset x0) := show 261 < 291 from by decide
theorem functionLevelReset (x0 : Nat) : Statement (.functionLevelReset x0) := show 262 < 291 from by decide
theorem machineRecordRead (x0 : List Byte) : Statement (.machineRecordRead x0) := show 263 < 291 from by decide
theorem firmwareLoad : Statement (.firmwareLoad ) := show 264 < 291 from by decide
theorem coordinateDiscovery : Statement (.coordinateDiscovery ) := show 265 < 291 from by decide
theorem d3hotEntry (x0 : Nat) : Statement (.d3hotEntry x0) := show 266 < 291 from by decide
theorem d0Return (x0 : Nat) : Statement (.d0Return x0) := show 267 < 291 from by decide
theorem supplyMonitor (x0 : Nat) (x1 : Int) : Statement (.supplyMonitor x0 x1) := show 268 < 291 from by decide
theorem registrarPowerOn : Statement (.registrarPowerOn ) := show 269 < 291 from by decide
theorem tapFrame (x0 : Bool) (x1 : Bool) : Statement (.tapFrame x0 x1) := show 270 < 291 from by decide
theorem tapStopped : Statement (.tapStopped ) := show 271 < 291 from by decide
theorem energySample (x0 : EnergySample) : Statement (.energySample x0) := show 272 < 291 from by decide
theorem periodBoundary : Statement (.periodBoundary ) := show 273 < 291 from by decide
theorem seal_ : Statement (.seal_ ) := show 274 < 291 from by decide
theorem calibrationWrite (x0 : CalWrite) : Statement (.calibrationWrite x0) := show 275 < 291 from by decide
theorem calEn : Statement (.calEn ) := show 276 < 291 from by decide
theorem hostReadCompletion (x0 : Nat) (x1 : List Byte) (x2 : Option CplError) : Statement (.hostReadCompletion x0 x1 x2) := show 277 < 291 from by decide
theorem configurationRequest (x0 : Nat) (x1 : Nat) (x2 : CfgWrite) : Statement (.configurationRequest x0 x1 x2) := show 278 < 291 from by decide
theorem hostLinkTrained (x0 : Nat) (x1 : Nat) (x2 : Nat) : Statement (.hostLinkTrained x0 x1 x2) := show 279 < 291 from by decide
theorem signalDetect (x0 : Nat) (x1 : Nat) : Statement (.signalDetect x0 x1) := show 280 < 291 from by decide
theorem adapt (x0 : Nat) (x1 : List (Nat × LaneEq)) : Statement (.adapt x0 x1) := show 281 < 291 from by decide
theorem blockLock (x0 : Nat) (x1 : LaneHeads) : Statement (.blockLock x0 x1) := show 282 < 291 from by decide
theorem lneFomLow (x0 : Nat) (x1 : Nat) (x2 : Nat) : Statement (.lneFomLow x0 x1 x2) := show 283 < 291 from by decide
theorem refOk : Statement .refOk := show 284 < 291 from by decide
theorem remoteRelay (x0 : LockRelay) : Statement (.remoteRelay x0) := show 285 < 291 from by decide
theorem treeReadyReport (x0 : TreeReport) : Statement (.treeReadyReport x0) := show 286 < 291 from by decide
theorem destroyFlood (x0 : Nat) : Statement (.destroyFlood x0) := show 287 < 291 from by decide
theorem fatalInDeasserted : Statement (.fatalInDeasserted ) := show 288 < 291 from by decide
theorem twinStopInDeasserted : Statement (.twinStopInDeasserted ) := show 289 < 291 from by decide
theorem aspmL1 (x0 : Nat) (x1 : Bool) : Statement (.aspmL1 x0 x1) := show 290 < 291 from by decide

end Sys2Proof.Laws.RowNumber
end

