-- ==== Sys2Proof/Laws/Registrar.lean ====
section
/-! SUPPORT. What the Registrar's record writes leave of its one-time-programmable store. -/

namespace Sys2Proof.Machine

/-- Writing a record changes nothing in the store. -/
theorem regWrite_store (g : Registrar) (a b c d e f k) : (regWrite g a b c d e f k).store = g.store := by
  simp [regWrite]

/-- Nor does an event record. -/
theorem regEvent_store (g : Registrar) (c d : Nat) : (regEvent g c d).store = g.store := by simp [regEvent, regWrite_store]

/-- A fold of steps that each keep the store keeps it. -/
theorem foldl_store {α : Type} (f : Registrar → α → Registrar) (hf : ∀ g x, (f g x).store = g.store) (l : List α) (g : Registrar) :
    (l.foldl f g).store = g.store := by
  induction l generalizing g with
  | nil => rfl
  | cons x l ih => rw [List.foldl_cons, ih, hf]

/-- Nor do the records of a boundary. -/
theorem trafficRecords_store (t : PeriodEnd) (g : Registrar) : (trafficRecords t g).store = g.store := by
  simp only [trafficRecords]
  refine foldl_store _ (fun g x => ?_) _ _
  (repeat' split) <;> simp [regWrite_store]

/-- Nor do all the records of a period. -/
theorem periodRecords_store (e : PeriodEnd) (g : Registrar) : (periodRecords e g).store = g.store := by
  simp only [periodRecords, trafficRecords_store, regWrite_store]

/-- Nor does the Registrar's clock, or the end of a period that it brings. -/
theorem setClock_store (t : Nat) (g : Registrar) : (setClock t g).store = g.store := by
  unfold setClock
  split
  · rfl
  · split <;> rfl

/-- Nor does the clock at a sample. -/
theorem sampleClock_store (g : Registrar) : (sampleClock g).store = g.store := by
  unfold sampleClock; exact setClock_store _ _

/-- Nor does a frame of the tap. -/
theorem regFrame_store (g : Registrar) (bad : Bool) (n t : Nat) (synced : Bool) (incs : FMap Traffic) :
    (regFrame g bad n t synced incs).store = g.store := by
  unfold regFrame
  split
  · rfl
  · dsimp only
    split
    · rfl
    · have h := setClock_store t { g with quiet := 0 }
      generalize setClock t { g with quiet := 0 } = k at h ⊢
      split
      · rw [regEvent_store]; exact h
      · exact h

/-- Nor does an energy sample. -/
theorem energySample_store (s : State) (e : EnergySample) : (energySample s e).rgs.store = s.rgs.store := by
  unfold energySample
  dsimp only
  split
  · rfl
  · dsimp only
    split
    · rw [regEvent_store, sampleClock_store]; rfl
    · exact sampleClock_store _

/-- Nor does the end of a period. -/
theorem periodBoundary_store (s : State) : (periodBoundary s).rgs.store = s.rgs.store := by
  unfold periodBoundary
  split
  · split
    · exact periodRecords_store _ _
    · rfl
  · rfl

end Sys2Proof.Machine
end

