-- ==== Sys2Proof/Laws/Requests.lean ====
section
/-! SUPPORT. What a packet that is taken comes to: one lemma for requests and one for replies. -/

namespace Sys2Proof.Machine

/-- A new request gets the treatment of a fresh one. -/
theorem request_fresh {s t : State} {p : Packet} {i : CtxIds} {fn : Nat} {cached : Bool} {fresh again : State → State}
    (h : NewRequest s p i fn t) : request s p cached fresh again = fresh t := by
  obtain ⟨_, h1, h2, h3, h4, h5, _, h6, h7⟩ := h
  subst h1 h2
  simp only [request, requestFor, h4, h3, h5, h6, h7]
  simp

/-- A new message packet gets the treatment of a fresh one. -/
theorem message_fresh {s t : State} {p : Packet} {h : MsgHdr} {fn : Nat} {g : FnGate} {cached : Bool} {fresh again : State → State}
    (hm : NewMessage s p h fn g t) : requestFor s p fn g cached fresh again = fresh t := by
  obtain ⟨_, h1, h2, h4, h5, h6, h7⟩ := hm
  subst h2 h5
  have e : idsOf p.tt = msgIds h := by rw [h1]; rfl
  simp only [requestFor, e, h4]
  simp only [msgIds] at *
  simp only [h6, h7]
  simp

/-- A Carillon packet over an edge of its tree has its effect. -/
theorem car_taken {s t : State} {p : Packet} {hd : CarHdr} {ttype n : Nat} {edge : CarTree → Bool}
    {f : State → Nat → CarHdr → State} (h : NewCarPacket s p hd ttype edge n t) : carArrival s p ttype edge f = f t n hd := by
  obtain ⟨_, h1, h2, h3, h4, h5⟩ := h
  subst h3
  rw [Option.any_eq_true] at h5
  obtain ⟨x, h5, h6⟩ := h5
  simp only [carArrival, h1, h2, h4, h5, h6]
  simp

/-- A reply that is taken has its effect. -/
theorem reply_taken {s t : State} {p : Packet} {h : ConnHdr} {o : Option Nat} {act : State → State} (hr : NewReply s p h o t) :
    replyArrival s p h o act = act t := by
  obtain ⟨_, _, h3, h4, h5⟩ := hr
  subst h5
  simp only [replyArrival, h3]
  cases o with
  | none => rfl
  | some fn => simp only [Option.all_some] at h4; simp [h4]

/-- A channel that has read a well-formed instruction of the command's kind executes it. -/
theorem fetch_executes {s t : State} {ch : Nat} {j : Job} {l : List Byte} {ops : List Nat} {f : State → Nat → State}
    (h : Fetches s ch j l t) (ho : ops.contains (field (leNat l) 0 8) = true) : execute s ch ops f = f t (leNat l) := by
  obtain ⟨_, h1, h2, h3, h4, h5, h6⟩ := h
  simp only [execute, h1, h2, h3, h5, h6, ho]
  simp [Nat.not_lt.2 h4]

end Sys2Proof.Machine
end

