-- ==== Sys2Proof/Laws/Steps.lean ====
section
/-! SUPPORT. What the end of a step leaves: nothing raised, the queue and the Registrar as they were; and what a command does to a
device that is stopped. -/

namespace Sys2Proof.Machine

/-- A fold of steps that each keep a view of the state keeps it. -/
theorem foldl_keeps {α β : Type} (view : State → β) (f : State → α → State) (hf : ∀ s x, view (f s x) = view s) (l : List α)
    (s : State) : view (l.foldl f s) = view s := by
  induction l generalizing s with
  | nil => rfl
  | cons x l ih => rw [List.foldl_cons, ih, hf]

/-! ### What leaves at the end of a step -/

@[simp] theorem kick_cus (s : State) (p : Nat) : (kick s p).cus = s.cus := by
  simp only [kick, transmit]
  split
  · rfl
  · split <;> simp [setLane]

@[simp] theorem kickAll_cus (s : State) : (kickAll s).cus = s.cus := by
  unfold kickAll
  exact foldl_keeps (·.cus) (fun s (kv : Nat × LanePort) => kick s kv.1) (fun s _ => kick_cus s _) _ _

@[simp] theorem sendTwin_cus (s : State) (f : TwinFrame) : (sendTwin s f).cus = s.cus := by
  simp only [sendTwin]
  split <;> simp [modLane, setLane]

@[simp] theorem flushFrames_cus (s : State) : (flushFrames s).cus = s.cus :=
  foldl_keeps (·.cus) sendTwin sendTwin_cus _ _

@[simp] theorem setList_cus (s : State) (p : Nat) (l : List Nat) : (setList s p l).cus = s.cus := by
  simp only [setList]

@[simp] theorem relist_cus (s : State) : (relist s).cus = s.cus := by
  refine foldl_keeps (·.cus) _ (fun s g => ?_) _ _
  dsimp only
  split
  · rfl
  · split
    · rfl
    · simp [setGroup]

@[simp] theorem sendAgain_cus (s : State) (c : Nat) (u : Unans) : (sendAgain s c u).cus = s.cus := by
  simp only [sendAgain]
  split
  · rfl
  · split <;> rfl

@[simp] theorem resendSlot_cus (s : State) (c : Nat) (x : Ctx) : (resendSlot s c x).cus = s.cus := by
  simp only [resendSlot]
  (repeat' split) <;> rfl

@[simp] theorem holdContexts_cus (s : State) : (holdContexts s).cus = s.cus := by
  refine foldl_keeps (·.cus) _ (fun s kv => ?_) _ _
  dsimp only
  split
  · split
    · split <;> rfl
    · split
      · refine (foldl_keeps (·.cus) _ (fun s u => sendAgain_cus s _ u) _ _).trans ?_
        split
        · exact resendSlot_cus _ _ _
        · rfl
      · rfl
  · rfl

/-- What leaves at the end of a step raises nothing and changes nothing of the Custodian's. -/
@[simp] theorem flushOut_cus (s : State) : (flushOut s).cus = s.cus := by simp [flushOut]

/-- Once a step has ended nothing raised is left to handle. -/
@[simp] theorem settle_raised (s : State) : (settle s).cus.raised = [] := by
  unfold settle
  generalize 16 = n
  induction n generalizing s with
  | zero => rfl
  | succ n ih =>
    simp only [settleN]
    split
    · rename_i h
      simpa using h
    · exact ih _

@[simp] theorem keep_pending (s t : State) : (keep s t).pending = s.pending := rfl
@[simp] theorem keep_rgs (s t : State) : (keep s t).rgs = s.rgs := rfl
@[simp] theorem keep_cus (s t : State) : (keep s t).cus = t.cus := rfl
@[simp] theorem conclude_pending (s u : State) : (conclude s u).pending = s.pending := rfl
@[simp] theorem conclude_rgs (s u : State) : (conclude s u).rgs = s.rgs := rfl
@[simp] theorem conclude_raised (s u : State) : (conclude s u).cus.raised = [] := settle_raised u

/-! ### What each kind of command can do: the state after it -/

/-- A command of a running device leaves the state as it was where the device is stopped, else ends its step. -/
theorem live_cases {f : State → State} {s t : State} (h : live f s = .next t) :
    (running s = false ∧ t = s) ∨ (running s = true ∧ t = conclude s (f s)) := by
  simp only [live, Host.Outcome.next.injEq] at h
  split at h <;> simp_all

theorem die_cases {f : State → State} {s t : State} (h : die f s = .next t) : t = keep s (f s) := by
  simp only [die, Host.Outcome.next.injEq] at h
  exact h.symm

theorem registrar_cases {f : State → State} {s t : State} (h : registrar f s = .next t) :
    t = { f s with pending := s.pending } := by
  simp only [registrar, Host.Outcome.next.injEq] at h
  exact h.symm

theorem lane_cases {p : Nat} {f : State → State} {s t : State} (h : laneEvent p f s = .next t) :
    (running s = false ∧ t = s) ∨ (running s = true ∧ t = conclude s (f s)) := by
  simp only [laneEvent] at h
  split at h
  · exact live_cases h
  · cases h

/-- What kind of command `i` is: an event of the Registrar, one of the few that reach a stopped main die, or one that only a running
device obeys, on a port with lanes where it is an event of a lane. -/
inductive Kind (i : Instr) : Prop
  | registrar (f : State → State) (hr : registrarEvent i = true) (e : ∀ s, exec i s = registrar f s)
  | die (f : State → State) (hr : registrarEvent i = false) (ha : actsWhenStopped i = true) (e : ∀ s, exec i s = die f s)
  | live (f : State → State) (hr : registrarEvent i = false) (ha : actsWhenStopped i = false) (e : ∀ s, exec i s = live f s)
  | lane (p : Nat) (f : State → State) (hr : registrarEvent i = false) (ha : actsWhenStopped i = false)
    (e : ∀ s, exec i s = laneEvent p f s)

/-- Every command is of one of the kinds. -/
theorem kind_of (i : Instr) : Kind i := by
  cases i with
  | deviceNop fn => exact .live _ rfl rfl (exec_deviceNop fn)
  | deviceIdentify fn => exact .live _ rfl rfl (exec_deviceIdentify fn)
  | deviceConfig fn => exact .live _ rfl rfl (exec_deviceConfig fn)
  | expertEnter fn => exact .live _ rfl rfl (exec_expertEnter fn)
  | expertLeave fn => exact .live _ rfl rfl (exec_expertLeave fn)
  | fwQuery fn => exact .live _ rfl rfl (exec_fwQuery fn)
  | fwStage fn => exact .live _ rfl rfl (exec_fwStage fn)
  | fwCommit fn => exact .live _ rfl rfl (exec_fwCommit fn)
  | fwDiscard fn => exact .live _ rfl rfl (exec_fwDiscard fn)
  | queueGroupGrant fn => exact .live _ rfl rfl (exec_queueGroupGrant fn)
  | queueGroupReclaim fn => exact .live _ rfl rfl (exec_queueGroupReclaim fn)
  | queueCreate fn => exact .live _ rfl rfl (exec_queueCreate fn)
  | queueDestroy fn => exact .live _ rfl rfl (exec_queueDestroy fn)
  | queueReset fn => exact .live _ rfl rfl (exec_queueReset fn)
  | queueQuery fn => exact .live _ rfl rfl (exec_queueQuery fn)
  | eventRingCreate fn => exact .live _ rfl rfl (exec_eventRingCreate fn)
  | eventRingDestroy fn => exact .live _ rfl rfl (exec_eventRingDestroy fn)
  | eventRingClear fn => exact .live _ rfl rfl (exec_eventRingClear fn)
  | connCreate fn => exact .live _ rfl rfl (exec_connCreate fn)
  | connConnect fn => exact .live _ rfl rfl (exec_connConnect fn)
  | connDestroy fn => exact .live _ rfl rfl (exec_connDestroy fn)
  | connReset fn => exact .live _ rfl rfl (exec_connReset fn)
  | connQuery fn => exact .live _ rfl rfl (exec_connQuery fn)
  | counterAlloc fn => exact .live _ rfl rfl (exec_counterAlloc fn)
  | counterFree fn => exact .live _ rfl rfl (exec_counterFree fn)
  | counterQuery fn => exact .live _ rfl rfl (exec_counterQuery fn)
  | ctxConfig fn => exact .live _ rfl rfl (exec_ctxConfig fn)
  | regionCreate fn => exact .live _ rfl rfl (exec_regionCreate fn)
  | regionRevoke fn => exact .live _ rfl rfl (exec_regionRevoke fn)
  | regionDestroy fn => exact .live _ rfl rfl (exec_regionDestroy fn)
  | regionQuery fn => exact .live _ rfl rfl (exec_regionQuery fn)
  | regionInvalidate fn => exact .live _ rfl rfl (exec_regionInvalidate fn)
  | faultRingCreate fn => exact .live _ rfl rfl (exec_faultRingCreate fn)
  | faultRingDestroy fn => exact .live _ rfl rfl (exec_faultRingDestroy fn)
  | pageResolve fn => exact .live _ rfl rfl (exec_pageResolve fn)
  | xltConfig fn => exact .live _ rfl rfl (exec_xltConfig fn)
  | endpointCreate fn => exact .live _ rfl rfl (exec_endpointCreate fn)
  | endpointDestroy fn => exact .live _ rfl rfl (exec_endpointDestroy fn)
  | endpointQuery fn => exact .live _ rfl rfl (exec_endpointQuery fn)
  | catConfig fn => exact .live _ rfl rfl (exec_catConfig fn)
  | groupCreate fn => exact .live _ rfl rfl (exec_groupCreate fn)
  | groupDestroy fn => exact .live _ rfl rfl (exec_groupDestroy fn)
  | groupQuery fn => exact .live _ rfl rfl (exec_groupQuery fn)
  | groupRebuild fn => exact .live _ rfl rfl (exec_groupRebuild fn)
  | carConfig fn => exact .live _ rfl rfl (exec_carConfig fn)
  | routeQuery fn => exact .live _ rfl rfl (exec_routeQuery fn)
  | routeConfig fn => exact .live _ rfl rfl (exec_routeConfig fn)
  | routePortFence fn => exact .live _ rfl rfl (exec_routePortFence fn)
  | routeEpochChange fn => exact .live _ rfl rfl (exec_routeEpochChange fn)
  | routeTableRead fn => exact .live _ rfl rfl (exec_routeTableRead fn)
  | strikeQuery fn => exact .live _ rfl rfl (exec_strikeQuery fn)
  | strikeStage fn => exact .live _ rfl rfl (exec_strikeStage fn)
  | strikeActivate fn => exact .live _ rfl rfl (exec_strikeActivate fn)
  | strikeDiscard fn => exact .live _ rfl rfl (exec_strikeDiscard fn)
  | strikeFlowBind fn => exact .live _ rfl rfl (exec_strikeFlowBind fn)
  | strikeFlowUnbind fn => exact .live _ rfl rfl (exec_strikeFlowUnbind fn)
  | strikeConfig fn => exact .live _ rfl rfl (exec_strikeConfig fn)
  | laneQuery fn => exact .live _ rfl rfl (exec_laneQuery fn)
  | laneRetrain fn => exact .live _ rfl rfl (exec_laneRetrain fn)
  | laneSleepConfig fn => exact .live _ rfl rfl (exec_laneSleepConfig fn)
  | laneTableRead fn => exact .live _ rfl rfl (exec_laneTableRead fn)
  | laneConfig fn => exact .live _ rfl rfl (exec_laneConfig fn)
  | lockClaim fn => exact .live _ rfl rfl (exec_lockClaim fn)
  | lockRelease fn => exact .live _ rfl rfl (exec_lockRelease fn)
  | lockQuery fn => exact .live _ rfl rfl (exec_lockQuery fn)
  | lockGroupConfig fn => exact .live _ rfl rfl (exec_lockGroupConfig fn)
  | lockPeer fn => exact .live _ rfl rfl (exec_lockPeer fn)
  | wordLockClaim fn => exact .live _ rfl rfl (exec_wordLockClaim fn)
  | wordLockRelease fn => exact .live _ rfl rfl (exec_wordLockRelease fn)
  | twinQuery fn => exact .live _ rfl rfl (exec_twinQuery fn)
  | twinConfig fn => exact .live _ rfl rfl (exec_twinConfig fn)
  | twinBridgeRetrain fn => exact .live _ rfl rfl (exec_twinBridgeRetrain fn)
  | twinAdopt fn => exact .live _ rfl rfl (exec_twinAdopt fn)
  | counterRead fn => exact .live _ rfl rfl (exec_counterRead fn)
  | counterConfig fn => exact .live _ rfl rfl (exec_counterConfig fn)
  | userPageConfig fn => exact .live _ rfl rfl (exec_userPageConfig fn)
  | dialConfig fn => exact .live _ rfl rfl (exec_dialConfig fn)
  | dialRead fn => exact .live _ rfl rfl (exec_dialRead fn)
  | provConfig fn => exact .live _ rfl rfl (exec_provConfig fn)
  | provRead fn => exact .live _ rfl rfl (exec_provRead fn)
  | faultSevSet fn => exact .live _ rfl rfl (exec_faultSevSet fn)
  | faultQuery fn => exact .live _ rfl rfl (exec_faultQuery fn)
  | faultLogRead fn => exact .live _ rfl rfl (exec_faultLogRead fn)
  | registrarQuery fn => exact .live _ rfl rfl (exec_registrarQuery fn)
  | registrarRead fn => exact .live _ rfl rfl (exec_registrarRead fn)
  | moverChannelAlloc fn => exact .live _ rfl rfl (exec_moverChannelAlloc fn)
  | moverChannelFree fn => exact .live _ rfl rfl (exec_moverChannelFree fn)
  | moverChannelQuery fn => exact .live _ rfl rfl (exec_moverChannelQuery fn)
  | moverChannelPriority fn => exact .live _ rfl rfl (exec_moverChannelPriority fn)
  | moverConfig fn => exact .live _ rfl rfl (exec_moverConfig fn)
  | schedGroupQuery fn => exact .live _ rfl rfl (exec_schedGroupQuery fn)
  | schedGroupQuantum fn => exact .live _ rfl rfl (exec_schedGroupQuantum fn)
  | schedShaperConfig fn => exact .live _ rfl rfl (exec_schedShaperConfig fn)
  | schedPolicerConfig fn => exact .live _ rfl rfl (exec_schedPolicerConfig fn)
  | schedFnQuery fn => exact .live _ rfl rfl (exec_schedFnQuery fn)
  | schedQueueSample fn => exact .live _ rfl rfl (exec_schedQueueSample fn)
  | schedConfig fn => exact .live _ rfl rfl (exec_schedConfig fn)
  | commandTaken fn => exact .live _ rfl rfl (exec_commandTaken fn)
  | commandComplete fn status word => exact .live _ rfl rfl (exec_commandComplete fn status word)
  | commandTimeout fn => exact .live _ rfl rfl (exec_commandTimeout fn)
  | curCoreStop core fn => exact .live _ rfl rfl (exec_curCoreStop core fn)
  | adminQueueEnable fn value => exact .live _ rfl rfl (exec_adminQueueEnable fn value)
  | adminQueueDisable fn value => exact .live _ rfl rfl (exec_adminQueueDisable fn value)
  | admDb fn value => exact .live _ rfl rfl (exec_admDb fn value)
  | admMailboxRead fn => exact .live _ rfl rfl (exec_admMailboxRead fn)
  | dbProducer fn offset width value => exact .live _ rfl rfl (exec_dbProducer fn offset width value)
  | inlineStore fn offset bytes => exact .live _ rfl rfl (exec_inlineStore fn offset bytes)
  | movAppend fn value => exact .live _ rfl rfl (exec_movAppend fn value)
  | lockWordWrite fn offset value => exact .live _ rfl rfl (exec_lockWordWrite fn offset value)
  | lockWaitRead fn lock => exact .live _ rfl rfl (exec_lockWaitRead fn lock)
  | waitReadReturn lock => exact .live _ rfl rfl (exec_waitReadReturn lock)
  | portFenceWrite fn port value => exact .live _ rfl rfl (exec_portFenceWrite fn port value)
  | retrain fn port => exact .live _ rfl rfl (exec_retrain fn port)
  | msixUnmask fn vector => exact .live _ rfl rfl (exec_msixUnmask fn vector)
  | latchingRegisterRead fn x width => exact .live _ rfl rfl (exec_latchingRegisterRead fn x.bar x.offset width)
  | userPageRead fn offset width => exact .live _ rfl rfl (exec_userPageRead fn offset width)
  | registerWrite fn offset width value => exact .live _ rfl rfl (exec_registerWrite fn offset width value)
  | undefinedOffsetAccess fn offset width x => exact .live _ rfl rfl (exec_undefinedOffsetAccess fn offset width x.write x.sparse)
  | nop q => exact .live _ rfl rfl (exec_nop q)
  | put q => exact .live _ rfl rfl (exec_put q)
  | putImm q => exact .live _ rfl rfl (exec_putImm q)
  | get q => exact .live _ rfl rfl (exec_get q)
  | atomic q => exact .live _ rfl rfl (exec_atomic q)
  | counterAdd q => exact .live _ rfl rfl (exec_counterAdd q)
  | counterSet q => exact .live _ rfl rfl (exec_counterSet q)
  | barrier q => exact .live _ rfl rfl (exec_barrier q)
  | reserveLoad q => exact .live _ rfl rfl (exec_reserveLoad q)
  | condStore q => exact .live _ rfl rfl (exec_condStore q)
  | send q => exact .live _ rfl rfl (exec_send q)
  | recv q => exact .live _ rfl rfl (exec_recv q)
  | collective q => exact .live _ rfl rfl (exec_collective q)
  | moverStart q => exact .live _ rfl rfl (exec_moverStart q)
  | moverChain q => exact .live _ rfl rfl (exec_moverChain q)
  | moverAppend q => exact .live _ rfl rfl (exec_moverAppend q)
  | armedJobRelease q idx => exact .live _ rfl rfl (exec_armedJobRelease q idx)
  | headIndexPublish q => exact .live _ rfl rfl (exec_headIndexPublish q)
  | errorRingReread q => exact .live _ rfl rfl (exec_errorRingReread q)
  | eventRingReread fn ring => exact .live _ rfl rfl (exec_eventRingReread fn ring)
  | msixMessage fn ring => exact .live _ rfl rfl (exec_msixMessage fn ring)
  | faultRingReread fn => exact .live _ rfl rfl (exec_faultRingReread fn)
  | receiveRingReread ep => exact .live _ rfl rfl (exec_receiveRingReread ep)
  | localTimeout q idx => exact .live _ rfl rfl (exec_localTimeout q idx)
  | pagePendingResend c psn => exact .live _ rfl rfl (exec_pagePendingResend c psn)
  | retransmitTimeout c psn => exact .live _ rfl rfl (exec_retransmitTimeout c psn)
  | ackSend c => exact .live _ rfl rfl (exec_ackSend c)
  | fencedHoldExpiry c => exact .live _ rfl rfl (exec_fencedHoldExpiry c)
  | peerIdleExpiry c => exact .live _ rfl rfl (exec_peerIdleExpiry c)
  | contextQuarantineEnd c => exact .live _ rfl rfl (exec_contextQuarantineEnd c)
  | endpointQuarantineEnd ep => exact .live _ rfl rfl (exec_endpointQuarantineEnd ep)
  | handleQuarantineEnd handle => exact .live _ rfl rfl (exec_handleQuarantineEnd handle)
  | ejectionReserveTimeout c psn => exact .live _ rfl rfl (exec_ejectionReserveTimeout c psn)
  | reservationExpiry g => exact .live _ rfl rfl (exec_reservationExpiry g)
  | putArrival p => exact .live _ rfl rfl (exec_putArrival p)
  | strikePutArrival p => exact .live _ rfl rfl (exec_strikePutArrival p)
  | getArrival p => exact .live _ rfl rfl (exec_getArrival p)
  | atomicArrival p => exact .live _ rfl rfl (exec_atomicArrival p)
  | reserveLoadArrival p => exact .live _ rfl rfl (exec_reserveLoadArrival p)
  | condStoreArrival p => exact .live _ rfl rfl (exec_condStoreArrival p)
  | flush p => exact .live _ rfl rfl (exec_flush p)
  | skip p => exact .live _ rfl rfl (exec_skip p)
  | peerOpen p => exact .live _ rfl rfl (exec_peerOpen p)
  | peerClose p => exact .live _ rfl rfl (exec_peerClose p)
  | ack p => exact .live _ rfl rfl (exec_ack p)
  | nak p => exact .live _ rfl rfl (exec_nak p)
  | getData p => exact .live _ rfl rfl (exec_getData p)
  | atomicData p => exact .live _ rfl rfl (exec_atomicData p)
  | flushDone p => exact .live _ rfl rfl (exec_flushDone p)
  | peerOpenAck p => exact .live _ rfl rfl (exec_peerOpenAck p)
  | peerCloseAck p => exact .live _ rfl rfl (exec_peerCloseAck p)
  | msgEager p => exact .live _ rfl rfl (exec_msgEager p)
  | msgRts p => exact .live _ rfl rfl (exec_msgRts p)
  | msgRdvGet p => exact .live _ rfl rfl (exec_msgRdvGet p)
  | msgFin p => exact .live _ rfl rfl (exec_msgFin p)
  | parkedPacketCommit c msn => exact .live _ rfl rfl (exec_parkedPacketCommit c msn)
  | deliveryEnd ep id => exact .live _ rfl rfl (exec_deliveryEnd ep id)
  | carUp port p => exact .live _ rfl rfl (exec_carUp port p)
  | carDown port p => exact .live _ rfl rfl (exec_carDown port p)
  | carAck port p => exact .live _ rfl rfl (exec_carAck port p)
  | carEnd port p => exact .live _ rfl rfl (exec_carEnd port p)
  | carSlot port p => exact .live _ rfl rfl (exec_carSlot port p)
  | treeInstall m => exact .live _ rfl rfl (exec_treeInstall m)
  | treeEpochSwitch handle => exact .live _ rfl rfl (exec_treeEpochSwitch handle)
  | treeEpochRetire handle => exact .live _ rfl rfl (exec_treeEpochRetire handle)
  | treeReadyTimeout group => exact .live _ rfl rfl (exec_treeReadyTimeout group)
  | groupJoin j => exact .live _ rfl rfl (exec_groupJoin j)
  | groupCreateTimeout fn => exact .live _ rfl rfl (exec_groupCreateTimeout fn)
  | move ch => exact .live _ rfl rfl (exec_move ch)
  | moveChecked ch => exact .live _ rfl rfl (exec_moveChecked ch)
  | loop ch => exact .live _ rfl rfl (exec_loop ch)
  | wait ch => exact .live _ rfl rfl (exec_wait ch)
  | waitEnd ch => exact .live _ rfl rfl (exec_waitEnd ch)
  | signal ch => exact .live _ rfl rfl (exec_signal ch)
  | moverFence ch => exact .live _ rfl rfl (exec_moverFence ch)
  | moverEnd ch => exact .live _ rfl rfl (exec_moverEnd ch)
  | moverBeat => exact .live _ rfl rfl (exec_moverBeat)
  | descriptor ch => exact .live _ rfl rfl (exec_descriptor ch)
  | moverReadFailure ch => exact .live _ rfl rfl (exec_moverReadFailure ch)
  | injectionGrant port => exact .live _ rfl rfl (exec_injectionGrant port)
  | shaperTick => exact .die _ rfl rfl (exec_shaperTick)
  | queueSample => exact .live _ rfl rfl (exec_queueSample)
  | dialSample d => exact .live _ rfl rfl (exec_dialSample d)
  | strikeFrameStart flow => exact .live _ rfl rfl (exec_strikeFrameStart flow)
  | strikeEpochSwitch => exact .live _ rfl rfl (exec_strikeEpochSwitch)
  | strikeEpochRetire => exact .live _ rfl rfl (exec_strikeEpochRetire)
  | strikeActivateTimeout => exact .live _ rfl rfl (exec_strikeActivateTimeout)
  | strikeWaitExpiry port => exact .live _ rfl rfl (exec_strikeWaitExpiry port)
  | headFlitGrant port vc => exact .live _ rfl rfl (exec_headFlitGrant port vc)
  | escDelayExpiry port vc => exact .live _ rfl rfl (exec_escDelayExpiry port vc)
  | ageCheck => exact .live _ rfl rfl (exec_ageCheck)
  | ejectStall fn => exact .live _ rfl rfl (exec_ejectStall fn)
  | flitGroupReceive p g => exact .lane _ _ rfl rfl (exec_flitGroupReceive p g)
  | nakRepeat p => exact .lane _ _ rfl rfl (exec_nakRepeat p)
  | train p lanes => exact .lane _ _ rfl rfl (exec_train p lanes)
  | trainingTimeout p => exact .lane _ _ rfl rfl (exec_trainingTimeout p)
  | timeXSend p => exact .lane _ _ rfl rfl (exec_timeXSend p)
  | timeX p x => exact .lane _ _ rfl rfl (exec_timeX p x.lanes x.frac)
  | holdoverExpiry => exact .live _ rfl rfl (exec_holdoverExpiry)
  | fence p lanes => exact .lane _ _ rfl rfl (exec_fence p lanes)
  | sleep x => exact .lane _ _ rfl rfl (exec_sleep x.port x.lanes)
  | sleepEntry p => exact .lane _ _ rfl rfl (exec_sleepEntry p)
  | sleepWake p => exact .lane _ _ rfl rfl (exec_sleepWake p)
  | laneSignalLoss p lane lock => exact .lane _ _ rfl rfl (exec_laneSignalLoss p lane lock)
  | lneLinkDown p => exact .lane _ _ rfl rfl (exec_lneLinkDown p)
  | refSignalLoss bits => exact .live _ rfl rfl (exec_refSignalLoss bits)
  | timeInPps frac => exact .live _ rfl rfl (exec_timeInPps frac)
  | timeInTod m => exact .live _ rfl rfl (exec_timeInTod m)
  | timeOutPps => exact .live _ rfl rfl (exec_timeOutPps)
  | rootHandover => exact .live _ rfl rfl exec_rootHandover
  | backupRootTakeover => exact .live _ rfl rfl (exec_backupRootTakeover)
  | paceWindow count mv tj => exact .live _ rfl rfl (exec_paceWindow count mv tj)
  | fenceReport device r => exact .live _ rfl rfl (exec_fenceReport device r)
  | fenceReportResend => exact .live _ rfl rfl (exec_fenceReportResend)
  | epochFlood number map => exact .live _ rfl rfl (exec_epochFlood number map)
  | epochReadyReport r => exact .live _ rfl rfl (exec_epochReadyReport r)
  | switchTimeFlood f => exact .live _ rfl rfl (exec_switchTimeFlood f)
  | routeEpochSwitch => exact .live _ rfl rfl (exec_routeEpochSwitch)
  | switchReport r => exact .live _ rfl rfl (exec_switchReport r)
  | routeEpochRetire => exact .live _ rfl rfl (exec_routeEpochRetire)
  | epochReportTimeout => exact .live _ rfl rfl (exec_epochReportTimeout)
  | faultMapReport map => exact .live _ rfl rfl (exec_faultMapReport map)
  | coordinateAnnouncement port coord => exact .live _ rfl rfl (exec_coordinateAnnouncement port coord)
  | reAimNotice coord failed => exact .live _ rfl rfl (exec_reAimNotice coord failed)
  | fabricCommandedReset sender => exact .die _ rfl rfl (exec_fabricCommandedReset sender)
  | heartbeatSend => exact .live _ rfl rfl (exec_heartbeatSend)
  | hello frame => exact .live _ rfl rfl (exec_hello frame)
  | heartbeat frame => exact .live _ rfl rfl (exec_heartbeat frame)
  | mirror frame => exact .live _ rfl rfl (exec_mirror frame)
  | syncDone frame => exact .live _ rfl rfl (exec_syncDone frame)
  | mirrorConfirm seq => exact .live _ rfl rfl (exec_mirrorConfirm seq)
  | heartbeatTimeout => exact .live _ rfl rfl (exec_heartbeatTimeout)
  | fatalIn => exact .die _ rfl rfl (exec_fatalIn)
  | twinStopDelayExpiry => exact .live _ rfl rfl (exec_twinStopDelayExpiry)
  | twinStopIn => exact .die _ rfl rfl (exec_twinStopIn)
  | stopConfirmTimeout => exact .live _ rfl rfl (exec_stopConfirmTimeout)
  | stopOutRelease => exact .live _ rfl rfl (exec_stopOutRelease)
  | adoptQueue q => exact .live _ rfl rfl (exec_adoptQueue q)
  | shadowWordPoll q => exact .live _ rfl rfl (exec_shadowWordPoll q)
  | faultOccurrence occs => exact .die _ rfl rfl (exec_faultOccurrence occs)
  | powerOnReset => exact .die _ rfl rfl (exec_powerOnReset)
  | resetRelease straps => exact .die _ rfl rfl (exec_resetRelease straps)
  | warmReset => exact .die _ rfl rfl (exec_warmReset)
  | linkHalfReset half => exact .live _ rfl rfl (exec_linkHalfReset half)
  | functionLevelReset fn => exact .live _ rfl rfl (exec_functionLevelReset fn)
  | machineRecordRead bytes => exact .live _ rfl rfl (exec_machineRecordRead bytes)
  | firmwareLoad => exact .live _ rfl rfl (exec_firmwareLoad)
  | coordinateDiscovery => exact .live _ rfl rfl (exec_coordinateDiscovery)
  | d3hotEntry fn => exact .live _ rfl rfl (exec_d3hotEntry fn)
  | d0Return fn => exact .live _ rfl rfl (exec_d0Return fn)
  | supplyMonitor src value => exact .live _ rfl rfl (exec_supplyMonitor src value)
  | registrarPowerOn => exact .registrar _ rfl (exec_registrarPowerOn)
  | tapFrame lost bad => exact .registrar _ rfl (exec_tapFrame lost bad)
  | tapStopped => exact .registrar _ rfl (exec_tapStopped)
  | energySample e => exact .registrar _ rfl (exec_energySample e)
  | periodBoundary => exact .registrar _ rfl (exec_periodBoundary)
  | seal_ => exact .registrar _ rfl (exec_seal_)
  | calibrationWrite w => exact .registrar _ rfl (exec_calibrationWrite w)
  | calEn => exact .registrar _ rfl (exec_calEn)
  | hostReadCompletion addr data error => exact .live _ rfl rfl (exec_hostReadCompletion addr data error)
  | configurationRequest fn bus w => exact .die _ rfl rfl (exec_configurationRequest fn bus w)
  | hostLinkTrained half speed width => exact .live _ rfl rfl (exec_hostLinkTrained half speed width)
  | signalDetect p lane => exact .lane _ _ rfl rfl (exec_signalDetect p lane)
  | adapt p lanes => exact .lane _ _ rfl rfl (exec_adapt p lanes)
  | blockLock p x => exact .lane _ _ rfl rfl (exec_blockLock p x.lane x.heads x.skew)
  | lneFomLow p lane fom => exact .lane _ _ rfl rfl (exec_lneFomLow p lane fom)
  | refOk => exact .live _ rfl rfl exec_refOk
  | remoteRelay r => exact .live _ rfl rfl (exec_remoteRelay r)
  | treeReadyReport r => exact .live _ rfl rfl (exec_treeReadyReport r)
  | destroyFlood group => exact .live _ rfl rfl (exec_destroyFlood group)
  | fatalInDeasserted => exact .die _ rfl rfl (exec_fatalInDeasserted)
  | twinStopInDeasserted => exact .die _ rfl rfl (exec_twinStopInDeasserted)
  | aspmL1 half enter => exact .live _ rfl rfl (exec_aspmL1 half enter)

/-- What a command can answer: a next state of its kind, or the fault of a lane event on a port without lanes. -/
theorem exec_cases {i : Instr} {s t : State} (h : exec i s = .next t) :
    (registrarEvent i = true ∧ ∃ f, t = { f s with pending := s.pending } ∧ ∀ s, exec i s = registrar f s) ∨
    (registrarEvent i = false ∧ actsWhenStopped i = true ∧ ∃ f, t = keep s (f s) ∧ ∀ s, exec i s = die f s) ∨
    (registrarEvent i = false ∧ actsWhenStopped i = false ∧
      ((running s = false ∧ t = s) ∨ (running s = true ∧ ∃ u, t = conclude s u))) := by
  cases kind_of i with
  | registrar f hr e => exact .inl ⟨hr, f, registrar_cases (e s ▸ h), e⟩
  | die f hr ha e => exact .inr (.inl ⟨hr, ha, f, die_cases (e s ▸ h), e⟩)
  | live f hr ha e => exact .inr (.inr ⟨hr, ha, (live_cases (e s ▸ h)).imp id fun x => ⟨x.1, _, x.2⟩⟩)
  | lane p f hr ha e => exact .inr (.inr ⟨hr, ha, (lane_cases (e s ▸ h)).imp id fun x => ⟨x.1, _, x.2⟩⟩)

end Sys2Proof.Machine
end

