-- ==== Sys2Proof/WellFormed.lean ====
section
/-! DEFINITION. Which commands name things that the device has: every operand within the range that the spec gives it. The meanings do
not depend on it: a command out of range has no effect there. -/

namespace Sys2Proof

/-- A function by tenant number, or the companion function, 256 (R183). -/
def okFn (fn : Nat) : Bool := decide (fn ≤ 256)
def okFnOpt (fn : Option Nat) : Bool := match fn with | some n => okFn n | none => true
/-- A Movement port (R26). -/
def okPort (p : Nat) : Bool := decide (p < 16)
/-- A queue (R214), a context (R335), an endpoint (R375), a Mover channel (R447), a Dial (R566), a tree slot (R406). -/
def okQueue (q : Nat) : Bool := decide (q < 262144)
def okCtx (c : Nat) : Bool := decide (c < 65536)
def okEp (e : Nat) : Bool := decide (e < 4096)
def okChannel (c : Nat) : Bool := decide (c < 32)
def okDial (d : Nat) : Bool := decide (d < 16)
def okHandle (h : Nat) : Bool := decide (h < 512)
/-- A half of the host link (R181). -/
def okHalf (h : Nat) : Bool := decide (h < 2)
/-- A width of a host access in bits (R17). -/
def okWidth (w : Nat) : Bool := w == 8 || w == 16 || w == 32 || w == 64
/-- A lane of a port (R146), a coordinate (R22), an event ring (R233), a lock (R500), an MSI-X vector (R203), a Curator core (R276). -/
def okLane (l : Nat) : Bool := decide (l < 8)
def okCoord (c : Nat) : Bool := decide (c < 2 ^ 24)
def okRing (r : Nat) : Bool := decide (r < 64)
def okLock (l : Nat) : Bool := decide (l < 4096)
def okVector (v : Nat) : Bool := decide (v < 256)
def okCore (c : Nat) : Bool := decide (c < 4)
/-- A virtual channel (R53), a plane (R21), a byte, a 32-bit number, a device by linear number (R24). -/
def okVc (v : Nat) : Bool := decide (v < 10)
def okPlane (p : Nat) : Bool := decide (p < 2)
def ok8 (n : Nat) : Bool := decide (n < 2 ^ 8)
def ok32 (n : Nat) : Bool := decide (n < 2 ^ 32)
def okDevice (n : Nat) : Bool := decide (n < 131072)
/-- A base address register of a function (R188). -/
def okBar (b : Nat) : Bool := b == 0 || b == 2 || b == 4
/-- An offset in a BAR: at most 256 MiB (R188). -/
def okOffset (o : Nat) : Bool := decide (o < 2 ^ 28)
/-- A Strike flow (R97); 0 is no flow. -/
def okFlow (f : Nat) : Bool := decide (1 ≤ f) && decide (f < 2 ^ 16)
/-- A reservation granule is an aligned 8-byte unit (R326). -/
def okGranule (g : Nat) : Bool := g % 8 == 0
/-- Figures of merit of the four lanes of a fabric port (R167). -/
def okFoms (l : List (Nat × LaneEq)) : Bool :=
  l.length == 4 && l.all (fun x => ok8 x.1 && decide (x.2.ctle < 16) && x.2.dfe.length == 12)
/-- A TIME_IN_TOD message is 10 bytes (R125). -/
def okTod (l : List Byte) : Bool := l.length == 10
/-- The signals of LNE_REF_STATUS (R178). -/
def okRef (b : Nat) : Bool := decide (b < 16)
/-- A fault source (R542), and a supply source (R40, R547). -/
def okOccs (l : List Occ) : Bool := l.all (fun o => decide (o.src < 312) && decide (o.detail < 2 ^ 64))
def okSource (n : Nat) : Bool := decide (n < 312)
/-- A trained host link rate (R208). -/
def okSpeed (n : Nat) : Bool := decide (1 ≤ n) && decide (n ≤ 5)
/-- A trained width in lanes (R208). -/
def okLanes (w : Nat) : Bool := [1, 2, 4, 8, 16].contains w
/-- A packet: its route fields in their widths, its length that of its payload, at most 4,096 bytes (R50 to R52). -/
def okPacket (p : Packet) : Bool :=
  okCoord p.rt.dest && okCoord p.rt.src && okPlane p.rt.plane && decide (p.rt.cls ≤ 4) && okVc p.rt.vc
  && decide (p.payload.length ≤ 4096) && p.rt.len == 1 + (p.payload.length + 63) / 64
/-- Links and devices of a fault map (R77). -/
def okMap (m : FaultMap) : Bool := m.links.all (fun x => okDevice x.1 && decide (x.2 < 12)) && m.devices.all okDevice
/-- The straps' widths (R275). -/
def okStraps (x : Straps) : Bool := okPlane x.pcieMode && decide (x.timeRole < 4) && okPlane x.plane && decide (x.board < 4096)
/-- A tree install message: as many members as its size, each rank below it (R406, R434). -/
def okInstall (m : TreeInstall) : Bool := ok32 m.group && m.members.length == m.size && m.lost.all (fun r => decide (r < m.size)) && okMap m.map
/-- A join report: a rank below the size (R437). -/
def okJoin (j : JoinReport) : Bool := ok32 j.group && decide (j.rank < j.size) && okCoord j.coord
/-- An ordered set: one payload of 64 bits on each lane of the port (R158). -/
def okSet (port : Nat) (l : List Nat) : Bool := l.length == (if port = 14 then 8 else 4) && l.all (fun v => decide (v < 2 ^ 64))
/-- Sync headers are two bits each (R148). -/
def okHeads (l : List Nat) : Bool := l.all (fun h => decide (h < 4))
/-- A flit group: 21 blocks of 33 symbols, each of one of four levels, on every lane of the port (R149, R151, R152). -/
def okGroup (port : Nat) (g : RawGroup) : Bool :=
  g.lanes.length == (if port = 14 then 8 else 4)
  && g.lanes.all (fun x => x.levels.length == 693 && x.levels.all (fun v => decide (v < 4)) && decide (x.prior < 2 ^ 58))
/-- A twin frame's kind and numbers (R520). -/
def okFrame (f : TwinFrame) : Bool := decide (f.kind < 8) && ok32 f.seq && ok32 f.ack

/-- The command names only what the device has. -/
def Instr.wf (i : Instr) : Bool :=
  match i with
  | .deviceNop fn => okFn fn
  | .deviceIdentify fn => okFn fn
  | .deviceConfig fn => okFn fn
  | .expertEnter fn => okFn fn
  | .expertLeave fn => okFn fn
  | .fwQuery fn => okFn fn
  | .fwStage fn => okFn fn
  | .fwCommit fn => okFn fn
  | .fwDiscard fn => okFn fn
  | .queueGroupGrant fn => okFn fn
  | .queueGroupReclaim fn => okFn fn
  | .queueCreate fn => okFn fn
  | .queueDestroy fn => okFn fn
  | .queueReset fn => okFn fn
  | .queueQuery fn => okFn fn
  | .eventRingCreate fn => okFn fn
  | .eventRingDestroy fn => okFn fn
  | .eventRingClear fn => okFn fn
  | .connCreate fn => okFn fn
  | .connConnect fn => okFn fn
  | .connDestroy fn => okFn fn
  | .connReset fn => okFn fn
  | .connQuery fn => okFn fn
  | .counterAlloc fn => okFn fn
  | .counterFree fn => okFn fn
  | .counterQuery fn => okFn fn
  | .ctxConfig fn => okFn fn
  | .regionCreate fn => okFn fn
  | .regionRevoke fn => okFn fn
  | .regionDestroy fn => okFn fn
  | .regionQuery fn => okFn fn
  | .regionInvalidate fn => okFn fn
  | .faultRingCreate fn => okFn fn
  | .faultRingDestroy fn => okFn fn
  | .pageResolve fn => okFn fn
  | .xltConfig fn => okFn fn
  | .endpointCreate fn => okFn fn
  | .endpointDestroy fn => okFn fn
  | .endpointQuery fn => okFn fn
  | .catConfig fn => okFn fn
  | .groupCreate fn => okFn fn
  | .groupDestroy fn => okFn fn
  | .groupQuery fn => okFn fn
  | .groupRebuild fn => okFn fn
  | .carConfig fn => okFn fn
  | .routeQuery fn => okFn fn
  | .routeConfig fn => okFn fn
  | .routePortFence fn => okFn fn
  | .routeEpochChange fn => okFn fn
  | .routeTableRead fn => okFn fn
  | .strikeQuery fn => okFn fn
  | .strikeStage fn => okFn fn
  | .strikeActivate fn => okFn fn
  | .strikeDiscard fn => okFn fn
  | .strikeFlowBind fn => okFn fn
  | .strikeFlowUnbind fn => okFn fn
  | .strikeConfig fn => okFn fn
  | .laneQuery fn => okFn fn
  | .laneRetrain fn => okFn fn
  | .laneSleepConfig fn => okFn fn
  | .laneTableRead fn => okFn fn
  | .laneConfig fn => okFn fn
  | .lockClaim fn => okFn fn
  | .lockRelease fn => okFn fn
  | .lockQuery fn => okFn fn
  | .lockGroupConfig fn => okFn fn
  | .lockPeer fn => okFn fn
  | .wordLockClaim fn => okFn fn
  | .wordLockRelease fn => okFn fn
  | .twinQuery fn => okFn fn
  | .twinConfig fn => okFn fn
  | .twinBridgeRetrain fn => okFn fn
  | .twinAdopt fn => okFn fn
  | .counterRead fn => okFn fn
  | .counterConfig fn => okFn fn
  | .userPageConfig fn => okFn fn
  | .dialConfig fn => okFn fn
  | .dialRead fn => okFn fn
  | .provConfig fn => okFn fn
  | .provRead fn => okFn fn
  | .faultSevSet fn => okFn fn
  | .faultQuery fn => okFn fn
  | .faultLogRead fn => okFn fn
  | .registrarQuery fn => okFn fn
  | .registrarRead fn => okFn fn
  | .moverChannelAlloc fn => okFn fn
  | .moverChannelFree fn => okFn fn
  | .moverChannelQuery fn => okFn fn
  | .moverChannelPriority fn => okFn fn
  | .moverConfig fn => okFn fn
  | .schedGroupQuery fn => okFn fn
  | .schedGroupQuantum fn => okFn fn
  | .schedShaperConfig fn => okFn fn
  | .schedPolicerConfig fn => okFn fn
  | .schedFnQuery fn => okFn fn
  | .schedQueueSample fn => okFn fn
  | .schedConfig fn => okFn fn
  | .commandTaken fn => okFn fn
  | .commandComplete fn status _ => okFn fn && ok8 status
  | .commandTimeout fn => okFn fn
  | .curCoreStop core fn => okCore core && okFnOpt fn
  | .adminQueueEnable fn _ => okFn fn
  | .adminQueueDisable fn _ => okFn fn
  | .admDb fn _ => okFn fn
  | .admMailboxRead fn => okFn fn
  | .dbProducer fn offset width _ => okFn fn && okOffset offset && okWidth width
  | .inlineStore fn offset _ => okFn fn && okOffset offset
  | .movAppend fn _ => okFn fn
  | .lockWordWrite fn offset _ => okFn fn && okOffset offset
  | .lockWaitRead fn lock => okFn fn && okLock lock
  | .waitReadReturn lock => okLock lock
  | .portFenceWrite fn port _ => okFn fn && okPort port
  | .retrain fn port => okFn fn && okPort port
  | .msixUnmask fn vector => okFn fn && okVector vector
  | .latchingRegisterRead fn x width => okFn fn && okBar x.bar && okOffset x.offset && okWidth width
  | .userPageRead fn offset width => okFn fn && okOffset offset && okWidth width
  | .registerWrite fn offset width _ => okFn fn && okOffset offset && okWidth width
  | .undefinedOffsetAccess fn offset width _ => okFn fn && okOffset offset && okWidth width
  | .nop q => okQueue q
  | .put q => okQueue q
  | .putImm q => okQueue q
  | .get q => okQueue q
  | .atomic q => okQueue q
  | .counterAdd q => okQueue q
  | .counterSet q => okQueue q
  | .barrier q => okQueue q
  | .reserveLoad q => okQueue q
  | .condStore q => okQueue q
  | .send q => okQueue q
  | .recv q => okQueue q
  | .collective q => okQueue q
  | .moverStart q => okQueue q
  | .moverChain q => okQueue q
  | .moverAppend q => okQueue q
  | .armedJobRelease q _ => okQueue q
  | .headIndexPublish q => okQueue q
  | .errorRingReread q => okQueue q
  | .eventRingReread fn ring => okFn fn && okRing ring
  | .msixMessage fn ring => okFn fn && okRing ring
  | .faultRingReread fn => okFn fn
  | .receiveRingReread ep => okEp ep
  | .localTimeout q _ => okQueue q
  | .pagePendingResend ctx _ => okCtx ctx
  | .retransmitTimeout ctx _ => okCtx ctx
  | .ackSend ctx => okCtx ctx
  | .fencedHoldExpiry ctx => okCtx ctx
  | .peerIdleExpiry ctx => okCtx ctx
  | .contextQuarantineEnd ctx => okCtx ctx
  | .endpointQuarantineEnd ep => okEp ep
  | .handleQuarantineEnd handle => okHandle handle
  | .ejectionReserveTimeout ctx _ => okCtx ctx
  | .reservationExpiry granule => okGranule granule
  | .putArrival p => okPacket p
  | .strikePutArrival p => okPacket p
  | .getArrival p => okPacket p
  | .atomicArrival p => okPacket p
  | .reserveLoadArrival p => okPacket p
  | .condStoreArrival p => okPacket p
  | .flush p => okPacket p
  | .skip p => okPacket p
  | .peerOpen p => okPacket p
  | .peerClose p => okPacket p
  | .ack p => okPacket p
  | .nak p => okPacket p
  | .getData p => okPacket p
  | .atomicData p => okPacket p
  | .flushDone p => okPacket p
  | .peerOpenAck p => okPacket p
  | .peerCloseAck p => okPacket p
  | .msgEager p => okPacket p
  | .msgRts p => okPacket p
  | .msgRdvGet p => okPacket p
  | .msgFin p => okPacket p
  | .parkedPacketCommit ctx _ => okCtx ctx
  | .deliveryEnd ep _ => okEp ep
  | .carUp port p => okPort port && okPacket p
  | .carDown port p => okPort port && okPacket p
  | .carAck port p => okPort port && okPacket p
  | .carEnd port p => okPort port && okPacket p
  | .carSlot port p => okPort port && okPacket p
  | .treeInstall m => okInstall m
  | .treeEpochSwitch handle => okHandle handle
  | .treeEpochRetire handle => okHandle handle
  | .treeReadyTimeout group => ok32 group
  | .groupJoin j => okJoin j
  | .groupCreateTimeout fn => okFn fn
  | .move ch => okChannel ch
  | .moveChecked ch => okChannel ch
  | .loop ch => okChannel ch
  | .wait ch => okChannel ch
  | .waitEnd ch => okChannel ch
  | .signal ch => okChannel ch
  | .moverFence ch => okChannel ch
  | .moverEnd ch => okChannel ch
  | .moverBeat => true
  | .descriptor ch => okChannel ch
  | .moverReadFailure ch => okChannel ch
  | .injectionGrant port => okPort port
  | .shaperTick => true
  | .queueSample => true
  | .dialSample dial => okDial dial
  | .strikeFrameStart flow => okFlow flow
  | .strikeEpochSwitch => true
  | .strikeEpochRetire => true
  | .strikeActivateTimeout => true
  | .strikeWaitExpiry port => okPort port
  | .headFlitGrant port vc => okPort port && okVc vc
  | .escDelayExpiry port vc => okPort port && okVc vc
  | .ageCheck => true
  | .ejectStall fn => okFn fn
  | .flitGroupReceive port g => okPort port && okGroup port g
  | .nakRepeat port => okPort port
  | .train port lanes => okPort port && okSet port lanes
  | .trainingTimeout port => okPort port
  | .timeXSend port => okPort port
  | .timeX port x => okPort port && okSet port x.lanes
  | .holdoverExpiry => true
  | .fence port lanes => okPort port && okSet port lanes
  | .sleep x => okPort x.port && okSet x.port x.lanes
  | .sleepEntry port => okPort port
  | .sleepWake port => okPort port
  | .laneSignalLoss port lane _ => okPort port && okLane lane
  | .lneLinkDown port => okPort port
  | .refSignalLoss bits => okRef bits
  | .timeInPps _ => true
  | .timeInTod message => okTod message
  | .timeOutPps => true
  | .rootHandover => true
  | .backupRootTakeover => true
  | .paceWindow _ _ _ => true
  | .fenceReport device _ => okDevice device
  | .fenceReportResend => true
  | .epochFlood number map => ok32 number && okMap map
  | .epochReadyReport _ => true
  | .switchTimeFlood _ => true
  | .routeEpochSwitch => true
  | .switchReport _ => true
  | .routeEpochRetire => true
  | .epochReportTimeout => true
  | .faultMapReport map => okMap map
  | .coordinateAnnouncement port coord => okPort port && okCoord coord
  | .reAimNotice coord failed => okCoord coord && okPlane failed
  | .fabricCommandedReset sender => okCoord sender
  | .heartbeatSend => true
  | .hello frame => okFrame frame
  | .heartbeat frame => okFrame frame
  | .mirror frame => okFrame frame
  | .syncDone frame => okFrame frame
  | .mirrorConfirm seq => ok32 seq
  | .heartbeatTimeout => true
  | .fatalIn => true
  | .twinStopDelayExpiry => true
  | .twinStopIn => true
  | .stopConfirmTimeout => true
  | .stopOutRelease => true
  | .adoptQueue q => okQueue q
  | .shadowWordPoll q => okQueue q
  | .faultOccurrence occs => okOccs occs
  | .powerOnReset => true
  | .resetRelease straps => okStraps straps
  | .warmReset => true
  | .linkHalfReset half => okHalf half
  | .functionLevelReset fn => okFn fn
  | .machineRecordRead _ => true
  | .firmwareLoad => true
  | .coordinateDiscovery => true
  | .d3hotEntry fn => okFn fn
  | .d0Return fn => okFn fn
  | .supplyMonitor src _ => okSource src
  | .registrarPowerOn => true
  | .tapFrame _ _ => true
  | .tapStopped => true
  | .energySample _ => true
  | .periodBoundary => true
  | .seal_ => true
  | .calibrationWrite _ => true
  | .calEn => true
  | .hostReadCompletion _ _ _ => true
  | .configurationRequest fn bus _ => okFn fn && ok8 bus
  | .hostLinkTrained half speed width => okHalf half && okSpeed speed && okLanes width
  | .signalDetect port lane => okPort port && okLane lane
  | .adapt port foms => okPort port && okFoms foms
  | .blockLock port x => okPort port && okLane x.lane && okHeads x.heads
  | .lneFomLow port lane fom => okPort port && okLane lane && ok8 fom
  | .refOk => true
  | .remoteRelay _ => true
  | .treeReadyReport _ => true
  | .destroyFlood group => ok32 group
  | .fatalInDeasserted => true
  | .twinStopInDeasserted => true
  | .aspmL1 half _ => okHalf half

end Sys2Proof
end

