-- ==== Sys2Proof/Tests/Slice0.lean ====
section
/-! SUPPORT. States that meet the hypotheses of every statement, ill-formed commands that the checks refuse, and the spec's worked
examples. -/

open Sys2Proof.Machine

namespace Sys2Proof.Tests

/-! ### Small states -/

/-- A device that runs, its Curator READY. -/
def up : State := { State.reset with
  inReset := false, cur := { State.reset.cur with ready := true, cores := [true, true, true, true] },
  hif := { State.reset.hif with half0 := { State.reset.hif.half0 with up := true } } }

/-- A command as the Curator has taken it. -/
def cmdOf (op : Nat) (params : List Byte) : Cmd :=
  { index := 0, opcode := op, tag := 0, event := false, params := params, respAddr := 0, respLen := 0, tDoorbell := 0, tTaken := 0,
    slotAddr := 0 }

/-- The running device, which has taken a command from a function's admin queue. -/
def srvOn (s : State) (fn op : Nat) (params : List Byte) : State :=
  setAdm s fn { enable := true, st := .busy, cmd := some (cmdOf op params) }

def srv (fn op : Nat) (params : List Byte) : State := srvOn up fn op params

/-- An event ring of vector 0. -/
def ring0 : EvRing := { base := 4096, log2 := 6, vector := 0, modNs := 0, consAddr := 8192, statusAddr := 8200 }

/-- The physical function's memory may be accessed. -/
def open0 (s : State) : State := setFn s 0 (fun f => { f with present := true, bme := true })

/-- Event ring 0 of the physical function exists, and its memory may be accessed. -/
def rungs (s : State) : State := open0 (setRing s 0 ring0)

/-- Parameters of QUEUE_CREATE for queue 0. -/
def qcParams : List Byte :=
  [0, 0, 0, 0, 0, 6, 0, 0, 0, 0, 0, 0, 0, 0, 0, 0] ++ leBytes 8 65536 ++ leBytes 8 131072 ++ leBytes 8 131076 ++ leBytes 8 135168
    ++ [6, 0, 0, 0, 0, 0, 0, 0] ++ leBytes 8 131080

/-- Parameters of REGION_CREATE: one direct segment of 4,096 bytes with every right. -/
def rcParams : List Byte := leBytes 64 1 ++ leBytes 32 (4096 * 2 ^ 64 + 65536 * 2 ^ 128 + 0x3F * 2 ^ 194)

/-- Region 1: 4,096 bytes at address 65,536. -/
def region1 : Region :=
  { fn := 0, remote := false, ptRoot := 0,
    segs := [{ offset := 0, length := 4096, base := 65536, type := 0, rights := 0x3F, early := false, device := false }] }

def withRegion (s : State) : State := { s with xlt := { s.xlt with regions := [(1, region1)] } }

def frParams : List Byte := [6, 0, 0, 0, 0, 0, 0, 0] ++ leBytes 8 4096 ++ leBytes 8 8192

def stall3 : Stall := { who := .copy 7, fn := 0, q := 0, seq := some 3, since := 0, key := 256, access := 0, level := 0, va := 0, time := 0, isLocal := false }

/-- Context 0 is READY, in a machine of 4 devices in each dimension. -/
def ready0 (s : State) : State := setCtx { s with mvt := { s.mvt with shape := [3, 3, 3, 3, 3, 3] } } 0 { st := .ready }

def ccParams : List Byte := [0, 0, 1, 0, 2, 0, 0, 0, 7, 0, 0, 0, 0, 0, 0, 0]

def epParams : List Byte :=
  [3, 0, 0, 6, 0, 0, 0, 0, 4, 0, 0, 0, 4, 0, 0, 0, 4, 0, 0, 0, 0, 0, 0, 0] ++ leBytes 8 4096 ++ leBytes 8 16384

def ep3 : Endpoint := newEndpoint epParams

def withEp (s : State) : State := setEp s 3 ep3

def shParams : List Byte := [0, 1, 3, 15, 200, 0, 0, 0, 9, 0, 0, 0, 0, 0, 0, 0]

def poParams : List Byte := [0, 0, 1, 7, 200, 0, 0, 0, 9, 0, 0, 0, 0, 0, 0, 0]

def readyCtx : Ctx := { st := .ready }

/-- Context 0 of `ready0`, closed by a CONN_RESET. -/
def closed0 : State := closeConn (ready0 (srv 0 0x0203 [0, 0, 0, 0, 0, 0, 0, 0])) 0

/-- Context 0, taken by a CONN_CREATE. -/
def taken0 : State := takeContext (srv 0 0x0200 [0, 0, 0, 0, 0, 0, 0, 0]) 0 readyCtx

/-- Members 0 and 1 of a group, at coordinates 0 and 1. -/
def memberList : List Byte := [0, 0, 0, 0, 0, 0, 0, 0, 1, 0, 0, 0, 0, 0, 0, 0]

/-- GROUP_CREATE of group 7, as rank 0 of 2, with the queue 0 of group 0; its list is at address 4,096. -/
def gcParams : List Byte :=
  leBytes 4 7 ++ leBytes 4 0 ++ leBytes 4 2 ++ [0, 0, 0, 0] ++ leBytes 4 0 ++ [0, 0, 0, 0] ++ leBytes 4 (crc32c memberList) ++ leBytes 4 0
    ++ leBytes 8 4096

def shaped (s : State) : State := { s with mvt := { s.mvt with shape := [3, 3, 3, 3, 3, 3] } }

def withList (s : State) : State :=
  setQueue { shaped (open0 s) with host := memWrite [] 4096 memberList } 0 { st := .active }

def gcRead : State := (hostRead (withList (srv 0 0x0500 gcParams)) 0 4096 16).1

/-- Group 7 is active under handle 4; its root is another device. -/
def group4 : CarGroup := { st := .active, id := 7, member := true, list := [(1, 0), (0, 0)], size := 2, rank := 1, root := 1 }

def withGroup (s : State) : State := setCar (shaped s) 4 group4

def sched5 : Schedule := { id := 5, epoch := 9, participants := 1, base := 0, flows := [], windows := [] }

def binding9 : Binding := { flow := 9, spill := false, queue := 1 }

/-- Lock group 0 is configured. -/
def cfg0 (s : State) : State := { s with pal := { s.pal with groups := [(0, { configured := true })] } }

/-- The word lock at address 8 of the physical function's memory, for its requester 1. -/
def word8 : WordLock := { space := 1, fn := 0, addr := 8, id := 1 }

def wordRead : State := (readWordLock (open0 (srv 0 0x0905 [1, 1, 0, 0, 0, 0, 0, 0, 8, 0, 0, 0, 0, 0, 0, 0])) 1 0 8).1

/-- The word shows its holder. -/
def heldWord : State :=
  { open0 (srv 0 0x0906 [1, 1, 0, 0, 0, 0, 0, 0, 8, 0, 0, 0, 0, 0, 0, 0]) with host := [(8, 1)] }

/-- Queue 1 is ACTIVE and empty, with its memory at 65,536 and its words behind it. -/
def queue1 : Queue := { st := .active, base := 65536, log2 := 6, shadow := 131072, headAddr := 131076, errBase := 135168, errLog2 := 6, errCons := 131080 }

def withQueue (s : State) : State := setQueue (open0 s) 1 queue1

def chan2 : Channel := { st := .idle, queue := 1 }

/-- The partner is dead and its mirror is complete, with these queues. -/
def deadPartner (s : State) (qs : FMap MirQueue) : State :=
  { s with twn := { s.twn with state := .partnerDead, syncSent := true, syncGot := true, mirror := { s.twn.mirror with queues := qs } } }

def queueCfg9 : QueueCfg := cfgOf queue1

def mirQueue9 : MirQueue := { cfg := queueCfg9, door := 0 }

/-- An admin queue of 64 slots at address 4,096 with one command waiting. -/
def admQ0 : AdmQ := { base := 4096, head := 2048, enable := true, st := .idle, last := 1 }

/-- A parameter length that stands for memory that cannot be read. -/
def badRead : Nat := 4097

/-- One command waits in the physical function's admin queue: DEVICE_NOP, or EXPERT_ENTER with its parameters. -/
def waiting0 (n : Nat) : State :=
  setAdm { open0 up with
    host := memWrite [] 4096 (leBytes 64 (if n = 0 then 0x0100 else 0x0103 + 8 * 2 ^ 32)),
    hostErr := if n = badRead then [(4096, 4159, .unsupportedRequest)] else [] } 0 admQ0

/-- The physical function's command waits for this. -/
def waits (w : Wait) : State := setAdm up 0 { enable := true, st := .busy, cmd := some { cmdOf 0x0100 [] with wait := w } }

/-- 250 ms later. -/
def aged (s : State) : State := { s with rgl := { s.rgl with ticks := 250000000, time := 1000000000 } }

/-- Queue 1 of the physical function's group 0 is ACTIVE. -/
def bell : State := withQueue up

/-- Write combining is enabled. -/
def wcOn : State := { bell with hif := { bell.hif with wcEn := true } }

/-- A channel that runs a chain. -/
def chained : Channel := { st := .running, queue := 1, job := some 0, chain := true }

/-- A wait read of lock 3 is held; the lock's word has come, or not. -/
def heldRead (w : Option Nat) : State := { up with pal := { up.pal with waits := [{ lock := 3, fn := 0, at_ := 0, word := w }] } }

/-- Vector 3 is masked and pending. -/
def pendingVec : State := setFn (open0 up) 0 (fun f => { f with msixEn := true, pend := [3], vectors := [(3, { addr := 64, data := 5, masked := true })] })

/-- The physical function's user page shows counter 5. -/
def withPage : State := { open0 up with mon := { up.mon with pages := [(0, { en := true, slots := [5] })] } }

/-- A block in expert mode. -/
def inExpert (code : Nat) : State := { open0 up with cur := { up.cur with expert := [code] } }

def vec3 : MsixVec := { addr := 64, data := 5 + 0, masked := false }

/-- Vector 3 is pending, and not masked any more. -/
def unmasked : State := setVec pendingVec 0 3 vec3

/-- A job of queue 1 with these operands; its context, endpoint, group or channel is 0. -/
def jb (op e : Nat) : Job := { idx := 0, entries := [BitVec.ofNat 512 (e + op)], opcode := op }

/-- The job as it runs. -/
def started (j : Job) : Job := { j with st := .running }

/-- Context 0 is connected to another device. -/
def conn0 : Ctx := { st := .connected, inc := 1, pCoord := 1, pCtx := 2, pInc := 1, retryUs := 20, retryMax := 8 }

/-- Endpoint 0, with room for receives. -/
def ep0 : Endpoint := { ep3 with maxPosted := 4 }

/-- Group 0, which queue 1 is bound to. -/
def carMember : CarGroup := { st := .active, id := 7, member := true, list := [(0, 0), (1, 1)], size := 2, queue := 1 }

/-- Queue 1 holds a waiting job; a context, a peer slot, an endpoint, a counter, a group, a channel and a region are there for it. -/
def jobIn (j : Job) : State :=
  let s := setQueue (withRegion (open0 up)) 1 { queue1 with jobs := [j], cons := 1, last := 1 }
  let s := setCtx (setCtx s 0 conn0) 7 { conn0 with peer := true, pCoord := 0 }
  let s := { s with ctx := { s.ctx with counters := [(0, { owner := 0, value := 1 })] } }
  setChan (setCar (setEp s 0 ep0) 0 carMember) 0 chan2

/-- Queue 1's next entry, where nothing else is listed. -/
def posted (e : Nat) : State :=
  { setQueue (open0 up) 1 { queue1 with last := 1, inl := [(0, BitVec.ofNat 512 e)] } with host := [] }

/-- Queue 1's next entry cannot be read. -/
def unreadable : State :=
  { setQueue (open0 up) 1 { queue1 with last := 1 } with hostErr := [(65536, 65599, .poisoned)] }

def joined0 : State := enterOp (beginJob (jobIn (jb 0x40 0)) 1 0) 0 carMember 0

def op0 : CarOp := (carOp (carGroup joined0 0) 0).getD { opnum := 0, bank := 0 }

/-- Queue 1's armed job, whose counter has reached its threshold. -/
def armed0 : State :=
  let s := setQueue (open0 up) 1 { queue1 with jobs := [{ jb 0x00 0 with st := .armed }], cons := 1, last := 1 }
  { s with ctx := { s.ctx with armed := [{ q := 1, idx := 0, counter := 0, threshold := 1, released := true }] } }

def doneNop : Job := { jb 0x00 0 with st := .done }

def doneJob : State := setQueue (open0 up) 1 { queue1 with jobs := [doneNop], cons := 1, last := 1 }

/-- Event ring 0 with a mark. -/
def marked : State :=
  { rungs up with rings := { (rungs up).rings with marks := [(0, [{ source := 1, type := 1, count := 1, info := 0, time := 0, isLocal := false }])] } }

/-- Event ring 0 owes a message on vector 0, masked or not. -/
def dueRing (masked : Bool) : State :=
  setFn (setRing (open0 up) 0 { ring0 with msgDue := true }) 0 (fun f => { f with msixEn := true, fnMask := false, vectors := [(0, { addr := 64, data := 5, masked := masked })] })

def msg0 : Msg :=
  { coord := 1, plane := 0, srcEp := 2, srcFn := 0, comm := 0, tag := 9, len := 0, rdv := false, ctx := 7, inc := 1, msn := 0 }

def recv0 : Recv :=
  { q := 1, idx := 0, cookie := 5, key := 0, off := 0, len := 0, lcnt := none, coord := 1, srcEp := 2, anySource := false,
    anyTag := false, comm := 0, tag := 9 }

def rec0 : RecvRec :=
  { status := 0, unexpected := false, rdv := false, isLocal := true, msg := msg0, delivered := 0, recv := recv0, time := 0 }

/-- An endpoint with a record that waits for room. -/
def fullEp : Endpoint := { ep3 with waiting := [rec0] }

def stallJob3 : Stall := { stall3 with who := .job 1 0 }

/-- A request packet that context 0 has sent so many times. -/
def unans0 (resend : Option Nat) (sends : Nat) : Unans :=
  { psn := 0, pkt := { rt := { dest := 1, src := 0, cls := 0 }, tt := .conn { ttype := 1 } }, src := .none, sends := sends, first := 0, last := 0, resendAt := resend }

def sentOnce (resend : Option Nat) (sends : Nat) : State := setCtx (shaped up) 0 { conn0 with unans := [unans0 resend sends] }

def ack5 : PendAck := { psn := 5, early := false, late := false, at_ := 0 }

/-- Context 0 owes an acknowledgement. -/
def owing : State := setCtx { shaped up with ctx := { up.ctx with ackDelay := 4 } } 0 { conn0 with acks := [ack5] }

/-- Context 0's peer lies on the other plane, whose bridge is not READY. -/
def fencedPeer : State := setCtx up 0 { conn0 with pPlane := 1, heldFrom := some 0 }

/-- A reservation on the granule at address 64. -/
def rsv64 : Rsv := { addr := 64, fn := 0, region := 1, coord := 1, plane := 0, ctx := 2, inc := 1, value := 0, time := 0 }

/-- The header of a packet to context 0 from the context that it is connected to. -/
def hdrTo (tt : Nat) : ConnHdr :=
  { ttype := tt, srcCtx := 2, srcInc := 1, dstCtx := 0, dstInc := 1, key := if tt = 0x10 then 1 else 256, length := 8,
    operand0 := if tt = 0x04 then 3 else 0 }

def pktTo (tt : Nat) : Packet :=
  { rt := { dest := 0, src := 1, cls := if tt < 0x10 then 0 else 1 }, tt := .conn (hdrTo tt),
    payload := if tt = 0x01 || tt = 0x02 || tt = 0x12 then [1, 2, 3, 4, 5, 6, 7, 8] else [] }

/-- Context 0 is connected, and region 1 may be accessed from elsewhere. -/
def target : State :=
  setCtx { shaped (open0 up) with xlt := { up.xlt with regions := [(1, { region1 with remote := true })] } } 0 conn0

/-- As `target`, with early acknowledgement. -/
def earlyTarget : State :=
  { target with xlt := { target.xlt with regions := [(1, { region1 with remote := true, segs := region1.segs.map (fun g => { g with early := true }) })] } }

/-- An ATOMIC on region 1 that waits for its mirror record. -/
def gatedAtomic (s : State) : State := { s with twn := { s.twn with gate := [(0, .apply (pktTo 0x04) 0 [])] } }

def takenFrom (s : State) (p : Packet) : State :=
  delivered (modCtx (consume s p) 0 (fun x => { x with used := now s })) 0 p

def tookIn (tt : Nat) : State := takenFrom target (pktTo tt)

def tookEarly : State := takenFrom earlyTarget (pktTo 0x01)

/-- Bytes of region 1, from its start. -/
def piece0 (n : Nat) : List Piece := [{ local_ := false, addr := 65536, len := n }]

/-- The senior reservation of context 0's peer on the first granule of region 1. -/
def rsv0 : Rsv := { addr := 65536, fn := 0, region := 1, coord := 1, plane := 0, ctx := 2, inc := 1, value := 0, time := 0, senior := true }

def reserved : State := { target with pal := { target.pal with rsvs := [rsv0] } }

def tookRsv : State := takenFrom reserved (pktTo 0x06)

/-- A sent packet of queue 1's first job. -/
def unansJob (tt : Nat) : Unans :=
  { unans0 none 1 with pkt := { rt := { dest := 1, src := 0, cls := 0 }, tt := .conn { ttype := tt } }, q := 1, job := some (1, 0) }

def jobFor (tt : Nat) : Job :=
  if tt = 0x12 then jb 0x03 (256 * 2 ^ 128 + 8 * 2 ^ 320) else if tt = 0x13 then jb 0x04 (256 * 2 ^ 128) else jb 0x20 0

def sentType (tt : Nat) : Nat := if tt = 0x12 then 0x03 else if tt = 0x13 then 0x04 else if tt = 0x14 then 0x07 else 0x01

/-- Context 0 awaits the answer of a packet of queue 1's first job. -/
def sender (tt : Nat) : State :=
  setCtx (shaped (jobIn { jobFor tt with st := .running, pend := 1 })) 0 { conn0 with unans := [unansJob (sentType tt)] }

def tookBack (tt : Nat) : State := takenFrom (sender tt) (pktTo tt)

def hdrNak (st : Nat) : ConnHdr := { hdrTo 0x11 with status := st }

def pktNak (st : Nat) : Packet := { pktTo 0x11 with tt := .conn (hdrNak st) }

def senderNak (_st : Nat) : State := setCtx (shaped (open0 up)) 0 { conn0 with unans := [unans0 none 1] }

def tookNak (st : Nat) : State := takenFrom (senderNak st) (pktNak st)

/-- A peer slot to the device at coordinate 1. -/
def slot0 (st : CtxSt) : Ctx := { st := st, peer := true, inc := 1, pCoord := 1, pCtx := 2, pInc := 1 }

def slotted (tt : Nat) : State :=
  setCtx (shaped up) 0 (slot0 (if tt = 0x0A then .connected else if tt = 0x16 then .closing else .opening))

/-- The header of a message packet to endpoint 3 over peer slot 0. -/
def hdrMsg (tt : Nat) : MsgHdr :=
  { ttype := tt, srcCtx := 2, srcInc := 1, dstCtx := 0, dstInc := 1, dstEp := 3, srcEp := 2, tag := 9,
    msgLen := if tt = 0x31 then 9000 else 1, length := if tt = 0x32 then 8 else 1, rdvId := 4 }

def pktMsg (tt : Nat) : Packet :=
  { rt := { dest := 0, src := 1, cls := 0 }, tt := .msg (hdrMsg tt), payload := if tt = 0x30 then [7] else [] }

/-- Endpoint 3 with a posted receive. -/
def epWith (r : Recv) : Endpoint := { ep3 with posted := [r] }

def emptyEp : Endpoint := ep3

/-- A SEND of 9,000 bytes that the device at coordinate 1 fetches. -/
def sendJob : Job :=
  { jb 0x30 (256 * 2 ^ 128 + 9000 * 2 ^ 224 + 1 * 2 ^ 256) with st := .running, rdvId := some 4 }

/-- Endpoint 3, with a posted receive for a packet of type 0x30 or 0x31; a rendezvous SEND under RDV_ID 4. -/
def mailbox (tt : Nat) : State :=
  let s := setEp (setCtx (shaped (withRegion (open0 up))) 0 (slot0 .connected)) 3
    (if tt = 0x30 || tt = 0x31 then epWith recv0 else emptyEp)
  { setQueue s 1 { queue1 with jobs := [sendJob], cons := 1, last := 1 } with
    cat := { s.cat with rdv := [(4, { q := 1, idx := 0 })] } }

def tookMsg (tt : Nat) : State := takenFrom (mailbox tt) (pktMsg tt)

def tookRts : State × Nat :=
  newDelivery (commit (bump (bump (setEp (tookMsg 0x31) 3 emptyEp) 325) 331) (hdrMsg 0x31) (now (tookMsg 0x31))) 3 recv0
    (msgOf (tookMsg 0x31) (pktMsg 0x31) (hdrMsg 0x31)) false

def parkedBox : State := { mailbox 0x30 with cat := { (mailbox 0x30).cat with parked := [(0, pktMsg 0x30)] } }

def deliv0 : Delivery := { id := 0, ep := 3, recv := recv0, msg := msg0, unexpected := false, want := 0, ended := true }

/-- An ended delivery of endpoint 3. -/
def withDelivery : State := { setEp (open0 up) 3 ep3 with cat := { (setEp (open0 up) 3 ep3).cat with deliveries := [deliv0] } }

/-- A vertex whose parent lies over port 1 and whose child over port 0. -/
def tree1 : CarTree := { epoch := 2, parent := some 1, children := [(0, [1])], depth := 1, scanPos := 0, path := [] }

/-- Group 7, on its tree of epoch 2, which is bank 0. -/
def treeGroup : State := setCar (shaped (open0 up)) 4 { group4 with tree0 := some tree1, n := 0, member := false, lost := [0] }

def hdrCar (tt : Nat) : CarHdr := { ttype := tt, groupId := 7, op := 1, type := 0, rop := 0, count := 1, contrib := 1, length := 8 }

def pktCar (tt : Nat) : Packet :=
  { rt := { dest := 0, src := 1, cls := 0 }, tt := .car (hdrCar tt), payload := if tt < 0x42 then leBytes 8 5 else [] }

def downed : State :=
  modOp (openOp (consume treeGroup (pktCar 0x41)) 4 0 0) 4 0
    (fun o => { o with params := some (hdrParams (hdrCar 0x41)), down := [(0, leBytes 8 5)] })

/-- An install of tree epoch 3 of group 7, whose root is the device at coordinate 1. -/
def install2 : TreeInstall :=
  { group := 7, size := 2, abort_ := false, slots2 := false, exactMax := 0, epoch := 3, root := 1, members := [(1, 0), (0, 0)], lost := [],
    map := {} }

def staged2 : State := match stageTree treeGroup 4 install2 with | .ready t _ => t | _ => treeGroup

/-- This device runs a change of group 7's tree, and awaits the report of the device of linear number 1. -/
def master2 : TreeMaster := { install := { install2 with epoch := 2, root := 0 }, vertices := [1], start := 0 }

def mastered : State := { treeGroup with car := { treeGroup.car with masters := [(7, master2)] } }

def flooded2 : State :=
  { mastered with car := { mastered.car with
    masters := [(7, { master2 with reports := [{ group := 7, epoch := 2, coord := 1, highest := 3 }], flooded := true })] } }

def change2 : TreeChange := { epoch := 3, tree := some { tree1 with epoch := 3 }, root := 1, map := {}, t := some 0 }

def dueGroup : CarGroup := { group4 with tree0 := some tree1, change := some change2 }

/-- Group 7's next tree is due. -/
def dueTree : State := setCar (shaped up) 4 dueGroup

/-- Group 7 runs on bank 1; its old tree of bank 0 is over. -/
def oldGroup : CarGroup :=
  { group4 with member := false, bit := 1, tree0 := some tree1, tree1 := some { tree1 with epoch := 3 }, oldLive := true }

def join7 : JoinReport :=
  { group := 7, rank := 0, coord := 1, tenant := 0, size := 2, abort_ := false, slots2 := false, exactMax := 0, digest := 0 }

def create7 : CarCreate := { join := join7, queue := 1, list := [(0, 0), (1, 0)] }

/-- The physical function's GROUP_CREATE of group 7 has waited for too long. -/
def creating : State :=
  aged { setAdm up 0 { enable := true, st := .busy, cmd := some { cmdOf 0x0500 [] with wait := .groupEpoch 7 } } with
    car := { up.car with creates := [(0, create7)] } }

/-- Channel 0 executes the program at offset 0 of region 1, whose instruction `pc` is `w`; its slots 0 and 1 lie in that region too. -/
def progJob : Job :=
  { idx := 0, opcode := 0x50, st := .running,
    entries := [BitVec.ofNat 512 (0x50 + 256 * 2 ^ 128), BitVec.ofNat 512 (256 * 2 ^ 128 + 256 * 2 ^ 208 + 512 * 2 ^ 240)] }

def runs0 : Channel := { st := .running, queue := 1, job := some 0 }

def program (x : Channel) (w : Nat) : State :=
  { setChan (jobIn progJob) 0 x with host := memWrite [] (65536 + 16 * x.pc) (leBytes 16 w) }

/-- The instruction as it is read, and the state after the read. -/
def fetchOf (x : Channel) (w : Nat) : State := (movRead (program x w) 0 256 (16 * x.pc) 16 4).1

/-- A move of 8 bytes from the region's start to byte 512. -/
def move8 (alg : Option Nat) : MoveOp := { skey := 256, src := 0, dkey := 256, dst := 512, len := 8, alg := alg }

def moves0 : Channel := { runs0 with move := some (move8 none), begun := true }

/-- Channel 0 waits for 1,000 ticks, or for its EVENT flag until tick 1,000. -/
def sleeps0 (kind : Nat) : Channel :=
  { runs0 with st := .waiting, wait := some (if kind = 1 then { kind := 1, arg := 1000 } else { kind := 3, limit := some 1000 }) }

def chainJob : Job := { progJob with opcode := 0x51, entries := [BitVec.ofNat 512 (0x51 + 256 * 2 ^ 128 + 256 * 2 ^ 224 + 256 * 2 ^ 256)] }

def chain0 : Channel := { runs0 with chain := true }

/-- A descriptor of 8 bytes from the region's start to byte 512. -/
def descrBytes (n : Nat) : List Byte := leBytes 32 (512 * 2 ^ 64 + n * 2 ^ 128 + 2 ^ 192)

def chainAt (n : Nat) : State := { setChan (jobIn chainJob) 0 chain0 with host := memWrite [] 65536 (descrBytes n) }

/-- A running, synchronised device. -/
def synced (s : State) : State := { s with rgl := { s.rgl with hadSync := true } }

/-- A move of some bytes of zeros from the region's start to byte 512. -/
def bigMove (n : Nat) : MoveOp := { move8 none with len := n }

def beatAt (n : Nat) : State := program { moves0 with move := some (bigMove n) } 0

def beat1 (n : Nat) : State := modChan (takeTurn (beatAt n) 0) 0 (fun x => { x with begun := true })

def beat2 (n : Nat) : State := (translate (beat1 n) (movAccess (beat1 n) 0 256 0 (min 64 n) 1)).1

def beat3 (n : Nat) : State := (readPieces (beat2 n) 0 (piece0 (min 64 n))).1

def beat4 (n : Nat) : State := (movWrite (beat3 n) 0 256 512 (List.replicate (min 64 n) 0)).1

/-- The source read of a checked move's beat has failed. -/
def badBeat : State := program { moves0 with move := some (move8 (some 0)), readBad := true } 0

def badBeat1 : State := (movWrite badBeat 0 256 520 (trailer 0 [] stChecksum)).1

/-- Flow 9 has a window of 1,000 ticks at every 4,000 on its injection port, in the current schedule; queue 1 is bound to it. -/
def sched9 (len : Nat) : Schedule :=
  { id := 5, epoch := 9, participants := 1, base := 0, flows := [], windows := [{ offset := 0, length := len, port := 12, flow := 9, period := 4000 }] }

/-- Queue 1's frame, a PUT_IMM of one byte over context 0, and the tick of the time-stamp. -/
def frameJob : Job := { jb 0x02 (2 ^ 208) with st := .running }

def framed (len tick : Nat) (spill : Bool) : State :=
  let s := synced (jobIn frameJob)
  { s with
    epo := { s.epo with joined := true }, rgl := { s.rgl with time := 4 * tick },
    stk := { s.stk with bank0 := { sched := some (sched9 len) }, bindings := [(0, { binding9 with spill := spill })] } }

def frameBinding (spill : Bool) : Binding := { binding9 with spill := spill }

/-- The master awaits ready reports of a Strike change since tick 0, or this device its own. -/
def strikeWaits : State := aged { up with epo := { up.epo with strike := some { id := 5, epoch := 9, participants := 2, ready := [0], start := 0 } } }

/-- A STRIKE_ACTIVATE has waited since tick 0. -/
def strikeAsks : State :=
  aged { setAdm up 0 { enable := true, st := .busy, cmd := some { cmdOf 0x0702 [] with wait := .strikeSwitch } } with
    stk := { up.stk with activating := true }, epo := { up.epo with strike := some { id := 5, epoch := 9, participants := 2, ready := [0], start := 0 } } }

/-- A packet of one flit for this device, or for the device at coordinate 1. -/
def unitPkt (cls dest : Nat) : Packet := { rt := { dest := dest, src := 0, cls := cls, vc := if cls = 3 then 8 else 0 }, tt := .conn { ttype := 4 } }

def held1 (cls dest : Nat) : Held := { pkt := unitPkt cls dest, got := 1 }

/-- That packet is at the front of a buffer of injection port 12. -/
def atFront (cls dest : Nat) : State := setBuf (shaped up) (bufKey 12 (if cls = 3 then 8 else 0)) [held1 cls dest]

/-- Fabric port 10 is ACTIVE, and the current route bank's fault map is empty. -/
def withPort (s : State) : State :=
  { s with
    lne := { s.lne with ports := [(10, { tx := .active, rx := .active })] },
    mvt := { s.mvt with bank0 := { st := .current } } }

def readyPort : State := withPort (atFront 0 1)

/-- Queue 1's frame has started. -/
def startedAt : State :=
  let s := modJob (framed 1000 0 false) 1 0 (fun j => { j with flow := 9 })
  { s with sch := { s.sch with strike := [(12, [(1, 0)])] } }

/-- A PEER_CLOSE waits on port 12. -/
def maintains : State :=
  let s := synced (setCtx up 0 (slot0 .closing))
  { s with epo := { s.epo with joined := true }, sch := { s.sch with maint := [(12, [.close 0])] } }

/-- Queue 1's job has a packet to send, and its group is the head of the active list. -/
def listed : State := setList (pushItem (framed 1000 0 false) 1 (.job 0)) 12 [0]

def listedTurn : State :=
  let t := { listed with sch := { listed.sch with strike := [(12, [])] } }
  setTurn (setGroup t 0 { groupSched t 0 with deficit := (groupSched t 0).deficit + (groupSched t 0).quantum }) 12 true

/-- Schedule 5 in the idle bank is due. -/
def dueStrike : State :=
  { up with stk := { up.stk with bank1 := { sched := some sched5 }, activating := true, dueT := some 0 } }

def dueStrike2 : State := wakeCmds (turnStrike dueStrike 0) (fun _ w => w == .strikeSwitch) stOk []

def upLane : LanePort := { tx := .active, rx := .active }

/-- Fabric port 10 with its far end at coordinate 1. -/
def laneAt (l : LanePort) : State :=
  { shaped up with lne := { up.lne with ports := [(10, l)] }, mvt := { (shaped up).mvt with bank0 := { st := .current } } }

def laneUp : State := laneAt upLane

/-- A group with one head flit, of the packet that goes to this device, as the lanes carry it and decoded. -/
def sent1 : OutGroup := { seq := 0, ack := 0, nak := false, flits := [{ head := some (unitPkt 0 0) }] }

def raw1 : RawGroup := { lanes := groupLevels 10 sent1 (fun _ => 0) }

def group1 : FlitGroup := { good := true, slots := [.head (BitVec.ofNat 512 (flitLine { head := some (unitPkt 0 0) })) false] }

/-- An empty group, with or without a NAK, and a group that cannot be decoded. -/
def raw0 (nak : Bool) : RawGroup :=
  { lanes := (quadLanes 5 { seq := 0, ack := 7, nak := nak }).map (fun b => { prior := 0, levels := sendBlocks 0 b }) }

def rawBad : RawGroup := { lanes := [] }

def laneUp1 : State :=
  kick (modLane (watchHeads laneUp 10 raw1) 10 (fun l => takeAck (takeCredits l group1.credits) group1.ackSeq (now (watchHeads laneUp 10 raw1)))) 10

def nakedUp : State :=
  let g : FlitGroup := { good := true, ackSeq := 7, nak := true }
  modLane (watchHeads laneUp 10 (raw0 true)) 10 (fun l => takeAck (takeCredits l g.credits) g.ackSeq (now (watchHeads laneUp 10 (raw0 true))))

def laneUp2 : State :=
  modLane laneUp1 10 (fun l => { l with rxSeq := (l.rxSeq + 1) % 4096, nak := false, nakRow := 0, nakBad := false, owed := true })

/-- The bridge is READY. -/
def bridged : State := { up with lne := { up.lne with ports := [(14, upLane)] } }

def fenced10 : State := fault (fenceDown laneUp 10) 268 42

def fenced10m : State := { fenced10 with mvt := { fenced10.mvt with peerFence := [10] } }

/-- A port in DETECT, with signal on three lanes. -/
def trainLane : LanePort := { tx := .training, rx := .training, signal := [0, 1, 2], trainFrom := some 0 }

/-- A port in BLOCK that one lane's skew keeps there. -/
def mapLane : LanePort := { trainLane with phase := 2, lock := [0, 1, 2, 3], laneMap := [(0, 0), (1, 1), (2, 2), (3, 3)], skew := [(3, 40)] }

/-- TRAIN of the port at the other end of port 10. -/
def train11 (phase : Nat) : TrainMsg := { port := 11, coord := 0, coordValid := false, plane := 0, phase := phase }

def ident10 (phase : Nat) : LanePort := { trainLane with phase := phase, peerPort := 11 }

def failed10 : State :=
  setLane (aged (laneAt trainLane)) 10
    { trainLane with tx := .down, rx := .down, trainFrom := none, retryAt := some 350000000, failSeries := true }

def failed10w : State := wakeCmds failed10 (fun _ w => w == .laneTrain 10) stTimeout []

def timeX0 : TimeX :=
  { prevSend := 0, lastRecv := 0, exch := 1, depth := 0x3F, root := 0, rootValid := false, isParent := false, recvAt := 0 }

/-- Port 10 has exchanged times, and its far end is the parent. -/
def follower : State := { laneUp with rgl := { laneUp.rgl with rxAt := [(10, 100)], txAt := [(10, 90)] } }

def timeX1 : TimeX := { timeX0 with depth := 0 }

def followed : State := selectParent (bump (heardTime follower 10 timeX1) 395)

/-- A synchronised member without a parent. -/
def heldOver : State := { up with rgl := { up.rgl with synced := true, holdover := true, holdFrom := some 0 } }

/-- A root with its reference that knows the second. -/
def rooted : State := { up with rgl := { up.rgl with role := 1, refOk := true, tod := some 0, todNamed := true } }

/-- A root that has been without its reference for 10 s. -/
def longLost : State := { rooted with rgl := { rooted.rgl with refOk := false, refLostAt := some 0, ticks := 10000000000 } }

def rootedUp : State := { rooted with rgl := { rooted.rgl with synced := true } }

/-- After the tick's PPS edge, two units of 0.25 ns into it. -/
def edgeAt (s : State) : State := noteRef { s with rgl := { s.rgl with ppsLast := now s, ppsStray := 0, ppsAt := some (4 * now s + 2) } } 0

/-- A root whose next PPS edge comes too early, after `n` others. -/
def strayAt (n : Nat) : State := { rootedUp with rgl := { rootedUp.rgl with ppsAt := some 1, ppsStray := n } }

/-- The time-of-day message of a second. -/
def todOf (c : Nat) : List Byte := [0x7E] ++ leBytes 8 c ++ [BitVec.ofNat 8 (crc8 (leBytes 8 c))]

/-- Two devices in dimension F and none in any other. -/
def tiny (s : State) : State := { s with mvt := { s.mvt with shape := [0, 0, 0, 0, 0, 1] } }

/-- The epoch master, with a map of no fence. -/
def master0 : State := { tiny up with rgl := { up.rgl with role := 1 }, epo := { up.epo with known := true } }

def closed9 : State := { master0 with epo := { master0.epo with masterMap := { links := [(0, 10)] } } }

/-- One end has reported the link restored. -/
def halfOpen9 : State := { closed9 with epo := { closed9.epo with restored := [(across closed9 0 10, 11)] } }

/-- A device has a report that the master has not acknowledged. -/
def reporting : State :=
  aged { tiny up with rgl := { up.rgl with rootValid := true }, epo := { up.epo with reports := [{ port := 10, restored := false, sentAt := 0 }] } }

def change7 (ready : List Nat) : MasterChange := { number := 7, map := {}, flooded := 0, ready := ready }

/-- The other device is the only one that the master awaits but itself. -/
def silentOnes : List Nat := [1]

/-- A route epoch change of a machine of two devices; its map carries no fence. -/
def changing (ready : List Nat) : State := { master0 with epo := { master0.epo with change := some (change7 ready) } }

/-- T is flooded; the other device has reported its switch, or not. -/
def change7t : MasterChange := { change7 [0, 1] with t := some 0 }

def switch7 : MasterChange := { change7t with switched := [(1, 0)] }

def switching : State := { master0 with epo := { master0.epo with change := some switch7 } }

def unreported : State := { master0 with epo := { master0.epo with change := some change7t } }

def switched7 : SwitchReport := { strike := false, device := 0, number := 7, time := 0 }

/-- One participant of a Strike change has reported ready; or all have, and T is flooded. -/
def strike5 : StrikeChange := { id := 5, epoch := 9, participants := 2, ready := [0], start := 0 }

def strikeMaster : State := { master0 with epo := { master0.epo with strike := some strike5 } }

def strikeSwitching : State := { master0 with epo := { master0.epo with strike := some { strike5 with t := some 0 } } }

def strikeOver : State := sendCur (putStrike strikeSwitching { strike5 with t := some 0 } none) (some 0) (.flood (.strikeR 9 8000160))

def strikeSwitching2 : State :=
  { master0 with epo := { master0.epo with strike := some { strike5 with t := some 0, ready := [0, 1] } } }

/-- Epoch 7 is staged. -/
def stagedUp : State := stageEpoch (tiny up) 7 {}

def dueBank : State := { stagedUp with mvt := { stagedUp.mvt with dueT := some 0 } }

def dueBank1 : State := tellMap (applyMap (turnBank dueBank 1) {})

def dueBank2 : State := wakeCmds dueBank1 (fun _ w => w == .routeEpoch) stOk []

def oldBank : State :=
  { up with mvt := { up.mvt with bank0 := { st := .current }, bank1 := { st := .old }, dueR := some 0 } }

/-- The coordinate is known. -/
def placed : State := { tiny up with mvt := { (tiny up).mvt with selfValid := true } }

def rootedAt : State := { up with rgl := { up.rgl with rootValid := true, rootCoord := 1 } }

/-- A frame of the partner. -/
def frame9 (kind : Nat) : TwinFrame := { kind := kind, record := if kind = 3 then some (.grantGone 5) else none }

/-- The bridge is READY, and the partner's copy comes. -/
def mirrored : State := { bridged with twn := { up.twn with state := .syncing } }

def mirrored1 : State := pairStep (bump (hearFrame mirrored (frame9 3)) 392)

def mirrored2 : State := { mirrored1 with twn := { mirrored1.twn with rxSeq := 1 } }

/-- The partner is dead, and its queue 9 has not been adopted yet. -/
def adopts : State :=
  { open0 up with twn := { up.twn with state := .partnerDead, adopting := [9], mirror := { up.twn.mirror with queues := [(9, mirQueue9)] } } }

def adopts1 : State := { adopts with twn := { adopts.twn with adopting := [] } }

def adopts2 : State := (hostRead adopts1 0 131076 4).1

def adopts3 : State := (hostRead adopts2 0 131072 4).1

def polled : State := setQueue (open0 up) 1 { queue1 with adopted := true }

def paired9 : State := { bridged with twn := { up.twn with state := .paired } }

/-- The plane 1 twin has found a cause of death at tick 0; or it has stopped its partner then. -/
def caused : State :=
  { paired9 with twn := { paired9.twn with causeAt := some 0, stopEn := true }, brd := { up.brd with straps := { up.brd.straps with plane := 1 } } }

def stopping : State := { paired9 with twn := { paired9.twn with stopOut := true, stopAt := some 0, fatalIn := false } }

/-- The safe state. -/
def safe9 : State := { up with cus := { up.cus with safe := true } }

/-- Virtual function 3 is present. -/
def withVf : State := setFn up 3 (fun f => { f with present := true })

/-- A valid machine record: one device in every dimension. -/
def recordHead : List Byte := leBytes 4 0x4E48434D ++ [1, 0, 0, 0, 0, 0, 0, 0]

def recordBytes : List Byte := recordHead ++ leBytes 4 (crc32c (recordHead ++ [0, 0, 0, 0]))

def recordUp : State := { up with brd := { up.brd with record := true, anchorPos := 0 } }

def recordUp1 : State := loadLaneTable { recordUp with mvt := { recordUp.mvt with shape := [0, 0, 0, 0, 0, 0] } } (padTo 464 [])

def recordBad : State := loadLaneTable (fault recordUp 304 256) (padTo 464 [])

/-- The record has been read; the image in slot A is valid, or none is. -/
def boots (valid : Bool) : State :=
  { up with
    cur := { up.cur with ready := false }
    brd := { up.brd with record := true, served := false, halted := false, slotA := { st := if valid then .valid else .erased }, slotB := { st := .erased } } }

/-- The boot slot is B, and only slot A's image is valid. -/
def bootsOther : State := { boots true with brd := { (boots true).brd with bootB := true } }

/-- An anchor that knows its position. -/
def anchored : State := { tiny up with brd := { up.brd with straps := { up.brd.straps with board := 2048 } } }

/-- Lock group 0 lets the twin and other devices in, and the device at coordinate 1 has a remote slot. -/
def relayed : State :=
  { up with pal := { up.pal with
    groups := [(0, { configured := true, twin := true, remote := true })],
    slots := [(1, { coord := 1, plane := 0, tenant := 0, requester := 1 })] } }

/-- The Registrar is on and sealed with another image. -/
def forged : State := { up with rgs := { up.rgs with on := true, store := { up.rgs.store with blown := true, imageDigest := 5, sealDigest := 0 } } }

/-- The Registrar runs, and the tap has been quiet for 1 ms. -/
def quietTap : State := { up with rgs := { up.rgs with on := true, quiet := 100 } }

def sample9 : EnergySample := { coreMv := 800, coreMa := 1000, sramMv := 800, sramMa := 1000, packageMw := 50000 }

/-- The first period boundary has passed. -/
def boundary9 : State := { up with rgs := { closePeriod 4000000000 up.rgs with on := true } }

/-- The Registrar is on and sealed; and one whose flag has been set before. -/
def sealed : State := { up with rgs := { up.rgs with on := true, store := { up.rgs.store with blown := true } } }
def spoiled : State := { up with rgs := { up.rgs with on := true, store := { up.rgs.store with blown := true, tamper := true, cause := 1 } } }

/-! ### Every clause of every statement can be met -/

/-- Every clause of DeviceCommandsComplete has a state and operands that meet its hypotheses. -/
theorem witness_DeviceCommandsComplete :
    (∃ (s : State) (fn : Nat) (c : Cmd), Serves s fn 0x0100 c) ∧
    (∃ (s : State) (fn : Nat) (c : Cmd), Serves s fn 0x0101 c) ∧
    (∃ (s : State) (fn : Nat) (c : Cmd), Serves s fn 0x0102 c ∧ byteAt c.params 0 = 0 ∧ zeroAt c.params 1 3 = true ∧
      zeroAt c.params 12 4 = true ∧ numAt c.params 8 4 ≠ 0 ∧ wholeFields (numAt c.params 8 4) [(0, 4), (4, 1)] = true ∧
      ((field (numAt c.params 8 4) 0 4 ≠ 0 → 1 ≤ field (numAt c.params 4 4) 0 4 ∧ field (numAt c.params 4 4) 0 4 ≤ 8 ∧
        vfEnabled s = false)) ∧ isExpert s 0x02 = false) ∧
    (∃ (s : State) (fn : Nat) (c : Cmd), Serves s fn 0x0102 c ∧ byteAt c.params 0 = 1 ∧ zeroAt c.params 1 3 = true ∧
      zeroAt c.params 12 4 = true ∧ numAt c.params 8 4 ≠ 0 ∧ wholeFields (numAt c.params 8 4) [(0, 2), (2, 1), (8, 8)] = true ∧
      ((field (numAt c.params 8 4) 0 2 ≠ 0 → field (numAt c.params 4 4) 0 2 ≠ 3)) ∧ isExpert s 0x16 = false) ∧
    (∃ (s : State) (fn : Nat) (c : Cmd), Serves s fn 0x0102 c ∧ byteAt c.params 0 = 2 ∧ zeroAt c.params 1 3 = true ∧
      zeroAt c.params 12 4 = true ∧ numAt c.params 8 4 ≠ 0 ∧ wholeFields (numAt c.params 8 4) [(0, 16), (16, 1)] = true ∧
      isExpert s 0x12 = false) ∧
    (∃ (s : State) (fn : Nat) (c : Cmd), Serves s fn 0x0103 c ∧ byteAt c.params 0 ∈ expertCodes ∧ zeroAt c.params 1 7 = true ∧
      isExpert s (byteAt c.params 0) = false ∧ writerBefore s fn c (byteAt c.params 0) = false) ∧
    (∃ (s : State) (fn : Nat) (c : Cmd), Serves s fn 0x0104 c ∧ byteAt c.params 0 ∈ expertCodes ∧ zeroAt c.params 1 7 = true) ∧
    (∃ (s : State) (fn : Nat) (c : Cmd), Serves s fn 0x0105 c) ∧
    (∃ (s : State) (fn : Nat) (c : Cmd), Serves s fn 0x0106 c ∧ numAt c.params 0 4 % 16 = 0 ∧ numAt c.params 4 2 % 16 = 0 ∧
      16 ≤ numAt c.params 4 2 ∧ numAt c.params 4 2 ≤ 4080 ∧ byteAt c.params 6 = 0 ∧ zeroAt c.params 7 9 = true ∧
      s.cur.committed = false ∧ numAt c.params 0 4 + numAt c.params 4 2 ≤ 4194304) ∧
    (∃ (s : State) (fn : Nat) (c : Cmd) (x : FwSlot), Serves s fn 0x0106 c ∧ numAt c.params 0 4 % 16 = 0 ∧
      numAt c.params 4 2 % 16 = 0 ∧ 16 ≤ numAt c.params 4 2 ∧ numAt c.params 4 2 ≤ 4080 ∧ byteAt c.params 6 = 1 ∧
      zeroAt c.params 7 9 = true ∧ s.cur.committed = false ∧ numAt c.params 0 4 + numAt c.params 4 2 ≤ 4194304 ∧
      stagedSlot s (numAt c.params 0 4) (c.params.drop 16) = x) ∧
    (∃ (s : State) (fn : Nat) (c : Cmd), Serves s fn 0x0107 c ∧ byteAt c.params 0 ≤ 1 ∧ zeroAt c.params 1 7 = true ∧ s.cur.staged = true) ∧
    (∃ (s : State) (fn : Nat) (c : Cmd), Serves s fn 0x0108 c ∧ (s.cur.staged || s.cur.committed) = true) :=
  ⟨⟨(srv 0 0x0100 []),
    (0),
    (cmdOf 0x0100 []), by decide⟩,
   ⟨(srv 0 0x0101 []),
    (0),
    (cmdOf 0x0101 []), by decide⟩,
   ⟨(srv 0 0x0102 [0, 0, 0, 0, 0x13, 0, 0, 0, 0x1F, 0, 0, 0, 0, 0, 0, 0]),
    (0),
    (cmdOf 0x0102 [0, 0, 0, 0, 0x13, 0, 0, 0, 0x1F, 0, 0, 0, 0, 0, 0, 0]), by decide⟩,
   ⟨(srv 0 0x0102 [1, 0, 0, 0, 0x02, 9, 0, 0, 0x07, 0xFF, 0, 0, 0, 0, 0, 0]),
    (0),
    (cmdOf 0x0102 [1, 0, 0, 0, 0x02, 9, 0, 0, 0x07, 0xFF, 0, 0, 0, 0, 0, 0]), by decide⟩,
   ⟨(srv 0 0x0102 [2, 0, 0, 0, 0x02, 9, 0, 0, 0xFF, 0xFF, 1, 0, 0, 0, 0, 0]),
    (0),
    (cmdOf 0x0102 [2, 0, 0, 0, 0x02, 9, 0, 0, 0xFF, 0xFF, 1, 0, 0, 0, 0, 0]), by decide⟩,
   ⟨(srv 0 0x0103 [0x12, 0, 0, 0, 0, 0, 0, 0]),
    (0),
    (cmdOf 0x0103 [0x12, 0, 0, 0, 0, 0, 0, 0]), by decide⟩,
   ⟨(srv 0 0x0104 [0x12, 0, 0, 0, 0, 0, 0, 0]),
    (0),
    (cmdOf 0x0104 [0x12, 0, 0, 0, 0, 0, 0, 0]), by decide⟩,
   ⟨(srv 0 0x0105 []),
    (0),
    (cmdOf 0x0105 []), by decide⟩,
   ⟨(srv 0 0x0106 ([0, 0, 0, 0, 16, 0, 0, 0, 0, 0, 0, 0, 0, 0, 0, 0] ++ List.replicate 16 7)),
    (0),
    (cmdOf 0x0106 ([0, 0, 0, 0, 16, 0, 0, 0, 0, 0, 0, 0, 0, 0, 0, 0] ++ List.replicate 16 7)), by decide⟩,
   ⟨(srv 0 0x0106 ([0, 0, 0, 0, 16, 0, 1, 0, 0, 0, 0, 0, 0, 0, 0, 0] ++ List.replicate 16 7)),
    (0),
    (cmdOf 0x0106 ([0, 0, 0, 0, 16, 0, 1, 0, 0, 0, 0, 0, 0, 0, 0, 0] ++ List.replicate 16 7)),
    (stagedSlot (srv 0 0x0106 ([0, 0, 0, 0, 16, 0, 1, 0, 0, 0, 0, 0, 0, 0, 0, 0] ++ List.replicate 16 7)) 0 (List.replicate 16 7)), by decide⟩,
   ⟨{ (srv 0 0x0107 [1, 0, 0, 0, 0, 0, 0, 0]) with cur := { ((srv 0 0x0107 [1, 0, 0, 0, 0, 0, 0, 0])).cur with staged := true } },
    (0),
    (cmdOf 0x0107 [1, 0, 0, 0, 0, 0, 0, 0]), by decide⟩,
   ⟨{ (srv 0 0x0108 []) with cur := { ((srv 0 0x0108 [])).cur with staged := true } },
    (0),
    (cmdOf 0x0108 []), by decide⟩⟩

/-- Every clause of QueueCommandsComplete has a state and operands that meet its hypotheses. -/
theorem witness_QueueCommandsComplete :
    (∃ (s : State) (fn : Nat) (c : Cmd), Serves s fn 0x0180 c ∧ numAt c.params 0 4 ≤ 65535 ∧ byteAt c.params 4 ≠ 0 ∧
      zeroAt c.params 6 2 = true ∧ fmFind s.hif.grants (numAt c.params 0 4) = none ∧
      s.hif.grants.any (fun kv => kv.2 == (byteAt c.params 4, byteAt c.params 5)) = false ∧ groupIdle s (numAt c.params 0 4) = true ∧
      (onPartner s && (partnerGroup s (numAt c.params 0 4) || s.twn.mirror.grants.any (fun kv => kv.1 == numAt c.params 0 4 || kv.2 ==
        (byteAt c.params 4, byteAt c.params 5)))) = false ∧ isExpert s 0x24 = false) ∧
    (∃ (s : State) (fn : Nat) (c : Cmd), Serves s fn 0x0181 c ∧ numAt c.params 0 4 ≤ 65535 ∧ zeroAt c.params 4 4 = true ∧
      fmFind s.hif.grants (numAt c.params 0 4) ≠ none ∧ groupIdle s (numAt c.params 0 4) = true ∧ isExpert s 0x24 = false) ∧
    (∃ (s : State) (fn : Nat) (c : Cmd) (g : Nat) (q : Nat) (u : State), (Serves s fn 0x0182 c ∧ queueCreateOk c.params = true ∧
      groupOf s fn (numAt c.params 0 4) = .inl g ∧ q = 4 * g + byteAt c.params 4 ∧
      fmFind s.rings.rings (evKey fn (byteAt c.params 7)) ≠ none ∧ (queueOf s q).st = .disabled ∧
      (onPartner s && partnerGroup s g) = false) ∧ initQueueMemory s fn (newQueue fn c.params) = (u, true)) ∧
    (∃ (s : State) (fn : Nat) (c : Cmd) (q : Nat), Serves s fn 0x0185 c ∧ namedQueue s fn c.params = .inl q ∧
      (queueOf s q).st ≠ .disabled) ∧
    (∃ (s : State) (fn : Nat) (c : Cmd) (u : State), (Serves s fn 0x0186 c ∧ byteAt c.params 0 ≤ 63 ∧ 6 ≤ byteAt c.params 1 ∧
      byteAt c.params 1 ≤ 16 ∧ numAt c.params 2 2 < vectorsOf s fn ∧ zeroAt c.params 6 2 = true ∧ numAt c.params 8 8 % 4096 = 0 ∧
      numAt c.params 16 8 % 4 = 0 ∧ numAt c.params 24 8 % 8 = 0 ∧ fmFind s.rings.rings (evKey fn (byteAt c.params 0)) = none ∧
      s.rings.rings.length < 4096 ∧ (onPartner s && (fmFind s.twn.mirror.rings (evKey fn (byteAt c.params 0))).isSome) = false) ∧
      initRingMemory s fn (newRing c.params) = (u, true)) ∧
    (∃ (s : State) (fn : Nat) (c : Cmd), Serves s fn 0x0187 c ∧ byteAt c.params 0 ≤ 63 ∧ zeroAt c.params 1 7 = true ∧
      fmFind s.rings.rings (evKey fn (byteAt c.params 0)) ≠ none ∧
      s.rings.queues.any (fun kv => kv.2.st != .disabled && kv.2.fn == fn && kv.2.evr == byteAt c.params 0) = false) ∧
    (∃ (s : State) (fn : Nat) (c : Cmd) (r : EvRing) (r2 : EvRing), Serves s fn 0x0188 c ∧ byteAt c.params 0 ≤ 63 ∧
      zeroAt c.params 1 7 = true ∧ fmFind s.rings.rings (evKey fn (byteAt c.params 0)) = some r ∧
      clearedRing s (evKey fn (byteAt c.params 0)) r = r2) :=
  ⟨⟨(srv 0 0x0180 [5, 0, 0, 0, 1, 0, 0, 0]),
    (0),
    (cmdOf 0x0180 [5, 0, 0, 0, 1, 0, 0, 0]), by decide⟩,
   ⟨{ (srv 0 0x0181 [5, 0, 0, 0, 0, 0, 0, 0]) with
      hif := { ((srv 0 0x0181 [5, 0, 0, 0, 0, 0, 0, 0])).hif with grants := [(5, (1, 0))] } },
    (0),
    (cmdOf 0x0181 [5, 0, 0, 0, 0, 0, 0, 0]), by decide⟩,
   ⟨(rungs ((srv 0 0x0182 qcParams))),
    (0),
    (cmdOf 0x0182 qcParams),
    (0),
    (0),
    ((initQueueMemory (rungs (srv 0 0x0182 qcParams)) 0 (newQueue 0 qcParams)).1), by decide, Prod.ext rfl (by decide)⟩,
   ⟨(setQueue ((srv 0 0x0185 [0, 0, 0, 0, 1, 0, 0, 0])) 1 { st := .active }),
    (0),
    (cmdOf 0x0185 [0, 0, 0, 0, 1, 0, 0, 0]),
    (1), by decide⟩,
   ⟨(open0 ((srv 0 0x0186 [0, 6, 0, 0, 0, 0, 0, 0, 0, 16, 0, 0, 0, 0, 0, 0, 0, 32, 0, 0, 0, 0, 0, 0, 8, 32, 0, 0, 0, 0, 0, 0]))),
    (0),
    (cmdOf 0x0186 [0, 6, 0, 0, 0, 0, 0, 0, 0, 16, 0, 0, 0, 0, 0, 0, 0, 32, 0, 0, 0, 0, 0, 0, 8, 32, 0, 0, 0, 0, 0, 0]),
    ((initRingMemory (open0 (srv 0 0x0186 [0, 6, 0, 0, 0, 0, 0, 0, 0, 16, 0, 0, 0, 0, 0, 0, 0, 32, 0, 0, 0, 0, 0, 0, 8, 32, 0, 0, 0, 0,
        0, 0])) 0 (newRing [0, 6, 0, 0, 0, 0, 0, 0, 0, 16, 0, 0, 0, 0, 0, 0, 0, 32, 0, 0, 0, 0, 0, 0, 8, 32, 0, 0, 0, 0, 0, 0])).1), by decide, Prod.ext rfl (by decide)⟩,
   ⟨(rungs ((srv 0 0x0187 [0, 0, 0, 0, 0, 0, 0, 0]))),
    (0),
    (cmdOf 0x0187 [0, 0, 0, 0, 0, 0, 0, 0]), by decide⟩,
   ⟨(rungs ((srv 0 0x0188 [0, 0, 0, 0, 0, 0, 0, 0]))),
    (0),
    (cmdOf 0x0188 [0, 0, 0, 0, 0, 0, 0, 0]),
    (ring0),
    (ring0), by decide⟩⟩

/-- Every clause of RegionCommandsComplete has a state and operands that meet its hypotheses. -/
theorem witness_RegionCommandsComplete :
    (∃ (s : State) (fn : Nat) (c : Cmd) (r : Region) (i : Nat), Serves s fn 0x0300 c ∧ regionCreateOk c.params = true ∧
      newRegion c.params = r ∧ (if fn = 0 then enabledFn s r.fn else r.fn == fn) = true ∧ regionFits s r = true ∧ longestFree s = some i) ∧
    (∃ (s : State) (fn : Nat) (c : Cmd) (i : Nat) (r : Region) (u : State) (t : State) (v : State) (st : Nat), (Serves s fn 0x0301 c ∧
      zeroAt c.params 4 4 = true ∧ namedRegion s fn (numAt c.params 0 4) = .inl (i, r) ∧ revokeStalls (revokeIndex s i) i = u ∧
      mirror u (.region i (regionCfg (genOf u i) r)) = t ∧ t.twn.gate.any (fun g => accesses t fn (some i) g.2) = false) ∧
      endAccesses t fn (some i) false = (v, st)) ∧
    (∃ (s : State) (fn : Nat) (c : Cmd) (i : Nat) (r : Region) (u : State) (t : State), Serves s fn 0x0301 c ∧
      zeroAt c.params 4 4 = true ∧ namedRegion s fn (numAt c.params 0 4) = .inl (i, r) ∧ revokeStalls (revokeIndex s i) i = u ∧
      mirror u (.region i (regionCfg (genOf u i) r)) = t ∧ t.twn.gate.any (fun g => accesses t fn (some i) g.2) = true) ∧
    (∃ (s : State) (fn : Nat) (c : Cmd) (i : Nat) (r : Region) (t : State) (v : State) (st : Nat), (Serves s fn 0x0302 c ∧
      zeroAt c.params 4 4 = true ∧ namedRegion s fn (numAt c.params 0 4) = .inl (i, r) ∧ revokeStalls (revokeIndex s i) i = t ∧
      t.twn.gate.any (fun g => accesses t fn (some i) g.2) = false) ∧ endAccesses t fn (some i) true = (v, st)) ∧
    (∃ (s : State) (fn : Nat) (c : Cmd) (i : Nat) (r : Region) (t : State), Serves s fn 0x0302 c ∧ zeroAt c.params 4 4 = true ∧
      namedRegion s fn (numAt c.params 0 4) = .inl (i, r) ∧ revokeStalls (revokeIndex s i) i = t ∧
      t.twn.gate.any (fun g => accesses t fn (some i) g.2) = true) ∧
    (∃ (s : State) (fn : Nat) (c : Cmd) (i : Nat) (r : Region), Serves s fn 0x0303 c ∧ zeroAt c.params 4 4 = true ∧
      namedRegion s fn (numAt c.params 0 4) = .inl (i, r)) ∧
    (∃ (s : State) (fn : Nat) (c : Cmd) (i : Nat) (r : Region) (t : State) (v : State) (st : Nat), (Serves s fn 0x0304 c ∧
      byteAt c.params 4 = 0 ∧ zeroAt c.params 5 3 = true ∧ numAt c.params 8 8 + numAt c.params 16 8 ≤ 2 ^ 48 ∧
      namedRegion s fn (numAt c.params 0 4) = .inl (i, r) ∧
      bump (dropCache s i (fun e => numAt c.params 16 8 = 0 || cachedIn r (numAt c.params 8 8) (numAt c.params 16 8) e)) 296 = t ∧
      t.twn.gate.any (fun g => accesses t fn (some i) g.2) = false) ∧ endAccesses t fn (some i) false = (v, st)) ∧
    (∃ (s : State) (fn : Nat) (c : Cmd) (i : Nat) (r : Region) (t : State), Serves s fn 0x0304 c ∧ byteAt c.params 4 = 0 ∧
      zeroAt c.params 5 3 = true ∧ numAt c.params 8 8 + numAt c.params 16 8 ≤ 2 ^ 48 ∧
      namedRegion s fn (numAt c.params 0 4) = .inl (i, r) ∧
      bump (dropCache s i (fun e => numAt c.params 16 8 = 0 || cachedIn r (numAt c.params 8 8) (numAt c.params 16 8) e)) 296 = t ∧
      t.twn.gate.any (fun g => accesses t fn (some i) g.2) = true) ∧
    (∃ (s : State) (fn : Nat) (c : Cmd) (t : State) (v : State) (st : Nat), (Serves s fn 0x0304 c ∧ byteAt c.params 4 = 1 ∧
      zeroAt c.params 5 3 = true ∧
      bump (s.xlt.regions.foldl (fun s kv => if kv.2.fn = fn then dropCache s kv.1 (fun _ => true) else s) s) 296 = t ∧
      t.twn.gate.any (fun g => accesses t fn none g.2) = false) ∧ endAccesses t fn none false = (v, st)) ∧
    (∃ (s : State) (fn : Nat) (c : Cmd) (t : State), Serves s fn 0x0304 c ∧ byteAt c.params 4 = 1 ∧ zeroAt c.params 5 3 = true ∧
      bump (s.xlt.regions.foldl (fun s kv => if kv.2.fn = fn then dropCache s kv.1 (fun _ => true) else s) s) 296 = t ∧
      t.twn.gate.any (fun g => accesses t fn none g.2) = true) ∧
    (∃ (s : State) (fn : Nat) (c : Cmd) (r : FaultRing) (u : State), (Serves s fn 0x0305 c ∧ 6 ≤ byteAt c.params 0 ∧
      byteAt c.params 0 ≤ 16 ∧ zeroAt c.params 1 7 = true ∧ numAt c.params 8 8 % 4096 = 0 ∧ numAt c.params 16 8 % 4 = 0 ∧
      faultRingOf s fn = none ∧ (onPartner s && (fmFind s.twn.mirror.faultRings fn).isSome) = false ∧ newFaultRing c.params = r) ∧
      initFaultRing s fn r = (u, true)) ∧
    (∃ (s : State) (fn : Nat) (c : Cmd) (u : State), Serves s fn 0x0306 c ∧ faultRingOf s fn ≠ none ∧ zeroAt c.params 0 8 = true ∧
      u = { s with xlt := { s.xlt with faultRings := fmErase s.xlt.faultRings fn } }) ∧
    (∃ (s : State) (fn : Nat) (c : Cmd) (x : Stall), Serves s fn 0x0307 c ∧ byteAt c.params 4 ≤ 1 ∧ zeroAt c.params 5 3 = true ∧
      s.xlt.stalls.find? (fun x => x.fn == fn && x.seq == some (numAt c.params 0 4)) = some x) ∧
    (∃ (s : State) (fn : Nat) (c : Cmd), Serves s fn 0x0308 c ∧ byteAt c.params 2 ≤ 3 ∧ zeroAt c.params 3 5 = true ∧
      (bitAt (byteAt c.params 2) 1 && decide (byteAt c.params 1 > 1)) = false ∧ (byteAt c.params 2 != 0 && isExpert s 0x0A) = false) :=
  ⟨⟨(srv 0 0x0300 rcParams),
    (0),
    (cmdOf 0x0300 rcParams),
    (newRegion rcParams),
    (1), by decide +kernel⟩,
   ⟨(withRegion (srv 0 0x0301 [0, 1, 0, 0, 0, 0, 0, 0])),
    (0),
    (cmdOf 0x0301 [0, 1, 0, 0, 0, 0, 0, 0]),
    (1),
    (region1),
    (revokeStalls (revokeIndex (withRegion (srv 0 0x0301 [0, 1, 0, 0, 0, 0, 0, 0])) 1) 1),
    (mirror (revokeStalls (revokeIndex (withRegion (srv 0 0x0301 [0, 1, 0, 0, 0, 0, 0, 0])) 1) 1) (.region 1 (regionCfg (genOf
        (revokeStalls (revokeIndex (withRegion (srv 0 0x0301 [0, 1, 0, 0, 0, 0, 0, 0])) 1) 1) 1) region1))),
    ((endAccesses (mirror (revokeStalls (revokeIndex (withRegion (srv 0 0x0301 [0, 1, 0, 0, 0, 0, 0, 0])) 1) 1) (.region 1 (regionCfg
        (genOf (revokeStalls (revokeIndex (withRegion (srv 0 0x0301 [0, 1, 0, 0, 0, 0, 0, 0])) 1) 1) 1) region1))) 0 (some 1) false).1),
    (stOk), by decide +kernel, Prod.ext rfl (by decide +kernel)⟩,
   ⟨(gatedAtomic (withRegion (srv 0 0x0301 [0, 1, 0, 0, 0, 0, 0, 0]))),
    (0),
    (cmdOf 0x0301 [0, 1, 0, 0, 0, 0, 0, 0]),
    (1),
    (region1),
    (revokeStalls (revokeIndex (gatedAtomic (withRegion (srv 0 0x0301 [0, 1, 0, 0, 0, 0, 0, 0]))) 1) 1),
    (mirror (revokeStalls (revokeIndex (gatedAtomic (withRegion (srv 0 0x0301 [0, 1, 0, 0, 0, 0, 0, 0]))) 1) 1) (.region 1 (regionCfg
        (genOf (revokeStalls (revokeIndex (gatedAtomic (withRegion (srv 0 0x0301 [0, 1, 0, 0, 0, 0, 0, 0]))) 1) 1) 1) region1))), by decide +kernel⟩,
   ⟨(withRegion (srv 0 0x0302 [0, 1, 0, 0, 0, 0, 0, 0])),
    (0),
    (cmdOf 0x0302 [0, 1, 0, 0, 0, 0, 0, 0]),
    (1),
    (region1),
    (revokeStalls (revokeIndex (withRegion (srv 0 0x0302 [0, 1, 0, 0, 0, 0, 0, 0])) 1) 1),
    ((endAccesses (revokeStalls (revokeIndex (withRegion (srv 0 0x0302 [0, 1, 0, 0, 0, 0, 0, 0])) 1) 1) 0 (some 1) true).1),
    (stOk), by decide +kernel, Prod.ext rfl (by decide +kernel)⟩,
   ⟨(gatedAtomic (withRegion (srv 0 0x0302 [0, 1, 0, 0, 0, 0, 0, 0]))),
    (0),
    (cmdOf 0x0302 [0, 1, 0, 0, 0, 0, 0, 0]),
    (1),
    (region1),
    (revokeStalls (revokeIndex (gatedAtomic (withRegion (srv 0 0x0302 [0, 1, 0, 0, 0, 0, 0, 0]))) 1) 1), by decide +kernel⟩,
   ⟨(withRegion ((srv 0 0x0303 [0, 1, 0, 0, 0, 0, 0, 0]))),
    (0),
    (cmdOf 0x0303 [0, 1, 0, 0, 0, 0, 0, 0]),
    (1),
    (region1), by decide +kernel⟩,
   ⟨(withRegion (srv 0 0x0304 [0, 1, 0, 0, 0, 0, 0, 0, 0, 0, 0, 0, 0, 0, 0, 0, 0, 0, 0, 0, 0, 0, 0, 0])),
    (0),
    (cmdOf 0x0304 [0, 1, 0, 0, 0, 0, 0, 0, 0, 0, 0, 0, 0, 0, 0, 0, 0, 0, 0, 0, 0, 0, 0, 0]),
    (1),
    (region1),
    (bump (withRegion (srv 0 0x0304 [0, 1, 0, 0, 0, 0, 0, 0, 0, 0, 0, 0, 0, 0, 0, 0, 0, 0, 0, 0, 0, 0, 0, 0])) 296),
    ((endAccesses (bump (withRegion (srv 0 0x0304 [0, 1, 0, 0, 0, 0, 0, 0, 0, 0, 0, 0, 0, 0, 0, 0, 0, 0, 0, 0, 0, 0, 0, 0])) 296) 0
        (some 1) false).1),
    (stOk), by decide +kernel, Prod.ext rfl (by decide +kernel)⟩,
   ⟨(gatedAtomic (withRegion (srv 0 0x0304 [0, 1, 0, 0, 0, 0, 0, 0, 0, 0, 0, 0, 0, 0, 0, 0, 0, 0, 0, 0, 0, 0, 0, 0]))),
    (0),
    (cmdOf 0x0304 [0, 1, 0, 0, 0, 0, 0, 0, 0, 0, 0, 0, 0, 0, 0, 0, 0, 0, 0, 0, 0, 0, 0, 0]),
    (1),
    (region1),
    (bump (gatedAtomic (withRegion (srv 0 0x0304 [0, 1, 0, 0, 0, 0, 0, 0, 0, 0, 0, 0, 0, 0, 0, 0, 0, 0, 0, 0, 0, 0, 0, 0]))) 296), by decide +kernel⟩,
   ⟨(withRegion (srv 0 0x0304 [0, 0, 0, 0, 1, 0, 0, 0, 0, 0, 0, 0, 0, 0, 0, 0, 0, 0, 0, 0, 0, 0, 0, 0])),
    (0),
    (cmdOf 0x0304 [0, 0, 0, 0, 1, 0, 0, 0, 0, 0, 0, 0, 0, 0, 0, 0, 0, 0, 0, 0, 0, 0, 0, 0]),
    (bump (withRegion (srv 0 0x0304 [0, 0, 0, 0, 1, 0, 0, 0, 0, 0, 0, 0, 0, 0, 0, 0, 0, 0, 0, 0, 0, 0, 0, 0])) 296),
    ((endAccesses (bump (withRegion (srv 0 0x0304 [0, 0, 0, 0, 1, 0, 0, 0, 0, 0, 0, 0, 0, 0, 0, 0, 0, 0, 0, 0, 0, 0, 0, 0])) 296) 0
        none false).1),
    (stOk), by decide +kernel, Prod.ext rfl (by decide +kernel)⟩,
   ⟨(gatedAtomic (withRegion (srv 0 0x0304 [0, 0, 0, 0, 1, 0, 0, 0, 0, 0, 0, 0, 0, 0, 0, 0, 0, 0, 0, 0, 0, 0, 0, 0]))),
    (0),
    (cmdOf 0x0304 [0, 0, 0, 0, 1, 0, 0, 0, 0, 0, 0, 0, 0, 0, 0, 0, 0, 0, 0, 0, 0, 0, 0, 0]),
    (bump (gatedAtomic (withRegion (srv 0 0x0304 [0, 0, 0, 0, 1, 0, 0, 0, 0, 0, 0, 0, 0, 0, 0, 0, 0, 0, 0, 0, 0, 0, 0, 0]))) 296), by decide +kernel⟩,
   ⟨(open0 ((srv 0 0x0305 frParams))),
    (0),
    (cmdOf 0x0305 frParams),
    (newFaultRing frParams),
    ((initFaultRing (open0 (srv 0 0x0305 frParams)) 0 (newFaultRing frParams)).1), by decide +kernel, Prod.ext rfl (by decide +kernel)⟩,
   ⟨(setFaultRing ((srv 0 0x0306 [0, 0, 0, 0, 0, 0, 0, 0])) 0 { base := 0, log2 := 6, cons := 0 }),
    (0),
    (cmdOf 0x0306 [0, 0, 0, 0, 0, 0, 0, 0]),
    { setFaultRing (srv 0 0x0306 [0, 0, 0, 0, 0, 0, 0, 0]) 0 { base := 0, log2 := 6, cons := 0 } with
      xlt := { (setFaultRing (srv 0 0x0306 [0, 0, 0, 0, 0, 0, 0, 0]) 0 { base := 0, log2 := 6, cons := 0 }).xlt with faultRings := [] } }, by decide +kernel⟩,
   ⟨{ (srv 0 0x0307 [3, 0, 0, 0, 1, 0, 0, 0]) with xlt := { ((srv 0 0x0307 [3, 0, 0, 0, 1, 0, 0, 0])).xlt with stalls := [stall3] } },
    (0),
    (cmdOf 0x0307 [3, 0, 0, 0, 1, 0, 0, 0]),
    (stall3), by decide +kernel⟩,
   ⟨(srv 0 0x0308 [9, 1, 3, 0, 0, 0, 0, 0]),
    (0),
    (cmdOf 0x0308 [9, 1, 3, 0, 0, 0, 0, 0]), by decide +kernel⟩⟩

/-- Every clause of ConnectionCommandsComplete has a state and operands that meet its hypotheses. -/
theorem witness_ConnectionCommandsComplete :
    (∃ (s : State) (fn : Nat) (c : Cmd) (n : Nat) (u : State) (v : State), Serves s fn 0x0200 c ∧ zeroAt c.params 1 7 = true ∧
      tenantOk s fn (byteAt c.params 0) = true ∧ freeContext s = some n ∧
      takeContext s n { st := .ready, fn := byteAt c.params 0 } = u ∧ mirror u (.conn n (connCfgOf (ctxOf u n))) = v) ∧
    (∃ (s : State) (fn : Nat) (c : Cmd) (u : State), Serves s fn 0x0201 c ∧ byteAt c.params 3 = 0 ∧ numAt c.params 4 4 / 2 ^ 25 = 0 ∧
      numAt c.params 10 2 ≤ 1000 ∧ byteAt c.params 12 ≤ 15 ∧ zeroAt c.params 13 3 = true ∧ validCoord s (numAt c.params 4 3) = true ∧
      connOk s fn (numAt c.params 0 2) = true ∧ (ctxOf s (numAt c.params 0 2)).st = .ready ∧
      setCtx s (numAt c.params 0 2) (connectedCtx s (ctxOf s (numAt c.params 0 2)) c.params) = u) ∧
    (∃ (s : State) (fn : Nat) (c : Cmd) (u : State), Serves s fn 0x0202 c ∧ zeroAt c.params 2 6 = true ∧
      connOk s fn (numAt c.params 0 2) = true ∧ quarantine (closeConn s (numAt c.params 0 2)) (numAt c.params 0 2) = u) ∧
    (∃ (s : State) (fn : Nat) (c : Cmd) (u : State) (v : State) (x : Ctx), Serves s fn 0x0203 c ∧ zeroAt c.params 2 6 = true ∧
      connOk s fn (numAt c.params 0 2) = true ∧ closeConn s (numAt c.params 0 2) = u ∧ ctxOf u (numAt c.params 0 2) = x ∧
      setCtx (clearHolder u x (numAt c.params 0 2)) (numAt c.params 0 2) { st := .ready, fn := x.fn, inc := (x.inc + 1) % 256 } = v) ∧
    (∃ (s : State) (fn : Nat) (c : Cmd) (x : Ctx), Serves s fn 0x0204 c ∧ zeroAt c.params 2 6 = true ∧
      ctxOf s (numAt c.params 0 2) = x ∧ (fn != 0 && (x.peer || x.st == .free || x.fn != fn)) = false) ∧
    (∃ (s : State) (fn : Nat) (c : Cmd) (n : Nat), Serves s fn 0x0210 c ∧ numAt c.params 0 2 ≠ 0 ∧ numAt c.params 0 2 ≤ 8192 ∧
      zeroAt c.params 3 5 = true ∧ tenantOk s fn (byteAt c.params 2) = true ∧ lowestRun s (numAt c.params 0 2) 8193 0 0 = some n) ∧
    (∃ (s : State) (fn : Nat) (c : Cmd) (l : List Nat), Serves s fn 0x0211 c ∧ numAt c.params 2 2 ≠ 0 ∧
      numAt c.params 0 2 + numAt c.params 2 2 ≤ 8192 ∧ zeroAt c.params 4 4 = true ∧
      (List.range (numAt c.params 2 2)).map (numAt c.params 0 2 + ·) = l ∧ l.all (mayFree s fn) = true ∧
      s.ctx.armed.any (fun a => l.contains a.counter && !a.released) = false) ∧
    (∃ (s : State) (fn : Nat) (c : Cmd), Serves s fn 0x0212 c ∧ numAt c.params 0 2 < 8192 ∧ zeroAt c.params 2 6 = true ∧
      (fn != 0 && !counterOwned s (numAt c.params 0 2) fn) = false) ∧
    (∃ (s : State) (fn : Nat) (c : Cmd), Serves s fn 0x0220 c ∧ byteAt c.params 3 ≤ 7 ∧ zeroAt c.params 4 4 = true ∧
      (bitAt (byteAt c.params 3) 2 && decide (byteAt c.params 2 > 1)) = false ∧ (byteAt c.params 3 != 0 && isExpert s 0x0C) = false) :=
  ⟨⟨(srv 0 0x0200 [0, 0, 0, 0, 0, 0, 0, 0]),
    (0),
    (cmdOf 0x0200 [0, 0, 0, 0, 0, 0, 0, 0]),
    (0),
    (taken0),
    (mirror taken0 (.conn 0 (connCfgOf (ctxOf taken0 0)))), by decide⟩,
   ⟨(ready0 ((srv 0 0x0201 ccParams))),
    (0),
    (cmdOf 0x0201 ccParams),
    (setCtx (ready0 (srv 0 0x0201 ccParams)) 0 (connectedCtx (ready0 (srv 0 0x0201 ccParams)) (ctxOf (ready0 (srv 0 0x0201 ccParams))
        0) ccParams)), by decide⟩,
   ⟨(ready0 ((srv 0 0x0202 [0, 0, 0, 0, 0, 0, 0, 0]))),
    (0),
    (cmdOf 0x0202 [0, 0, 0, 0, 0, 0, 0, 0]),
    (quarantine (closeConn (ready0 (srv 0 0x0202 [0, 0, 0, 0, 0, 0, 0, 0])) 0) 0), by decide⟩,
   ⟨(ready0 ((srv 0 0x0203 [0, 0, 0, 0, 0, 0, 0, 0]))),
    (0),
    (cmdOf 0x0203 [0, 0, 0, 0, 0, 0, 0, 0]),
    (closed0),
    (setCtx (clearHolder closed0 readyCtx 0) 0 { readyCtx with inc := 1 }),
    (readyCtx), by decide⟩,
   ⟨(ready0 ((srv 0 0x0204 [0, 0, 0, 0, 0, 0, 0, 0]))),
    (0),
    (cmdOf 0x0204 [0, 0, 0, 0, 0, 0, 0, 0]),
    { st := .ready }, by decide⟩,
   ⟨(srv 0 0x0210 [2, 0, 0, 0, 0, 0, 0, 0]),
    (0),
    (cmdOf 0x0210 [2, 0, 0, 0, 0, 0, 0, 0]),
    (0), by decide⟩,
   ⟨{ (srv 0 0x0211 [5, 0, 1, 0, 0, 0, 0, 0]) with
      ctx := { ((srv 0 0x0211 [5, 0, 1, 0, 0, 0, 0, 0])).ctx with counters := [(5, { owner := 0 })] } },
    (0),
    (cmdOf 0x0211 [5, 0, 1, 0, 0, 0, 0, 0]),
    ([5]), by decide⟩,
   ⟨(srv 0 0x0212 [5, 0, 0, 0, 0, 0, 0, 0]),
    (0),
    (cmdOf 0x0212 [5, 0, 0, 0, 0, 0, 0, 0]), by decide⟩,
   ⟨(srv 0 0x0220 [9, 1, 0, 7, 0, 0, 0, 0]),
    (0),
    (cmdOf 0x0220 [9, 1, 0, 7, 0, 0, 0, 0]), by decide⟩⟩

/-- Every clause of MessagingAndSchedulerCommandsComplete has a state and operands that meet its hypotheses. -/
theorem witness_MessagingAndSchedulerCommandsComplete :
    (∃ (s : State) (fn : Nat) (c : Cmd) (e : Endpoint) (u : State), (Serves s fn 0x0400 c ∧ endpointCreateOk c.params = true ∧
      newEndpoint c.params = e ∧ tenantOk s fn e.owner = true ∧ fieldOwned s e.owner (numAt c.params 4 2) = true ∧
      fmFind s.cat.eps (numAt c.params 0 2) = none ∧ (onPartner s && (fmFind s.twn.mirror.eps (numAt c.params 0 2)).isSome) = false) ∧
      initReceiveRing s e = (u, true)) ∧
    (∃ (s : State) (fn : Nat) (c : Cmd) (ep : Nat) (e : Endpoint) (l : List Delivery), Serves s fn 0x0401 c ∧
      namedEp s fn c.params = .inl (ep, e) ∧ s.cat.deliveries.filter (fun d => d.ep == ep) = l) ∧
    (∃ (s : State) (fn : Nat) (c : Cmd) (e : Endpoint), Serves s fn 0x0402 c ∧ numAt c.params 0 2 < 4096 ∧ zeroAt c.params 2 6 = true ∧
      fmFind s.cat.eps (numAt c.params 0 2) = some e ∧ (fn != 0 && e.owner != fn) = false) ∧
    (∃ (s : State) (fn : Nat) (c : Cmd), Serves s fn 0x0403 c ∧ byteAt c.params 2 = 1 ∧ zeroAt c.params 3 5 = true ∧
      numAt c.params 0 2 ≤ 8192 ∧ isExpert s 0x0E = false) ∧
    (∃ (s : State) (fn : Nat) (c : Cmd) (g : Nat), Serves s fn 0x0E00 c ∧ zeroAt c.params 4 4 = true ∧
      schedGroup s fn (numAt c.params 0 4) = .inl g) ∧
    (∃ (s : State) (fn : Nat) (c : Cmd) (g : Nat), Serves s fn 0x0E01 c ∧ zeroAt c.params 5 3 = true ∧
      schedGroup s fn (numAt c.params 0 4) = .inl g ∧ isExpert s 0x24 = false) ∧
    (∃ (s : State) (fn : Nat) (c : Cmd) (f : FnSched) (x : Shaper), Serves s fn 0x0E02 c ∧ byteAt c.params 1 ≤ 1 ∧
      byteAt c.params 2 ≤ 3 ∧ byteAt c.params 3 ≤ 15 ∧ (bitAt (byteAt c.params 3) 3 && decide (numAt c.params 8 2 = 0)) = false ∧
      zeroAt c.params 10 6 = true ∧ enabledFn s (byteAt c.params 0) = true ∧ (byteAt c.params 3 != 0 && isExpert s 0x24) = false ∧
      fnSched s (byteAt c.params 0) = f ∧ shaperSet (if byteAt c.params 1 = 0 then f.sh0 else f.sh1) c.params = x) ∧
    (∃ (s : State) (fn : Nat) (c : Cmd) (x : Shaper), Serves s fn 0x0E03 c ∧ byteAt c.params 1 = 0 ∧ byteAt c.params 2 ≤ 1 ∧
      byteAt c.params 3 ≤ 7 ∧ (bitAt (byteAt c.params 3) 2 && decide (numAt c.params 8 2 = 0)) = false ∧ zeroAt c.params 10 6 = true ∧
      enabledFn s (byteAt c.params 0) = true ∧ (byteAt c.params 3 != 0 && isExpert s 0x24) = false ∧
      policerSet (fnSched s (byteAt c.params 0)).pol c.params = x) ∧
    (∃ (s : State) (fn : Nat) (c : Cmd), Serves s fn 0x0E04 c ∧ zeroAt c.params 1 7 = true ∧ enabledFn s (byteAt c.params 0) = true ∧
      (fn != 0 && byteAt c.params 0 != fn) = false) ∧
    (∃ (s : State) (fn : Nat) (c : Cmd) (g : Nat) (x : Nat × Nat × Nat), Serves s fn 0x0E05 c ∧ byteAt c.params 4 ≤ 3 ∧
      zeroAt c.params 5 3 = true ∧ schedGroup s fn (numAt c.params 0 4) = .inl g ∧
      (queueOf s (4 * g + byteAt c.params 4)).st ≠ .disabled ∧ fmGet s.sch.samples (4 * g + byteAt c.params 4) (0, 0, 0) = x) ∧
    (∃ (s : State) (fn : Nat) (c : Cmd), Serves s fn 0x0E06 c ∧ byteAt c.params 2 ≤ 3 ∧ zeroAt c.params 3 5 = true ∧
      (bitAt (byteAt c.params 2) 1 && decide (byteAt c.params 1 > 1)) = false ∧ (byteAt c.params 2 != 0 && isExpert s 0x24) = false) :=
  ⟨⟨(open0 ((srv 0 0x0400 epParams))),
    (0),
    (cmdOf 0x0400 epParams),
    (newEndpoint epParams),
    ((initReceiveRing (open0 (srv 0 0x0400 epParams)) (newEndpoint epParams)).1), by decide, Prod.ext rfl (by decide)⟩,
   ⟨(withEp ((srv 0 0x0401 [3, 0, 0, 0, 0, 0, 0, 0]))),
    (0),
    (cmdOf 0x0401 [3, 0, 0, 0, 0, 0, 0, 0]),
    (3),
    (ep3),
    ([]), by decide⟩,
   ⟨(withEp ((srv 0 0x0402 [3, 0, 0, 0, 0, 0, 0, 0]))),
    (0),
    (cmdOf 0x0402 [3, 0, 0, 0, 0, 0, 0, 0]),
    (ep3), by decide⟩,
   ⟨(srv 0 0x0403 [0, 16, 1, 0, 0, 0, 0, 0]),
    (0),
    (cmdOf 0x0403 [0, 16, 1, 0, 0, 0, 0, 0]), by decide⟩,
   ⟨(srv 0 0x0E00 [5, 0, 0, 0, 0, 0, 0, 0]),
    (0),
    (cmdOf 0x0E00 [5, 0, 0, 0, 0, 0, 0, 0]),
    (5), by decide⟩,
   ⟨(srv 0 0x0E01 [5, 0, 0, 0, 9, 0, 0, 0]),
    (0),
    (cmdOf 0x0E01 [5, 0, 0, 0, 9, 0, 0, 0]),
    (5), by decide⟩,
   ⟨(srv 0 0x0E02 shParams),
    (0),
    (cmdOf 0x0E02 shParams),
    (fnSched (srv 0 0x0E02 shParams) 0),
    (shaperSet (fnSched (srv 0 0x0E02 shParams) 0).sh1 shParams), by decide⟩,
   ⟨(srv 0 0x0E03 poParams),
    (0),
    (cmdOf 0x0E03 poParams),
    (policerSet (fnSched (srv 0 0x0E03 poParams) 0).pol poParams), by decide⟩,
   ⟨(srv 0 0x0E04 [0, 0, 0, 0, 0, 0, 0, 0]),
    (0),
    (cmdOf 0x0E04 [0, 0, 0, 0, 0, 0, 0, 0]), by decide⟩,
   ⟨(setQueue ((srv 0 0x0E05 [0, 0, 0, 0, 1, 0, 0, 0])) 1 { st := .active }),
    (0),
    (cmdOf 0x0E05 [0, 0, 0, 0, 1, 0, 0, 0]),
    (0),
    ((0, 0, 0)), by decide⟩,
   ⟨(srv 0 0x0E06 [9, 1, 3, 0, 0, 0, 0, 0]),
    (0),
    (cmdOf 0x0E06 [9, 1, 3, 0, 0, 0, 0, 0]), by decide⟩⟩

/-- Every clause of CollectiveCommandsComplete has a state and operands that meet its hypotheses. -/
theorem witness_CollectiveCommandsComplete :
    (∃ (s : State) (fn : Nat) (c : Cmd) (g : Nat) (l : List Byte) (u : State) (v : State), Serves s fn 0x0500 c ∧
      groupCreateOk c.params = true ∧ groupOf s fn (numAt c.params 16 4) = .inl g ∧
      (queueOf s (4 * g + byteAt c.params 20)).st = .active ∧ (queueOf s (4 * g + byteAt c.params 20)).fn = fn ∧
      hostRead s fn (numAt c.params 32 8) (8 * numAt c.params 8 4) = (u, some l) ∧ memberListOk u fn c.params l = true ∧
      beginJoin u fn (4 * g + byteAt c.params 20) (joinOf u fn c.params) (listEntries (numAt c.params 8 4) l) = v ∧
      fmFind v.car.creates fn ≠ none) ∧
    (∃ (s : State) (fn : Nat) (c : Cmd) (h : Nat), Serves s fn 0x0501 c ∧ namedGroup s fn c.params = .inl h ∧
      fmFind s.car.groups h ≠ none ∧ (carGroup s h).st = .active) ∧
    (∃ (s : State) (fn : Nat) (c : Cmd) (h : Nat), Serves s fn 0x0502 c ∧ namedGroup s fn c.params = .inl h) ∧
    (∃ (s : State) (fn : Nat) (c : Cmd) (h : Nat) (g : CarGroup) (u : State), Serves s fn 0x0503 c ∧
      namedGroup s fn c.params = .inl h ∧ carGroup s h = g ∧ fmFind s.car.groups h ≠ none ∧ g.st = .active ∧ g.change = none ∧
      g.oldLive = false ∧ rebuildGroup s h = u ∧
      ((carGroup u h).change.isNone && decide (groupRoot s g.list (currentBank s).map = some s.mvt.coord)) = false) ∧
    (∃ (s : State) (fn : Nat) (c : Cmd), Serves s fn 0x0504 c ∧ byteAt c.params 2 ≤ 3 ∧ zeroAt c.params 3 5 = true ∧
      (bitAt (byteAt c.params 2) 1 && decide (byteAt c.params 1 > 1)) = false ∧ (byteAt c.params 2 != 0 && isExpert s 0x10) = false) :=
  ⟨⟨(withList ((srv 0 0x0500 gcParams))),
    (0),
    (cmdOf 0x0500 gcParams),
    (0),
    (memberList),
    (gcRead),
    (beginJoin gcRead 0 0 (joinOf gcRead 0 gcParams) (listEntries 2 memberList)), by decide +kernel, by decide +kernel, by decide +kernel, by decide +kernel, by decide +kernel, Prod.ext rfl (by decide +kernel), by decide +kernel, rfl, by decide +kernel⟩,
   ⟨(withGroup ((srv 0 0x0501 [4, 0, 0, 0, 0, 0, 0, 0]))),
    (0),
    (cmdOf 0x0501 [4, 0, 0, 0, 0, 0, 0, 0]),
    (4), by decide +kernel⟩,
   ⟨(withGroup ((srv 0 0x0502 [4, 0, 0, 0, 0, 0, 0, 0]))),
    (0),
    (cmdOf 0x0502 [4, 0, 0, 0, 0, 0, 0, 0]),
    (4), by decide +kernel⟩,
   ⟨(withGroup ((srv 0 0x0503 [4, 0, 0, 0, 0, 0, 0, 0]))),
    (0),
    (cmdOf 0x0503 [4, 0, 0, 0, 0, 0, 0, 0]),
    (4),
    (group4),
    (rebuildGroup (withGroup (srv 0 0x0503 [4, 0, 0, 0, 0, 0, 0, 0])) 4), by decide +kernel⟩,
   ⟨(srv 0 0x0504 [9, 1, 3, 0, 0, 0, 0, 0]),
    (0),
    (cmdOf 0x0504 [9, 1, 3, 0, 0, 0, 0, 0]), by decide +kernel⟩⟩

/-- Every clause of RoutingAndLaneCommandsComplete has a state and operands that meet its hypotheses. -/
theorem witness_RoutingAndLaneCommandsComplete :
    (∃ (s : State) (fn : Nat) (c : Cmd), Serves s fn 0x0600 c) ∧
    (∃ (s : State) (fn : Nat) (c : Cmd), Serves s fn 0x0601 c ∧ byteAt c.params 5 ≤ 7 ∧ zeroAt c.params 6 2 = true ∧
      (bitAt (byteAt c.params 5) 0 && decide (numAt c.params 0 2 > 1023)) = false ∧
      (bitAt (byteAt c.params 5) 1 && decide (numAt c.params 2 2 > 1023)) = false ∧
      (bitAt (byteAt c.params 5) 2 && decide (byteAt c.params 4 > 1)) = false ∧ (byteAt c.params 5 != 0 && isExpert s 0x12) = false) ∧
    (∃ (s : State) (fn : Nat) (c : Cmd), Serves s fn 0x0602 c ∧ hasLanes (byteAt c.params 0) = true ∧ byteAt c.params 1 ≤ 1 ∧
      zeroAt c.params 2 6 = true ∧ isExpert s 0x12 = false ∧ ((byteAt c.params 0 = 14 → twinPaired s = false))) ∧
    (∃ (s : State) (fn : Nat) (c : Cmd), Serves s fn 0x0603 c ∧ zeroAt c.params 0 8 = true ∧ changeInProgress s = false) ∧
    (∃ (s : State) (fn : Nat) (c : Cmd) (b : RouteBank) (e : Nat × Nat × Nat × Nat), Serves s fn 0x0604 c ∧ byteAt c.params 4 ≤ 1 ∧
      zeroAt c.params 5 3 = true ∧ numAt c.params 0 4 < 131072 ∧ numAt c.params 0 4 < nodeCount s ∧
      bankOf s (if byteAt c.params 4 = 0 then currentBit s else 1 - currentBit s) = b ∧ tableEntry s b (numAt c.params 0 4) = e) ∧
    (∃ (s : State) (fn : Nat) (c : Cmd), Serves s fn 0x0800 c ∧ hasLanes (byteAt c.params 0) = true ∧ zeroAt c.params 1 7 = true) ∧
    (∃ (s : State) (fn : Nat) (c : Cmd), Serves s fn 0x0801 c ∧ byteAt c.params 0 ≤ 11 ∧ zeroAt c.params 1 7 = true ∧
      isExpert s 0x18 = false ∧ s.mvt.adminFence.contains (byteAt c.params 0) = false) ∧
    (∃ (s : State) (fn : Nat) (c : Cmd), Serves s fn 0x0802 c ∧ byteAt c.params 0 ≤ 11 ∧ byteAt c.params 4 ≤ 3 ∧
      zeroAt c.params 5 3 = true ∧ (bitAt (byteAt c.params 4) 0 && decide (byteAt c.params 1 > 1)) = false ∧
      (bitAt (byteAt c.params 4) 1 && (decide (numAt c.params 2 2 = 0) || decide (numAt c.params 2 2 > 1023))) = false ∧
      (byteAt c.params 4 != 0 && isExpert s 0x18) = false) ∧
    (∃ (s : State) (fn : Nat) (c : Cmd), Serves s fn 0x0803 c ∧ numAt c.params 2 2 ≠ 0 ∧
      numAt c.params 0 2 + numAt c.params 2 2 ≤ 464 ∧ zeroAt c.params 4 4 = true) ∧
    (∃ (s : State) (fn : Nat) (c : Cmd), Serves s fn 0x0804 c ∧ byteAt c.params 3 ≤ 7 ∧ zeroAt c.params 4 4 = true ∧
      (bitAt (byteAt c.params 3) 2 && (decide (byteAt c.params 2 = 0) || decide (byteAt c.params 2 > 15))) = false ∧
      (byteAt c.params 3 != 0 && isExpert s 0x18) = false) :=
  ⟨⟨(srv 0 0x0600 []),
    (0),
    (cmdOf 0x0600 []), by decide⟩,
   ⟨(srv 0 0x0601 [9, 0, 4, 0, 0, 7, 0, 0]),
    (0),
    (cmdOf 0x0601 [9, 0, 4, 0, 0, 7, 0, 0]), by decide⟩,
   ⟨(srv 0 0x0602 [3, 1, 0, 0, 0, 0, 0, 0]),
    (0),
    (cmdOf 0x0602 [3, 1, 0, 0, 0, 0, 0, 0]), by decide⟩,
   ⟨(srv 0 0x0603 [0, 0, 0, 0, 0, 0, 0, 0]),
    (0),
    (cmdOf 0x0603 [0, 0, 0, 0, 0, 0, 0, 0]), by decide⟩,
   ⟨(shaped ((srv 0 0x0604 [0, 0, 0, 0, 0, 0, 0, 0]))),
    (0),
    (cmdOf 0x0604 [0, 0, 0, 0, 0, 0, 0, 0]),
    (bankOf (shaped (srv 0 0x0604 [0, 0, 0, 0, 0, 0, 0, 0])) 0),
    (tableEntry (shaped (srv 0 0x0604 [0, 0, 0, 0, 0, 0, 0, 0])) (bankOf (shaped (srv 0 0x0604 [0, 0, 0, 0, 0, 0, 0, 0])) 0) 0), by decide⟩,
   ⟨(srv 0 0x0800 [3, 0, 0, 0, 0, 0, 0, 0]),
    (0),
    (cmdOf 0x0800 [3, 0, 0, 0, 0, 0, 0, 0]), by decide⟩,
   ⟨(srv 0 0x0801 [3, 0, 0, 0, 0, 0, 0, 0]),
    (0),
    (cmdOf 0x0801 [3, 0, 0, 0, 0, 0, 0, 0]), by decide⟩,
   ⟨(srv 0 0x0802 [3, 1, 4, 0, 3, 0, 0, 0]),
    (0),
    (cmdOf 0x0802 [3, 1, 4, 0, 3, 0, 0, 0]), by decide⟩,
   ⟨(srv 0 0x0803 [0, 0, 16, 0, 0, 0, 0, 0]),
    (0),
    (cmdOf 0x0803 [0, 0, 16, 0, 0, 0, 0, 0]), by decide⟩,
   ⟨(srv 0 0x0804 [9, 4, 3, 7, 0, 0, 0, 0]),
    (0),
    (cmdOf 0x0804 [9, 4, 3, 7, 0, 0, 0, 0]), by decide⟩⟩

/-- Every clause of StrikeCommandsComplete has a state and operands that meet its hypotheses. -/
theorem witness_StrikeCommandsComplete :
    (∃ (s : State) (fn : Nat) (c : Cmd), Serves s fn 0x0700 c ∧ zeroAt c.params 0 8 = true) ∧
    (∃ (s : State) (fn : Nat) (c : Cmd), Serves s fn 0x0701 c ∧ numAt c.params 0 4 % 16 = 0 ∧ numAt c.params 4 2 % 16 = 0 ∧
      16 ≤ numAt c.params 4 2 ∧ numAt c.params 4 2 ≤ 4080 ∧ byteAt c.params 6 = 0 ∧ zeroAt c.params 7 9 = true ∧ strikeBusy s = false ∧
      numAt c.params 0 4 + numAt c.params 4 2 ≤ 2097152) ∧
    (∃ (s : State) (fn : Nat) (c : Cmd) (b : StrikeBank), Serves s fn 0x0701 c ∧ numAt c.params 0 4 % 16 = 0 ∧
      numAt c.params 4 2 % 16 = 0 ∧ 16 ≤ numAt c.params 4 2 ∧ numAt c.params 4 2 ≤ 4080 ∧ byteAt c.params 6 = 1 ∧
      zeroAt c.params 7 9 = true ∧ strikeBusy s = false ∧ numAt c.params 0 4 + numAt c.params 4 2 ≤ 2097152 ∧
      stagedBank s (numAt c.params 0 4) (c.params.drop 16) = b) ∧
    (∃ (s : State) (fn : Nat) (c : Cmd) (x : Schedule), Serves s fn 0x0702 c ∧ strikeBusy s = false ∧ (idleBank s).sched = some x ∧
      x.id = numAt c.params 0 4 ∧ x.epoch = numAt c.params 4 4) ∧
    (∃ (s : State) (fn : Nat) (c : Cmd), Serves s fn 0x0703 c ∧ zeroAt c.params 0 8 = true ∧ strikeBusy s = false) ∧
    (∃ (s : State) (fn : Nat) (c : Cmd) (n : Nat), Serves s fn 0x0704 c ∧ numAt c.params 0 4 ≤ 262143 ∧ numAt c.params 4 2 ≠ 0 ∧
      byteAt c.params 6 ≤ 1 ∧ byteAt c.params 7 = 0 ∧ (queueOf s (numAt c.params 0 4)).st ≠ .disabled ∧
      bindingOfQueue s (numAt c.params 0 4) = none ∧ bindingOfFlow s (numAt c.params 4 2) = none ∧
      (List.range 4096).find? (fun n => (fmFind s.stk.bindings n).isNone) = some n) ∧
    (∃ (s : State) (fn : Nat) (c : Cmd) (n : Nat) (b : Binding) (u : State), Serves s fn 0x0705 c ∧ numAt c.params 0 2 ≠ 0 ∧
      zeroAt c.params 2 6 = true ∧ bindingOfFlow s (numAt c.params 0 2) = some (n, b) ∧ spillHeld s b.queue = u) ∧
    (∃ (s : State) (fn : Nat) (c : Cmd), Serves s fn 0x0706 c ∧ byteAt c.params 2 ≤ 3 ∧ zeroAt c.params 3 5 = true ∧
      (bitAt (byteAt c.params 2) 0 && decide (byteAt c.params 0 > 1)) = false ∧
      (bitAt (byteAt c.params 2) 1 && decide (byteAt c.params 1 > 1)) = false ∧ (byteAt c.params 2 != 0 && isExpert s 0x14) = false) :=
  ⟨⟨(srv 0 0x0700 [0, 0, 0, 0, 0, 0, 0, 0]),
    (0),
    (cmdOf 0x0700 [0, 0, 0, 0, 0, 0, 0, 0]), by decide +kernel⟩,
   ⟨(srv 0 0x0701 ([0, 0, 0, 0, 16, 0, 0, 0, 0, 0, 0, 0, 0, 0, 0, 0] ++ List.replicate 16 7)),
    (0),
    (cmdOf 0x0701 ([0, 0, 0, 0, 16, 0, 0, 0, 0, 0, 0, 0, 0, 0, 0, 0] ++ List.replicate 16 7)), by decide +kernel⟩,
   ⟨(srv 0 0x0701 ([0, 0, 0, 0, 16, 0, 1, 0, 0, 0, 0, 0, 0, 0, 0, 0] ++ List.replicate 16 7)),
    (0),
    (cmdOf 0x0701 ([0, 0, 0, 0, 16, 0, 1, 0, 0, 0, 0, 0, 0, 0, 0, 0] ++ List.replicate 16 7)),
    (stagedBank up 0 (List.replicate 16 7)), by decide +kernel⟩,
   ⟨(setStkBank ((srv 0 0x0702 [5, 0, 0, 0, 9, 0, 0, 0])) 1 { sched := some sched5 }),
    (0),
    (cmdOf 0x0702 [5, 0, 0, 0, 9, 0, 0, 0]),
    (sched5), by decide +kernel⟩,
   ⟨(srv 0 0x0703 [0, 0, 0, 0, 0, 0, 0, 0]),
    (0),
    (cmdOf 0x0703 [0, 0, 0, 0, 0, 0, 0, 0]), by decide +kernel⟩,
   ⟨(setQueue ((srv 0 0x0704 [1, 0, 0, 0, 9, 0, 1, 0])) 1 { st := .active }),
    (0),
    (cmdOf 0x0704 [1, 0, 0, 0, 9, 0, 1, 0]),
    (0), by decide +kernel⟩,
   ⟨(setBinding ((srv 0 0x0705 [9, 0, 0, 0, 0, 0, 0, 0])) 0 { flow := 9, spill := false, queue := 1 }),
    (0),
    (cmdOf 0x0705 [9, 0, 0, 0, 0, 0, 0, 0]),
    (0),
    (binding9),
    (spillHeld (setBinding (srv 0 0x0705 [9, 0, 0, 0, 0, 0, 0, 0]) 0 binding9) 1), by decide +kernel⟩,
   ⟨(srv 0 0x0706 [1, 1, 3, 0, 0, 0, 0, 0]),
    (0),
    (cmdOf 0x0706 [1, 1, 3, 0, 0, 0, 0, 0]), by decide +kernel⟩⟩

/-- Every clause of LockCommandsComplete has a state and operands that meet its hypotheses. -/
theorem witness_LockCommandsComplete :
    (∃ (s : State) (fn : Nat) (c : Cmd) (u : State) (out : LockOut), Serves s fn 0x0900 c ∧ numAt c.params 0 2 ≤ 4095 ∧
      byteAt c.params 2 ≠ 0 ∧ byteAt c.params 2 ≤ 63 ∧ byteAt c.params 3 ≤ 1 ∧ zeroAt c.params 4 4 = true ∧
      fnMayLock s fn (numAt c.params 0 2) = true ∧ lockWrite s (numAt c.params 0 2) (localId fn (byteAt c.params 2)) false = (u, out) ∧
      out ≠ .lost) ∧
    (∃ (s : State) (fn : Nat) (c : Cmd) (u : State), Serves s fn 0x0900 c ∧ numAt c.params 0 2 ≤ 4095 ∧ byteAt c.params 2 ≠ 0 ∧
      byteAt c.params 2 ≤ 63 ∧ byteAt c.params 3 = 1 ∧ zeroAt c.params 4 4 = true ∧ fnMayLock s fn (numAt c.params 0 2) = true ∧
      lockWrite s (numAt c.params 0 2) (localId fn (byteAt c.params 2)) false = (u, .lost) ∧ waitsHeld s < 64) ∧
    (∃ (s : State) (fn : Nat) (c : Cmd), Serves s fn 0x0901 c ∧ numAt c.params 0 2 ≤ 4095 ∧ byteAt c.params 2 ≠ 0 ∧
      byteAt c.params 2 ≤ 63 ∧ zeroAt c.params 3 5 = true ∧ fnMayLock s fn (numAt c.params 0 2) = true ∧
      (lockOf s (numAt c.params 0 2)).owner = localId fn (byteAt c.params 2)) ∧
    (∃ (s : State) (fn : Nat) (c : Cmd), Serves s fn 0x0902 c ∧ numAt c.params 0 2 ≤ 4095 ∧ zeroAt c.params 2 6 = true ∧
      fnMayLock s fn (numAt c.params 0 2) = true) ∧
    (∃ (s : State) (fn : Nat) (c : Cmd), Serves s fn 0x0903 c ∧ byteAt c.params 0 ≤ 63 ∧
      (bitAt (byteAt c.params 4) 1 && decide (byteAt c.params 2 > 31)) = false ∧
      (bitAt (byteAt c.params 4) 2 && decide (byteAt c.params 3 > 1)) = false ∧ byteAt c.params 4 ≠ 0 ∧ byteAt c.params 4 ≤ 7 ∧
      zeroAt c.params 5 3 = true ∧ isExpert s 0x1A = false) ∧
    (∃ (s : State) (fn : Nat) (c : Cmd), Serves s fn 0x0903 c ∧ byteAt c.params 0 ≤ 63 ∧ byteAt c.params 4 = 0 ∧
      zeroAt c.params 5 3 = true) ∧
    (∃ (s : State) (fn : Nat) (c : Cmd), Serves s fn 0x0904 c ∧ lockPeerOk s c.params = true ∧
      peerShut s (byteAt c.params 0 == 0) (byteAt c.params 7) (numAt c.params 4 3) = false) ∧
    (∃ (s : State) (fn : Nat) (c : Cmd) (w : WordLock) (t : State) (u : State) (v : Nat) (v2 : Nat) (l : Lock) (out : LockOut), Serves
        s fn 0x0905 c ∧ wordLockOk c.params = true ∧ namedWord fn c.params = w ∧ readWordLock s w.space fn w.addr = (t, some v) ∧
      lockRule (wordOf v) w.id false = (l, out) ∧ out ≠ .lost ∧ ((out = .won → t.pal.words.length < 256)) ∧
      readWordLock (claimWord t w v (out == .won)) w.space fn w.addr = (u, some v2)) ∧
    (∃ (s : State) (fn : Nat) (c : Cmd) (w : WordLock) (t : State) (u : State) (v : Nat) (v2 : Nat), Serves s fn 0x0906 c ∧
      wordLockOk c.params = true ∧ namedWord fn c.params = w ∧ readWordLock s w.space fn w.addr = (t, some v) ∧
      (wordOf v).owner = w.id ∧ readWordLock (releaseWord t w v) w.space fn w.addr = (u, some v2)) :=
  ⟨⟨(cfg0 (srv 0 0x0900 [3, 0, 1, 0, 0, 0, 0, 0])),
    (0),
    (cmdOf 0x0900 [3, 0, 1, 0, 0, 0, 0, 0]),
    ((lockWrite (cfg0 (srv 0 0x0900 [3, 0, 1, 0, 0, 0, 0, 0])) 3 1 false).1),
    (.won), by decide⟩,
   ⟨(setLock (cfg0 ((srv 0 0x0900 [3, 0, 1, 1, 0, 0, 0, 0]))) 3 { owner := 2 }),
    (0),
    (cmdOf 0x0900 [3, 0, 1, 1, 0, 0, 0, 0]),
    ((lockWrite (setLock (cfg0 (srv 0 0x0900 [3, 0, 1, 1, 0, 0, 0, 0])) 3 { owner := 2 }) 3 1 false).1), by decide⟩,
   ⟨(setLock (cfg0 ((srv 0 0x0901 [3, 0, 1, 0, 0, 0, 0, 0]))) 3 { owner := 1 }),
    (0),
    (cmdOf 0x0901 [3, 0, 1, 0, 0, 0, 0, 0]), by decide⟩,
   ⟨(cfg0 ((srv 0 0x0902 [3, 0, 0, 0, 0, 0, 0, 0]))),
    (0),
    (cmdOf 0x0902 [3, 0, 0, 0, 0, 0, 0, 0]), by decide⟩,
   ⟨(srv 0 0x0903 [3, 1, 17, 1, 7, 0, 0, 0]),
    (0),
    (cmdOf 0x0903 [3, 1, 17, 1, 7, 0, 0, 0]), by decide⟩,
   ⟨(srv 0 0x0903 [3, 1, 255, 9, 0, 0, 0, 0]),
    (0),
    (cmdOf 0x0903 [3, 1, 255, 9, 0, 0, 0, 0]), by decide⟩,
   ⟨(srv 0 0x0904 [1, 1, 1, 0, 0, 0, 0, 0, 3, 0, 0, 0, 0, 0, 0, 0]),
    (0),
    (cmdOf 0x0904 [1, 1, 1, 0, 0, 0, 0, 0, 3, 0, 0, 0, 0, 0, 0, 0]), by decide⟩,
   ⟨(open0 (srv 0 0x0905 [1, 1, 0, 0, 0, 0, 0, 0, 8, 0, 0, 0, 0, 0, 0, 0])),
    (0),
    (cmdOf 0x0905 [1, 1, 0, 0, 0, 0, 0, 0, 8, 0, 0, 0, 0, 0, 0, 0]),
    (word8),
    (wordRead),
    ((readWordLock (claimWord wordRead word8 0 true) 1 0 8).1),
    (0),
    (1),
    { owner := 1 },
    (.won), by decide⟩,
   ⟨(heldWord),
    (0),
    (cmdOf 0x0906 [1, 1, 0, 0, 0, 0, 0, 0, 8, 0, 0, 0, 0, 0, 0, 0]),
    (word8),
    ((readWordLock heldWord 1 0 8).1),
    ((readWordLock (releaseWord (readWordLock heldWord 1 0 8).1 word8 1) 1 0 8).1),
    (1),
    (0), by decide⟩⟩

/-- Every clause of MonitorCommandsComplete has a state and operands that meet its hypotheses. -/
theorem witness_MonitorCommandsComplete :
    (∃ (s : State) (fn : Nat) (c : Cmd), Serves s fn 0x0B00 c ∧ numAt c.params 2 2 ≠ 0 ∧ numAt c.params 2 2 ≤ 256 ∧
      numAt c.params 0 2 + numAt c.params 2 2 ≤ 1427 ∧ zeroAt c.params 4 4 = true ∧
      (fn != 0 && !(List.range (numAt c.params 2 2)).all (fun i => pageHolds s fn (numAt c.params 0 2 + i))) = false) ∧
    (∃ (s : State) (fn : Nat) (c : Cmd), Serves s fn 0x0B01 c ∧ numAt c.params 2 2 ≠ 0 ∧
      numAt c.params 0 2 + numAt c.params 2 2 ≤ 1427 ∧ byteAt c.params 4 ≤ 3 ∧ byteAt c.params 5 ≠ 0 ∧ byteAt c.params 5 ≤ 7 ∧
      zeroAt c.params 6 2 = true ∧ zeroAt c.params 12 4 = true ∧
      (bitAt (byteAt c.params 5) 1 && decide (numAt c.params 8 4 ≥ 2 ^ 24)) = false ∧ isExpert s 0x20 = false) ∧
    (∃ (s : State) (fn : Nat) (c : Cmd), Serves s fn 0x0B01 c ∧ numAt c.params 2 2 ≠ 0 ∧
      numAt c.params 0 2 + numAt c.params 2 2 ≤ 1427 ∧ byteAt c.params 4 ≤ 3 ∧ byteAt c.params 5 = 0 ∧ zeroAt c.params 6 2 = true ∧
      zeroAt c.params 12 4 = true) ∧
    (∃ (s : State) (fn : Nat) (c : Cmd) (l : List Nat), Serves s fn 0x0B02 c ∧ byteAt c.params 1 ≤ 1 ∧ numAt c.params 2 2 ≤ 252 ∧
      zeroAt c.params 4 4 = true ∧ (List.range (numAt c.params 2 2)).map (fun i => numAt c.params (8 + 2 * i) 2) = l ∧
      l.any (fun k => decide (k ≥ 1427)) = false ∧ isExpert s 0x20 = false ∧ (fnOf s (byteAt c.params 0)).present = true ∧
      l.any (fun k => decide (k ≥ 403) && (k - 403) / 4 != byteAt c.params 0) = false) ∧
    (∃ (s : State) (fn : Nat) (c : Cmd), Serves s fn 0x0B03 c ∧ byteAt c.params 0 ≤ 15 ∧ byteAt c.params 1 ≤ 3 ∧
      byteAt c.params 8 ≠ 0 ∧ byteAt c.params 8 ≤ 7 ∧ zeroAt c.params 9 7 = true ∧
      (bitAt (byteAt c.params 8) 2 && (byteAt c.params 2 > 10 || byteAt c.params 3 > 31 || numAt c.params 4 4 ≥ 2 ^ dialArgBits (byteAt
        c.params 2))) = false ∧ isExpert s 0x20 = false) ∧
    (∃ (s : State) (fn : Nat) (c : Cmd), Serves s fn 0x0B03 c ∧ byteAt c.params 0 ≤ 15 ∧ byteAt c.params 1 ≤ 3 ∧
      byteAt c.params 8 = 0 ∧ zeroAt c.params 9 7 = true) ∧
    (∃ (s : State) (fn : Nat) (c : Cmd), Serves s fn 0x0B04 c ∧ byteAt c.params 0 ≤ 15 ∧ zeroAt c.params 1 7 = true) ∧
    (∃ (s : State) (fn : Nat) (c : Cmd), Serves s fn 0x0B05 c ∧ field (numAt c.params 0 8) 27 5 = 0 ∧
      field (numAt c.params 0 8) 50 14 = 0 ∧ isExpert s 0x20 = false) ∧
    (∃ (s : State) (fn : Nat) (c : Cmd), Serves s fn 0x0B06 c ∧ numAt c.params 4 2 ≠ 0 ∧ numAt c.params 4 2 ≤ 64 ∧
      zeroAt c.params 6 2 = true) ∧
    (∃ (s : State) (fn : Nat) (c : Cmd), Serves s fn 0x0B10 c ∧ numAt c.params 0 2 ≤ 311 ∧ byteAt c.params 2 ≤ 3 ∧
      zeroAt c.params 3 5 = true ∧ isExpert s 0x1E = false) ∧
    (∃ (s : State) (fn : Nat) (c : Cmd), Serves s fn 0x0B11 c ∧ numAt c.params 0 2 ≤ 311 ∧ zeroAt c.params 2 6 = true) ∧
    (∃ (s : State) (fn : Nat) (c : Cmd), Serves s fn 0x0B12 c ∧ numAt c.params 4 2 ≠ 0 ∧ numAt c.params 4 2 ≤ 128 ∧
      zeroAt c.params 6 2 = true) ∧
    (∃ (s : State) (fn : Nat) (c : Cmd), Serves s fn 0x0C00 c ∧ zeroAt c.params 0 8 = true) ∧
    (∃ (s : State) (fn : Nat) (c : Cmd), Serves s fn 0x0C01 c ∧ numAt c.params 4 2 ≠ 0 ∧ numAt c.params 4 2 ≤ 64 ∧
      zeroAt c.params 6 2 = true) :=
  ⟨⟨(srv 0 0x0B00 [3, 0, 2, 0, 0, 0, 0, 0]),
    (0),
    (cmdOf 0x0B00 [3, 0, 2, 0, 0, 0, 0, 0]), by decide⟩,
   ⟨(srv 0 0x0B01 [3, 0, 2, 0, 3, 7, 0, 0, 9, 0, 0, 0, 0, 0, 0, 0]),
    (0),
    (cmdOf 0x0B01 [3, 0, 2, 0, 3, 7, 0, 0, 9, 0, 0, 0, 0, 0, 0, 0]), by decide⟩,
   ⟨(srv 0 0x0B01 [3, 0, 2, 0, 3, 0, 0, 0, 9, 0, 0, 0, 0, 0, 0, 0]),
    (0),
    (cmdOf 0x0B01 [3, 0, 2, 0, 3, 0, 0, 0, 9, 0, 0, 0, 0, 0, 0, 0]), by decide⟩,
   ⟨(open0 ((srv 0 0x0B02 [0, 1, 1, 0, 0, 0, 0, 0, 5, 0]))),
    (0),
    (cmdOf 0x0B02 [0, 1, 1, 0, 0, 0, 0, 0, 5, 0]),
    ([5]), by decide⟩,
   ⟨(srv 0 0x0B03 [3, 3, 8, 2, 1, 0, 0, 0, 7, 0, 0, 0, 0, 0, 0, 0]),
    (0),
    (cmdOf 0x0B03 [3, 3, 8, 2, 1, 0, 0, 0, 7, 0, 0, 0, 0, 0, 0, 0]), by decide⟩,
   ⟨(srv 0 0x0B03 [3, 3, 99, 2, 1, 0, 0, 0, 0, 0, 0, 0, 0, 0, 0, 0]),
    (0),
    (cmdOf 0x0B03 [3, 3, 99, 2, 1, 0, 0, 0, 0, 0, 0, 0, 0, 0, 0, 0]), by decide⟩,
   ⟨(srv 0 0x0B04 [3, 0, 0, 0, 0, 0, 0, 0]),
    (0),
    (cmdOf 0x0B04 [3, 0, 0, 0, 0, 0, 0, 0]), by decide⟩,
   ⟨(srv 0 0x0B05 [9, 0, 0, 1, 0, 1, 2, 0]),
    (0),
    (cmdOf 0x0B05 [9, 0, 0, 1, 0, 1, 2, 0]), by decide⟩,
   ⟨(srv 0 0x0B06 [3, 0, 0, 0, 2, 0, 0, 0]),
    (0),
    (cmdOf 0x0B06 [3, 0, 0, 0, 2, 0, 0, 0]), by decide⟩,
   ⟨(srv 0 0x0B10 [33, 0, 2, 0, 0, 0, 0, 0]),
    (0),
    (cmdOf 0x0B10 [33, 0, 2, 0, 0, 0, 0, 0]), by decide⟩,
   ⟨(srv 0 0x0B11 [33, 0, 0, 0, 0, 0, 0, 0]),
    (0),
    (cmdOf 0x0B11 [33, 0, 0, 0, 0, 0, 0, 0]), by decide⟩,
   ⟨(srv 0 0x0B12 [3, 0, 0, 0, 2, 0, 0, 0]),
    (0),
    (cmdOf 0x0B12 [3, 0, 0, 0, 2, 0, 0, 0]), by decide⟩,
   ⟨(srv 0 0x0C00 [0, 0, 0, 0, 0, 0, 0, 0]),
    (0),
    (cmdOf 0x0C00 [0, 0, 0, 0, 0, 0, 0, 0]), by decide⟩,
   ⟨(srv 0 0x0C01 [3, 0, 0, 0, 2, 0, 0, 0]),
    (0),
    (cmdOf 0x0C01 [3, 0, 0, 0, 2, 0, 0, 0]), by decide⟩⟩

/-- Every clause of TwinAndMoverCommandsComplete has a state and operands that meet its hypotheses. -/
theorem witness_TwinAndMoverCommandsComplete :
    (∃ (s : State) (fn : Nat) (c : Cmd), Serves s fn 0x0A00 c ∧ zeroAt c.params 0 8 = true) ∧
    (∃ (s : State) (fn : Nat) (c : Cmd), Serves s fn 0x0A01 c ∧ byteAt c.params 2 ≤ 7 ∧ zeroAt c.params 3 5 = true ∧
      (bitAt (byteAt c.params 2) 0 && byteAt c.params 0 > 1) = false ∧ (bitAt (byteAt c.params 2) 1 && byteAt c.params 1 > 1) = false ∧
      (bitAt (byteAt c.params 2) 2 && numAt c.params 8 8 % 2 ^ 21 != 0) = false ∧ byteAt c.params 2 ≠ 0 ∧ onPartner s = false ∧
      isExpert s 0x1C = false) ∧
    (∃ (s : State) (fn : Nat) (c : Cmd), Serves s fn 0x0A01 c ∧ byteAt c.params 2 = 0 ∧ zeroAt c.params 3 5 = true) ∧
    (∃ (s : State) (fn : Nat) (c : Cmd), Serves s fn 0x0A02 c ∧ zeroAt c.params 0 8 = true ∧ onPartner s = false) ∧
    (∃ (s : State) (fn : Nat) (c : Cmd) (u : State), Serves s fn 0x0A03 c ∧ zeroAt c.params 0 8 = true ∧ s.twn.state = .partnerDead ∧
      s.twn.adopted = false ∧ s.twn.adopting = [] ∧ mirrorComplete s = true ∧ startAdoption s = u ∧ u.twn.adopted = false) ∧
    (∃ (s : State) (fn : Nat) (c : Cmd) (u : State), Serves s fn 0x0A03 c ∧ zeroAt c.params 0 8 = true ∧ s.twn.state = .partnerDead ∧
      s.twn.adopted = false ∧ s.twn.adopting = [] ∧ mirrorComplete s = true ∧ startAdoption s = u ∧ u.twn.adopted = true) ∧
    (∃ (s : State) (fn : Nat) (c : Cmd) (g : Nat) (q : Nat) (ch : Nat), Serves s fn 0x0D00 c ∧ byteAt c.params 1 ≤ 3 ∧
      zeroAt c.params 2 2 = true ∧ byteAt c.params 8 ≤ 3 ∧ zeroAt c.params 9 7 = true ∧ tenantOk s fn (byteAt c.params 0) = true ∧
      schedGroup s fn (numAt c.params 4 4) = .inl g ∧ q = 4 * g + byteAt c.params 8 ∧ (queueOf s q).st ≠ .disabled ∧
      (queueOf s q).fn = byteAt c.params 0 ∧ freeChannel s = some ch) ∧
    (∃ (s : State) (fn : Nat) (c : Cmd), Serves s fn 0x0D01 c ∧ byteAt c.params 0 ≤ 31 ∧ zeroAt c.params 1 7 = true ∧
      chanOk s fn (byteAt c.params 0) = true ∧ chanBusy s (byteAt c.params 0) = false) ∧
    (∃ (s : State) (fn : Nat) (c : Cmd), Serves s fn 0x0D02 c ∧ byteAt c.params 0 ≤ 31 ∧ zeroAt c.params 1 7 = true ∧
      (fn != 0 && !chanOk s fn (byteAt c.params 0)) = false) ∧
    (∃ (s : State) (fn : Nat) (c : Cmd) (x : Channel), Serves s fn 0x0D03 c ∧ byteAt c.params 0 ≤ 31 ∧ byteAt c.params 1 ≤ 3 ∧
      zeroAt c.params 2 6 = true ∧ chanOk s fn (byteAt c.params 0) = true ∧ chanOf s (byteAt c.params 0) = x) ∧
    (∃ (s : State) (fn : Nat) (c : Cmd), Serves s fn 0x0D04 c ∧ byteAt c.params 1 ≤ 1 ∧ zeroAt c.params 2 6 = true ∧
      (byteAt c.params 1 != 0 && isExpert s 0x08) = false) :=
  ⟨⟨(srv 0 0x0A00 [0, 0, 0, 0, 0, 0, 0, 0]),
    (0),
    (cmdOf 0x0A00 [0, 0, 0, 0, 0, 0, 0, 0]), by decide⟩,
   ⟨(srv 0 0x0A01 [1, 0, 7, 0, 0, 0, 0, 0, 0, 0, 32, 0, 0, 0, 0, 0]),
    (0),
    (cmdOf 0x0A01 [1, 0, 7, 0, 0, 0, 0, 0, 0, 0, 32, 0, 0, 0, 0, 0]), by decide⟩,
   ⟨(srv 0 0x0A01 [9, 9, 0, 0, 0, 0, 0, 0, 1, 0, 32, 0, 0, 0, 0, 0]),
    (0),
    (cmdOf 0x0A01 [9, 9, 0, 0, 0, 0, 0, 0, 1, 0, 32, 0, 0, 0, 0, 0]), by decide⟩,
   ⟨(srv 0 0x0A02 [0, 0, 0, 0, 0, 0, 0, 0]),
    (0),
    (cmdOf 0x0A02 [0, 0, 0, 0, 0, 0, 0, 0]), by decide⟩,
   ⟨(deadPartner (open0 ((srv 0 0x0A03 [0, 0, 0, 0, 0, 0, 0, 0]))) [(9, mirQueue9)]),
    (0),
    (cmdOf 0x0A03 [0, 0, 0, 0, 0, 0, 0, 0]),
    (startAdoption (deadPartner (open0 (srv 0 0x0A03 [0, 0, 0, 0, 0, 0, 0, 0])) [(9, mirQueue9)])), by decide⟩,
   ⟨(deadPartner ((srv 0 0x0A03 [0, 0, 0, 0, 0, 0, 0, 0])) []),
    (0),
    (cmdOf 0x0A03 [0, 0, 0, 0, 0, 0, 0, 0]),
    (startAdoption (deadPartner (srv 0 0x0A03 [0, 0, 0, 0, 0, 0, 0, 0]) [])), by decide⟩,
   ⟨(setQueue ((srv 0 0x0D00 [0, 2, 0, 0, 0, 0, 0, 0, 1, 0, 0, 0, 0, 0, 0, 0])) 1 { st := .active }),
    (0),
    (cmdOf 0x0D00 [0, 2, 0, 0, 0, 0, 0, 0, 1, 0, 0, 0, 0, 0, 0, 0]),
    (0),
    (1),
    (0), by decide⟩,
   ⟨(setChan ((srv 0 0x0D01 [2, 0, 0, 0, 0, 0, 0, 0])) 2 { st := .idle, queue := 1 }),
    (0),
    (cmdOf 0x0D01 [2, 0, 0, 0, 0, 0, 0, 0]), by decide⟩,
   ⟨(srv 0 0x0D02 [2, 0, 0, 0, 0, 0, 0, 0]),
    (0),
    (cmdOf 0x0D02 [2, 0, 0, 0, 0, 0, 0, 0]), by decide⟩,
   ⟨(setChan ((srv 0 0x0D03 [2, 3, 0, 0, 0, 0, 0, 0])) 2 { st := .idle, queue := 1 }),
    (0),
    (cmdOf 0x0D03 [2, 3, 0, 0, 0, 0, 0, 0]),
    (chan2), by decide⟩,
   ⟨(srv 0 0x0D04 [9, 1, 0, 0, 0, 0, 0, 0]),
    (0),
    (cmdOf 0x0D04 [9, 1, 0, 0, 0, 0, 0, 0]), by decide⟩⟩

/-- Every clause of DrainCommandsComplete has a state and operands that meet its hypotheses. -/
theorem witness_DrainCommandsComplete :
    (∃ (s : State) (fn : Nat) (c : Cmd) (q : Nat) (x : Queue) (a : State) (b : State) (u : State) (w : List Byte) (rest : List (Idx ×
        Bool)), Serves s fn 0x0183 c ∧ namedQueue s fn c.params = .inl q ∧ queueOf s q = x ∧ x.st ≠ .disabled ∧
      beginDrain s q false = (a, some w) ∧
      ungrouped (releaseQueue ((dueRecords a q).foldl (putStatus q) a) q) q (x.last - x.cons).toNat [] = (b, some rest) ∧
      endDrain b q x rest = (u, true)) ∧
    (∃ (s : State) (fn : Nat) (c : Cmd) (q : Nat) (x : Queue) (a : State) (b : State) (u : State) (w : List Byte) (rest : List (Idx ×
        Bool)), Serves s fn 0x0184 c ∧ namedQueue s fn c.params = .inl q ∧ queueOf s q = x ∧ x.st ≠ .disabled ∧
      beginDrain s q true = (a, some w) ∧
      ungrouped (releaseQueue ((dueRecords a q).foldl (putStatus q) a) q) q (x.last - x.cons).toNat [] = (b, some rest) ∧
      endDrain b q x rest = (u, true)) :=
  ⟨⟨(withQueue ((srv 0 0x0183 [0, 0, 0, 0, 1, 0, 0, 0]))),
    (0),
    (cmdOf 0x0183 [0, 0, 0, 0, 1, 0, 0, 0]),
    (1),
    (queue1),
    ((beginDrain (withQueue (srv 0 0x0183 [0, 0, 0, 0, 1, 0, 0, 0])) 1 false).1),
    (releaseQueue (beginDrain (withQueue (srv 0 0x0183 [0, 0, 0, 0, 1, 0, 0, 0])) 1 false).1 1),
    ((endDrain (releaseQueue (beginDrain (withQueue (srv 0 0x0183 [0, 0, 0, 0, 1, 0, 0, 0])) 1 false).1 1) 1 queue1 []).1),
    ([]),
    ([]), by decide⟩,
   ⟨(withQueue ((srv 0 0x0184 [0, 0, 0, 0, 1, 0, 0, 0]))),
    (0),
    (cmdOf 0x0184 [0, 0, 0, 0, 1, 0, 0, 0]),
    (1),
    (queue1),
    ((beginDrain (withQueue (srv 0 0x0184 [0, 0, 0, 0, 1, 0, 0, 0])) 1 true).1),
    (releaseQueue (beginDrain (withQueue (srv 0 0x0184 [0, 0, 0, 0, 1, 0, 0, 0])) 1 true).1 1),
    ((endDrain (releaseQueue (beginDrain (withQueue (srv 0 0x0184 [0, 0, 0, 0, 1, 0, 0, 0])) 1 true).1 1) 1 queue1 []).1),
    ([0, 0, 0, 0]),
    ([]), by decide⟩⟩

/-- Every clause of AdminQueueEventsComplete has a state and operands that meet its hypotheses. -/
theorem witness_AdminQueueEventsComplete :
    (∃ (s : State) (fn : Nat) (a : AdmQ) (t : State) (h : List Byte) (c : Cmd), running s = true ∧ s.cur.ready = true ∧
      busyCores s < runningCores s ∧ nextTenant s = some fn ∧ admOf s fn = a ∧ hostRead s fn (commandSlot a) 64 = (t, some h) ∧
      paramBytes h = 0 ∧ framingStatus fn a.cons h [] = stOk ∧ cmdIn t a h [] = c) ∧
    (∃ (s : State) (fn : Nat) (a : AdmQ) (t : State) (u : State) (h : List Byte) (p : List Byte) (n : Nat) (c : Cmd), running s = true
        ∧ s.cur.ready = true ∧ busyCores s < runningCores s ∧ nextTenant s = some fn ∧ admOf s fn = a ∧
      hostRead s fn (commandSlot a) 64 = (t, some h) ∧ paramBytes h = n + 1 ∧
      hostRead t fn (commandSlot a + 64) (n + 1) = (u, some p) ∧ framingStatus fn a.cons h p = stOk ∧ cmdIn u a h p = c) ∧
    (∃ (s : State) (fn : Nat) (a : AdmQ) (t : State) (c : Cmd), running s = true ∧ s.cur.ready = true ∧ busyCores s < runningCores s ∧
      nextTenant s = some fn ∧ admOf s fn = a ∧ hostRead s fn (commandSlot a) 64 = (t, none) ∧ unreadCmd t a = c) ∧
    (∃ (s : State) (fn : Nat) (st : Nat) (w : Nat) (r : Nat) (d : Nat) (c : Cmd) (resp : List Byte), running s = true ∧
      (admOf s fn).cmd = some c ∧ c.wait = .ready r resp d) ∧
    (∃ (s : State) (fn : Nat) (w : Nat) (c : Cmd), running s = true ∧ (admOf s fn).cmd = some c ∧ c.wait = .lockPeer) ∧
    (∃ (s : State) (fn : Nat) (c : Cmd), (running s = true ∧ (admOf s fn).cmd = some c) ∧ now s ≥ c.tTaken + 250000000) ∧
    (∃ (s : State) (fn : Nat) (core : Nat) (t : State), running s = true ∧ core < 4 ∧ s.cur.cores.getD core false = true ∧
      { s with cur := { s.cur with cores := s.cur.cores.set core false } } = t) ∧
    (∃ (s : State) (fn : Nat) (v : BitVec 32), running s = true ∧ reaches s fn = true ∧ fn < 256 ∧ (admOf s fn).st = .disabled ∧
      6 ≤ v.toNat % 32 ∧ v.toNat % 32 ≤ 16) ∧
    (∃ (s : State) (fn : Nat) (v : BitVec 32), running s = true ∧ reaches s fn = true ∧ fn < 256 ∧ (admOf s fn).st ≠ .disabled) ∧
    (∃ (s : State) (fn : Nat) (v : Idx) (a : AdmQ), running s = true ∧ reaches s fn = true ∧ fn < 256 ∧ admOf s fn = a ∧
      (v - a.cons).toNat ≤ 2 ^ a.log2 ∧ (v - a.cons).toNat > (a.last - a.cons).toNat) ∧
    (∃ (s : State) (fn : Nat) (v : Idx) (a : AdmQ), running s = true ∧ reaches s fn = true ∧ fn < 256 ∧ admOf s fn = a ∧
      (v - a.cons).toNat ≤ 2 ^ a.log2 ∧ (v - a.cons).toNat ≤ (a.last - a.cons).toNat) ∧
    (∃ (s : State) (fn : Nat) (v : Idx) (a : AdmQ), running s = true ∧ reaches s fn = true ∧ fn < 256 ∧ admOf s fn = a ∧
      (v - a.cons).toNat > 2 ^ a.log2) :=
  ⟨⟨(waiting0 0),
    (0),
    (admQ0),
    ((hostRead (waiting0 0) 0 4096 64).1),
    (leBytes 64 0x0100),
    (cmdIn (hostRead (waiting0 0) 0 4096 64).1 admQ0 (leBytes 64 0x0100) []), by decide⟩,
   ⟨(waiting0 8),
    (0),
    (admQ0),
    ((hostRead (waiting0 8) 0 4096 64).1),
    ((hostRead (hostRead (waiting0 8) 0 4096 64).1 0 4160 8).1),
    (leBytes 64 (0x0103 + 8 * 2 ^ 32)),
    (leBytes 8 0),
    (7),
    (cmdIn (hostRead (hostRead (waiting0 8) 0 4096 64).1 0 4160 8).1 admQ0 (leBytes 64 (0x0103 + 8 * 2 ^ 32)) (leBytes 8 0)), by decide⟩,
   ⟨(waiting0 badRead),
    (0),
    (admQ0),
    ((hostRead (waiting0 badRead) 0 4096 64).1),
    (unreadCmd (hostRead (waiting0 badRead) 0 4096 64).1 admQ0), by decide⟩,
   ⟨(waits (.ready 0 [] 0)),
    (0),
    (0),
    (0),
    (0),
    (0),
    { cmdOf 0x0100 [] with wait := .ready 0 [] 0 },
    ([]), by decide⟩,
   ⟨(waits .lockPeer),
    (0),
    (5),
    { cmdOf 0x0100 [] with wait := .lockPeer }, by decide⟩,
   ⟨(aged (waits .lockPeer)),
    (0),
    { cmdOf 0x0100 [] with wait := .lockPeer }, by decide, Nat.le_refl _⟩,
   ⟨(up),
    (0),
    (2),
    { up with cur := { up.cur with cores := up.cur.cores.set 2 false } }, by decide⟩,
   ⟨(open0 up),
    (0),
    (0x106), by decide⟩,
   ⟨(open0 (waiting0 0)),
    (0),
    (6), by decide⟩,
   ⟨(open0 (waiting0 0)),
    (0),
    (2),
    (admQ0), by decide⟩,
   ⟨(open0 (waiting0 0)),
    (0),
    (1),
    (admQ0), by decide⟩,
   ⟨(open0 (waiting0 0)),
    (0),
    (65),
    (admQ0), by decide⟩⟩

/-- Every clause of RingStoresAndLockWordsComplete has a state and operands that meet its hypotheses. -/
theorem witness_RingStoresAndLockWordsComplete :
    (∃ (s : State) (fn : Nat) (offset : Nat) (g : Nat) (q : Nat) (v : Idx) (t : State) (x : Queue), running s = true ∧
      reaches s fn = true ∧ (fnOf s fn).sinceFlr = false ∧ pageGroup s fn (offset / 4096) = some g ∧ offset % 64 = 0 ∧
      offset % 4096 / 64 ≤ 3 ∧ q = 4 * g + offset % 4096 / 64 ∧ (queueOf s q).st ≠ .disabled ∧ (queueOf s q).st ≠ .draining ∧
      modQueue s q (fun x => { x with adopted := false }) = t ∧ queueOf t q = x ∧ (v - x.cons).toNat ≤ 2 ^ x.log2 ∧
      (v - x.cons).toNat > (x.last - x.cons).toNat) ∧
    (∃ (s : State) (fn : Nat) (offset : Nat) (g : Nat) (q : Nat) (v : Idx) (t : State) (x : Queue), running s = true ∧
      reaches s fn = true ∧ (fnOf s fn).sinceFlr = false ∧ pageGroup s fn (offset / 4096) = some g ∧ offset % 64 = 0 ∧
      offset % 4096 / 64 ≤ 3 ∧ q = 4 * g + offset % 4096 / 64 ∧ (queueOf s q).st ≠ .disabled ∧ (queueOf s q).st ≠ .draining ∧
      modQueue s q (fun x => { x with adopted := false }) = t ∧ queueOf t q = x ∧ (v - x.cons).toNat ≤ 2 ^ x.log2 ∧
      (v - x.cons).toNat ≤ (x.last - x.cons).toNat) ∧
    (∃ (s : State) (fn : Nat) (offset : Nat) (g : Nat) (q : Nat) (v : Idx) (t : State) (x : Queue), running s = true ∧
      reaches s fn = true ∧ (fnOf s fn).sinceFlr = false ∧ pageGroup s fn (offset / 4096) = some g ∧ offset % 64 = 0 ∧
      offset % 4096 / 64 ≤ 3 ∧ q = 4 * g + offset % 4096 / 64 ∧ (queueOf s q).st ≠ .disabled ∧ (queueOf s q).st ≠ .draining ∧
      modQueue s q (fun x => { x with adopted := false }) = t ∧ queueOf t q = x ∧ (v - x.cons).toNat > 2 ^ x.log2) ∧
    (∃ (s : State) (fn : Nat) (offset : Nat) (bytes : List Byte), running s = true ∧ reaches s fn = true ∧
      (fnOf s fn).sinceFlr = false ∧ s.hif.wcEn = true) ∧
    (∃ (s : State) (fn : Nat) (offset : Nat) (g : Nat) (a : Nat) (b : Byte), running s = true ∧ reaches s fn = true ∧
      (fnOf s fn).sinceFlr = false ∧ s.hif.wcEn = true ∧ pageGroup s fn (offset / 2048) = some g ∧ offset % 2048 = a ∧
      s.hif.wc.all (fun x => !(x.group == g && x.slot == a / 512 && x.j8 == a % 512 / 64)) = true ∧ s.hif.wc.length < 1024) ∧
    (∃ (s : State) (v : BitVec 32) (x : Channel), running s = true ∧ reaches s 0 = true ∧ chanOf s (v.toNat % 32) = x ∧
      x.job.isSome = true ∧ x.chain = true) ∧
    (∃ (s : State) (v : BitVec 32), running s = true ∧ reaches s 0 = true ∧ (chanOf s (v.toNat % 32)).job = none) ∧
    (∃ (s : State) (n : Nat) (v : BitVec 32) (u : State) (out : LockOut), running s = true ∧ n < 4096 ∧ fnMayLock s 0 n = true ∧
      v.toNat < 2 ^ 17 ∧ field v.toNat 0 16 ≠ 0 ∧ field v.toNat 0 16 ≤ 63 ∧
      lockWrite s n (field v.toNat 0 16) (bitAt v.toNat 16) = (u, out)) ∧
    (∃ (s : State) (n : Nat), running s = true ∧ n < 4096 ∧ fnMayLock s 0 n = true ∧ (lockOf s n).owner = 0) ∧
    (∃ (s : State) (n : Nat), running s = true ∧ n < 4096 ∧ fnMayLock s 0 n = true ∧ (lockOf s n).owner ≠ 0 ∧ waitsHeld s < 64) ∧
    (∃ (s : State) (n : Nat) (w : Nat) (r : WaitRead), running s = true ∧
      s.pal.waits.find? (fun r => r.lock == n && (r.word.isSome || decide (now s ≥ r.at_ + 10000))) = some r ∧ r.word = some w) ∧
    (∃ (s : State) (n : Nat) (r : WaitRead), running s = true ∧
      s.pal.waits.find? (fun r => r.lock == n && (r.word.isSome || decide (now s ≥ r.at_ + 10000))) = some r ∧ r.word = none) ∧
    (∃ (s : State) (fn : Nat) (v : Nat) (t : State) (u : State) (x : MsixVec), running s = true ∧ reaches s fn = true ∧
      v < vectorsOf s fn ∧ setVec s fn v { vecOf s fn v with masked := false } = t ∧ (fnOf t fn).msixEn = true ∧
      (fnOf t fn).fnMask = false ∧ (vecOf t fn v).masked = false ∧ (fnOf t fn).pend.contains v = true ∧ canAccess t fn = true ∧
      vecOf t fn v = x ∧ ringsSent (setFn (pushWrites t fn) fn (fun f => { f with pend := without f.pend v })) fn v = u) ∧
    (∃ (s : State) (fn : Nat) (v : Nat) (t : State), running s = true ∧ reaches s fn = true ∧ v < vectorsOf s fn ∧
      setVec s fn v { vecOf s fn v with masked := false } = t ∧ (fnOf t fn).pend.contains v = false) :=
  ⟨⟨(bell),
    (0),
    (64),
    (0),
    (1),
    (2),
    (modQueue bell 1 (fun x => { x with adopted := false })),
    (queue1), by decide⟩,
   ⟨(bell),
    (0),
    (64),
    (0),
    (1),
    (0),
    (modQueue bell 1 (fun x => { x with adopted := false })),
    (queue1), by decide⟩,
   ⟨(bell),
    (0),
    (64),
    (0),
    (1),
    (65),
    (modQueue bell 1 (fun x => { x with adopted := false })),
    (queue1), by decide⟩,
   ⟨(wcOn),
    (0),
    (64),
    ([1, 2]), by decide⟩,
   ⟨(wcOn),
    (0),
    (70),
    (0),
    (70),
    (3), by decide⟩,
   ⟨(setChan (open0 up) 2 chained),
    (2),
    (chained), by decide⟩,
   ⟨(open0 up),
    (2), by decide⟩,
   ⟨(cfg0 up),
    (3),
    (1),
    ((lockWrite (cfg0 up) 3 1 false).1),
    (.won), by decide⟩,
   ⟨(cfg0 up),
    (3), by decide⟩,
   ⟨(setLock (cfg0 up) 3 { owner := 2 }),
    (3), by decide⟩,
   ⟨(heldRead (some 7)),
    (3),
    (7),
    { lock := 3, fn := 0, at_ := 0, word := some 7 }, by decide⟩,
   ⟨(aged (heldRead none)),
    (3),
    { lock := 3, fn := 0, at_ := 0 }, by decide⟩,
   ⟨(pendingVec),
    (0),
    (3),
    (unmasked),
    (ringsSent (setFn (pushWrites unmasked 0) 0 (fun f => { f with pend := without f.pend 3 })) 0 3),
    (vec3), by decide⟩,
   ⟨(open0 up),
    (0),
    (3),
    (setVec (open0 up) 0 3 { vecOf up 0 3 with masked := false }), by decide⟩⟩

/-- Every clause of RegisterAccessesComplete has a state and operands that meet its hypotheses. -/
theorem witness_RegisterAccessesComplete :
    (∃ (s : State) (w : Nat → Nat), running s = true ∧ reaches s 0 = true ∧ fmFind s.hif.latch (latchKey 0 0x00100040) = none ∧
      recordWord (replyBytes (admOf s 0).mailbox) = w) ∧
    (∃ (s : State) (fn : Nat) (offset : Nat) (width : Nat) (r : RegAt) (t : State) (u : State), running s = true ∧
      reaches s fn = true ∧ offset < bar0Size fn ∧ locate s fn offset width = some r ∧ r.upper = false ∧ r.name ≠ .palLock ∧
      r.name ≠ .palWait ∧ r.name ≠ .userTs ∧ width = r.width ∧ fmFind s.hif.latch (latchKey fn r.at_) = none ∧ sampleRead s r = t ∧
      latchCompanions (dropLatch fn r.at_ t) fn r = u) ∧
    (∃ (s : State) (fn : Nat) (offset : Nat) (v : Nat) (r : RegAt), running s = true ∧ reaches s fn = true ∧ offset < bar0Size fn ∧
      locate s fn offset 32 = some r ∧ r.upper = true ∧ r.name ≠ .palLock ∧ r.name ≠ .palWait ∧ isMsix r.name = false ∧
      fmFind s.hif.latch (latchKey fn (r.at_ + 4)) = some v) ∧
    (∃ (s : State) (fn : Nat) (bar : Nat) (offset : Nat) (width : Nat), running s = true ∧ reaches s fn = true ∧
      ((bar = 2 ∨ bar = 4)) ∧ fn ≠ 256) ∧
    (∃ (s : State) (offset : Nat) (r : RegAt) (u : State), running s = true ∧ offset < 4096 ∧ reaches s 0 = true ∧
      locate s 0 (0x02090000 + offset) 64 = some r ∧ r.name = .userValue ∧ r.upper = false ∧ r.width = 64 ∧
      fmFind s.hif.latch (latchKey 0 r.at_) = none ∧ latchCompanions (dropLatch 0 r.at_ s) 0 r = u) ∧
    (∃ (s : State) (offset : Nat) (width : Nat) (v : BitVec 64) (r : RegAt), running s = true ∧ reaches s 0 = true ∧
      offset < bar0Size 0 ∧ locate s 0 offset width = some r ∧ ((width = 64 ∨ r.width = 32)) ∧ exempt r.name = false ∧
      ((controlled r.name).1 || (controlled r.name).2) = true ∧ isExpert s (r.at_ / 2 ^ 20) = true) ∧
    (∃ (s : State) (fn : Nat) (offset : Nat) (width : Nat) (v : BitVec 64) (r : RegAt), running s = true ∧ reaches s fn = true ∧
      offset < bar0Size fn ∧ locate s fn offset width = some r ∧ ((width = 64 ∨ r.width = 32)) ∧ exempt r.name = false ∧
      ((controlled r.name).1 || (controlled r.name).2) = true ∧ (fn != 0 || !isExpert s (r.at_ / 2 ^ 20)) = true) ∧
    (∃ (s : State) (fn : Nat) (offset : Nat) (width : Nat) (v : BitVec 64) (r : RegAt), running s = true ∧ reaches s fn = true ∧
      offset < bar0Size fn ∧ locate s fn offset width = some r ∧ ((width = 64 ∨ r.width = 32)) ∧ exempt r.name = false ∧
      r.name ≠ .userValue ∧ r.name ≠ .userTs ∧ ((controlled r.name).1 || (controlled r.name).2) = false) ∧
    (∃ (s : State) (fn : Nat) (offset : Nat) (v : BitVec 64) (r : RegAt), running s = true ∧ reaches s fn = true ∧
      offset < bar0Size fn ∧ locate s fn offset 32 = some r ∧ r.width = 64 ∧ isMsix r.name = false ∧ r.name ≠ .userValue ∧
      r.name ≠ .userTs ∧ r.upper = false) ∧
    (∃ (s : State) (port : Nat) (v : BitVec 32), running s = true ∧ isExpert s 0x12 = true ∧ hasLanes port = true ∧
      ((port = 14 → twinPaired s = false))) ∧
    (∃ (s : State) (fn : Nat) (port : Nat) (v : BitVec 32), running s = true ∧ (fn != 0 || !isExpert s 0x12) = true) ∧
    (∃ (s : State) (port : Nat), running s = true ∧ isExpert s 0x18 = true ∧ port < 12 ∧ s.mvt.adminFence.contains port = false) ∧
    (∃ (s : State) (fn : Nat) (port : Nat), running s = true ∧ hasLanes port = true ∧ (fn != 0 || !isExpert s 0x18) = true) ∧
    (∃ (s : State) (fn : Nat) (offset : Nat) (width : Nat) (sparse : Bool), running s = true ∧ reaches s fn = true ∧
      offset < bar0Size fn ∧ ((locate s fn offset width).isSome && !sparse) = false) ∧
    (∃ (s : State) (fn : Nat) (offset : Nat) (width : Nat) (sparse : Bool), running s = true ∧ reaches s fn = true ∧
      offset < bar0Size fn ∧ ((locate s fn offset width).isSome && !sparse) = false) :=
  ⟨⟨(open0 up),
    (recordWord (replyBytes (admOf up 0).mailbox)), by decide, by decide, by decide, rfl⟩,
   ⟨(open0 up),
    (0),
    (0x01400000),
    (64),
    (⟨.stkState, 0, 0x01400000, 64, false⟩),
    (open0 up),
    (latchCompanions (dropLatch 0 0x01400000 (open0 up)) 0 ⟨.stkState, 0, 0x01400000, 64, false⟩), by decide⟩,
   ⟨(setLatch 0 0x01600004 9 (open0 up)),
    (0),
    (0x01600004),
    (9),
    (⟨.rglTime, 0, 0x01600000, 64, true⟩), by decide⟩,
   ⟨(open0 up),
    (0),
    (4),
    (8),
    (64), by decide⟩,
   ⟨(withPage),
    (0),
    (⟨.userValue, 0, 0x02090000, 64, false⟩),
    (latchCompanions (dropLatch 0 0x02090000 withPage) 0 ⟨.userValue, 0, 0x02090000, 64, false⟩), by decide⟩,
   ⟨(inExpert 0x16),
    (0x01600018),
    (32),
    (5),
    (⟨.rglCfg, 0, 0x01600018, 32, false⟩), by decide⟩,
   ⟨(open0 up),
    (0),
    (0x01600018),
    (32),
    (5),
    (⟨.rglCfg, 0, 0x01600018, 32, false⟩), by decide⟩,
   ⟨(open0 up),
    (0),
    (0x01600000),
    (64),
    (5),
    (⟨.rglTime, 0, 0x01600000, 64, false⟩), by decide⟩,
   ⟨(open0 up),
    (0),
    (0x01C00008),
    (5),
    (⟨.twnMirrorBase, 0, 0x01C00008, 64, false⟩), by decide⟩,
   ⟨(inExpert 0x12),
    (3),
    (1), by decide⟩,
   ⟨(up),
    (0),
    (3),
    (1), by decide⟩,
   ⟨(inExpert 0x18),
    (3), by decide⟩,
   ⟨(up),
    (0),
    (3), by decide⟩,
   ⟨(open0 up),
    (0),
    (12),
    (64),
    (false), by decide⟩,
   ⟨(open0 up),
    (0),
    (12),
    (64),
    (false), by decide⟩⟩

/-- Every clause of JobCommandsTakeTheNextJob has a state and operands that meet its hypotheses. -/
theorem witness_JobCommandsTakeTheNextJob :
    (∃ (s : State) (q : Nat) (p : Nat × (Nat → Instr)) (t : State) (u : State) (l : List Line) (broken : Bool) (j : Job), p ∈
        jobCommands ∧ running s = true ∧ startable s q p.1 = none ∧ mayStart s q = true ∧ barrierStands s q = false ∧
      groupNext s q = (t, .job l broken) ∧ newJob t q l broken = j ∧ j.opcode = p.1 ∧ j.malformed = false ∧ appendJob t q j = u) ∧
    (∃ (s : State) (q : Nat) (p : Nat × (Nat → Instr)) (t : State) (u : State) (l : List Line) (broken : Bool) (j : Job), p ∈
        jobCommands ∧ running s = true ∧ startable s q p.1 = none ∧ mayStart s q = true ∧ barrierStands s q = false ∧
      groupNext s q = (t, .job l broken) ∧ newJob t q l broken = j ∧ j.malformed = true ∧ appendJob t q j = u) ∧
    (∃ (s : State) (q : Nat) (p : Nat × (Nat → Instr)) (t : State) (l : List Line) (j : Job), p ∈ jobCommands ∧ running s = true ∧
      startable s q p.1 = none ∧ mayStart s q = true ∧ barrierStands s q = false ∧ groupNext s q = (t, .failed l) ∧
      { newJob t q (l ++ [0]) false with malformed := false } = j) :=
  ⟨⟨(posted 0x30000),
    (1),
    ((0x00, .nop)),
    (posted 0x30000),
    (appendJob (posted 0x30000) 1 (newJob (posted 0x30000) 1 [0x30000] false)),
    ([0x30000]),
    (false),
    (newJob (posted 0x30000) 1 [0x30000] false), by simp [jobCommands], by decide +kernel, by decide +kernel, by decide +kernel, by decide +kernel, by decide +kernel, by decide +kernel, by decide +kernel, by decide +kernel, rfl⟩,
   ⟨(posted 0x20000),
    (1),
    ((0x01, .put)),
    (posted 0x20000),
    (appendJob (posted 0x20000) 1 (newJob (posted 0x20000) 1 [0x20000] true)),
    ([0x20000]),
    (true),
    (newJob (posted 0x20000) 1 [0x20000] true), by simp [jobCommands], by decide +kernel, by decide +kernel, by decide +kernel, by decide +kernel, by decide +kernel, by decide +kernel, by decide +kernel, rfl⟩,
   ⟨(unreadable),
    (1),
    ((0x01, .put)),
    ((groupNext unreadable 1).1),
    ([]),
    { newJob (groupNext unreadable 1).1 1 [0] false with malformed := false }, by simp [jobCommands], by decide +kernel, by decide +kernel, by decide +kernel, by decide +kernel, by decide +kernel, rfl⟩⟩

/-- Every clause of JobsStartOnTheirTurn has a state and operands that meet its hypotheses. -/
theorem witness_JobsStartOnTheirTurn :
    (∃ (s : State) (q : Nat) (j : Job), running s = true ∧ startable s q 0x00 = some j ∧ j.opcode = 0x00 ∧ jobOf s q j.idx = some j) ∧
    (∃ (s : State) (q : Nat) (j : Job) (t : State) (u : State) (x : Ctx) (i : Job) (key : Nat) (off : Nat) (len : Nat) (need : Nat),
        running s = true ∧ startable s q 0x01 = some j ∧ j.opcode = 0x01 ∧ jobOf s q j.idx = some j ∧ beginJob s q j.idx = t ∧
      ctxOf t j.context = x ∧ x.peer = false ∧ x.fn = (queueOf t q).fn ∧ x.st = .connected ∧ fieldOwned t x.fn (jobCounter j) = true ∧
      jobOf t q j.idx = some i ∧ i.opcode ≠ 0x30 ∧ localRange i = some (key, off, len, need) ∧
      localOperand t q j.idx key off len need = (u, true) ∧ bindingOfQueue u q = none) ∧
    (∃ (s : State) (q : Nat) (j : Job) (t : State) (x : Ctx) (i : Job), running s = true ∧ startable s q 0x02 = some j ∧
      j.opcode = 0x02 ∧ jobOf s q j.idx = some j ∧ beginJob s q j.idx = t ∧ ctxOf t j.context = x ∧ x.peer = false ∧
      x.fn = (queueOf t q).fn ∧ x.st = .connected ∧ fieldOwned t x.fn (jobCounter j) = true ∧ jobOf t q j.idx = some i ∧
      i.opcode ≠ 0x30 ∧ localRange i = none ∧ bindingOfQueue t q = none) ∧
    (∃ (s : State) (q : Nat) (j : Job) (t : State) (u : State) (x : Ctx) (i : Job) (key : Nat) (off : Nat) (len : Nat) (need : Nat),
        running s = true ∧ startable s q 0x03 = some j ∧ j.opcode = 0x03 ∧ jobOf s q j.idx = some j ∧ beginJob s q j.idx = t ∧
      ctxOf t j.context = x ∧ x.peer = false ∧ x.fn = (queueOf t q).fn ∧ x.st = .connected ∧ fieldOwned t x.fn (jobCounter j) = true ∧
      jobOf t q j.idx = some i ∧ i.opcode ≠ 0x30 ∧ localRange i = some (key, off, len, need) ∧
      localOperand t q j.idx key off len need = (u, true) ∧ bindingOfQueue u q = none) ∧
    (∃ (s : State) (q : Nat) (j : Job) (t : State) (x : Ctx) (i : Job), running s = true ∧ startable s q 0x04 = some j ∧
      j.opcode = 0x04 ∧ jobOf s q j.idx = some j ∧ beginJob s q j.idx = t ∧ ctxOf t j.context = x ∧ x.peer = false ∧
      x.fn = (queueOf t q).fn ∧ x.st = .connected ∧ fieldOwned t x.fn (jobCounter j) = true ∧ jobOf t q j.idx = some i ∧
      i.opcode ≠ 0x30 ∧ localRange i = none ∧ bindingOfQueue t q = none) ∧
    (∃ (s : State) (q : Nat) (j : Job) (t : State) (u : State) (x : Ctx) (i : Job) (key : Nat) (off : Nat) (len : Nat) (need : Nat),
        running s = true ∧ startable s q 0x04 = some j ∧ j.opcode = 0x04 ∧ jobOf s q j.idx = some j ∧ beginJob s q j.idx = t ∧
      ctxOf t j.context = x ∧ x.peer = false ∧ x.fn = (queueOf t q).fn ∧ x.st = .connected ∧ fieldOwned t x.fn (jobCounter j) = true ∧
      jobOf t q j.idx = some i ∧ i.opcode ≠ 0x30 ∧ localRange i = some (key, off, len, need) ∧
      localOperand t q j.idx key off len need = (u, true) ∧ bindingOfQueue u q = none) ∧
    (∃ (s : State) (q : Nat) (j : Job) (t : State) (u : State) (x : Ctx) (i : Job) (key : Nat) (off : Nat) (len : Nat) (need : Nat),
        running s = true ∧ startable s q 0x21 = some j ∧ j.opcode = 0x21 ∧ jobOf s q j.idx = some j ∧ beginJob s q j.idx = t ∧
      ctxOf t j.context = x ∧ x.peer = false ∧ x.fn = (queueOf t q).fn ∧ x.st = .connected ∧ fieldOwned t x.fn (jobCounter j) = true ∧
      jobOf t q j.idx = some i ∧ i.opcode ≠ 0x30 ∧ localRange i = some (key, off, len, need) ∧
      localOperand t q j.idx key off len need = (u, true) ∧ bindingOfQueue u q = none) ∧
    (∃ (s : State) (q : Nat) (j : Job) (t : State) (x : Ctx) (i : Job), running s = true ∧ startable s q 0x22 = some j ∧
      j.opcode = 0x22 ∧ jobOf s q j.idx = some j ∧ beginJob s q j.idx = t ∧ ctxOf t j.context = x ∧ x.peer = false ∧
      x.fn = (queueOf t q).fn ∧ x.st = .connected ∧ fieldOwned t x.fn (jobCounter j) = true ∧ jobOf t q j.idx = some i ∧
      i.opcode ≠ 0x30 ∧ localRange i = none ∧ bindingOfQueue t q = none) ∧
    (∃ (s : State) (q : Nat) (j : Job) (t : State) (fn : Nat) (n : Nat), running s = true ∧ startable s q 0x08 = some j ∧
      j.opcode = 0x08 ∧ jobOf s q j.idx = some j ∧ modJob (beginJob s q j.idx) q j.idx (fun j => { j with built := true }) = t ∧
      (queueOf t q).fn = fn ∧ opnd j 128 13 = n ∧ counterOwned t n fn = true ∧ isPaired t = false) ∧
    (∃ (s : State) (q : Nat) (j : Job) (t : State) (fn : Nat) (n : Nat), running s = true ∧ startable s q 0x09 = some j ∧
      j.opcode = 0x09 ∧ jobOf s q j.idx = some j ∧ modJob (beginJob s q j.idx) q j.idx (fun j => { j with built := true }) = t ∧
      (queueOf t q).fn = fn ∧ opnd j 128 13 = n ∧ counterOwned t n fn = true ∧ isPaired t = false) ∧
    (∃ (s : State) (q : Nat) (j : Job) (t : State), running s = true ∧ startable s q 0x20 = some j ∧ j.opcode = 0x20 ∧
      jobOf s q j.idx = some j ∧ (earlierJobs s q j.idx).any (fun k => k.st != .done) = false ∧
      modJob (beginJob s q j.idx) q j.idx (fun j => { j with built := true }) = t ∧ (queueOf t q).unflushed = []) ∧
    (∃ (s : State) (q : Nat) (j : Job) (t : State) (e : Endpoint) (i : Job) (n : Nat), running s = true ∧ startable s q 0x30 = some j ∧
      j.opcode = 0x30 ∧ jobOf s q j.idx = some j ∧ isRdv s j = false ∧ beginJob s q j.idx = t ∧ isRdv t j = false ∧
      liveEp t j.context = some e ∧ e.owner = (queueOf s q).fn ∧ fieldOwned t e.owner (jobCounter j) = true ∧
      jobOf t q j.idx = some i ∧ localRange i = none ∧ i.opcode = 0x30 ∧ slotFor t (sendDest i).1 (sendDest i).2 = some n ∧
      bindingOfQueue t q = none) ∧
    (∃ (s : State) (q : Nat) (j : Job) (t : State) (u : State) (d : Endpoint) (e : Endpoint) (r : Recv), running s = true ∧
      startable s q 0x31 = some j ∧ j.opcode = 0x31 ∧ jobOf s q j.idx = some j ∧ liveEp s j.context = some d ∧ d.waiting = [] ∧
      (earlierJobs s q j.idx).any (fun k => k.opcode == 0x31 && k.st == .waiting && !k.malformed) = false ∧ beginJob s q j.idx = t ∧
      liveEp t j.context = some e ∧ e.owner = (queueOf s q).fn ∧ fieldOwned t e.owner (jobCounter j) = true ∧ recvOf q j = r ∧
      recvBuffer t r = (u, 0) ∧ findUnexp e r = (none, 0) ∧ postedCount u < 262144 ∧ e.posted.length < e.maxPosted) ∧
    (∃ (s : State) (q : Nat) (j : Job) (t : State) (u : State) (g : CarGroup) (o : CarOp), running s = true ∧
      startable s q 0x40 = some j ∧ j.opcode = 0x40 ∧ jobOf s q j.idx = some j ∧ carGroup s j.context = g ∧
      fmFind s.car.groups j.context ≠ none ∧ g.st = .active ∧ g.member = true ∧ g.tenant = (queueOf s q).fn ∧ g.queue = q ∧
      g.selfLost = false ∧ g.change = none ∧ memberOps g < 2 ∧
      (earlierJobs s q j.idx).any (fun k => k.opcode == 0x40 && !k.malformed && k.context == j.context && (k.st == .waiting || k.st ==
        .armed)) = false ∧ g.cutTo ≤ g.nextOp ∧ beginJob s q j.idx = t ∧ enterOp t j.context g j.idx = u ∧
      fieldOwned u g.tenant (jobCounter j) = true ∧ carOp (carGroup u j.context) g.nextOp = some o ∧ o.params = none) ∧
    (∃ (s : State) (q : Nat) (j : Job) (t : State) (x : Channel), running s = true ∧ startable s q 0x50 = some j ∧ j.opcode = 0x50 ∧
      jobOf s q j.idx = some j ∧ holdsChan s (queueOf s q).fn j.context = true ∧ (chanOf s j.context).queue = q ∧
      (chanOf s j.context).job = none ∧
      (earlierJobs s q j.idx).any (fun k => (k.opcode == 0x50 || k.opcode == 0x51) && !k.malformed && k.context == j.context &&
        !k.over) = false ∧ beginJob s q j.idx = t ∧ chanOf t j.context = x ∧ fieldOwned t (queueOf s q).fn (jobCounter j) = true) ∧
    (∃ (s : State) (q : Nat) (j : Job) (t : State) (x : Channel), running s = true ∧ startable s q 0x51 = some j ∧ j.opcode = 0x51 ∧
      jobOf s q j.idx = some j ∧ holdsChan s (queueOf s q).fn j.context = true ∧ (chanOf s j.context).queue = q ∧
      (chanOf s j.context).job = none ∧
      (earlierJobs s q j.idx).any (fun k => (k.opcode == 0x50 || k.opcode == 0x51) && !k.malformed && k.context == j.context &&
        !k.over) = false ∧ beginJob s q j.idx = t ∧ chanOf t j.context = x ∧ fieldOwned t (queueOf s q).fn (jobCounter j) = true) ∧
    (∃ (s : State) (q : Nat) (j : Job) (t : State), running s = true ∧ startable s q 0x52 = some j ∧ j.opcode = 0x52 ∧
      jobOf s q j.idx = some j ∧ beginJob s q j.idx = t ∧ holdsChan t (queueOf t q).fn j.context = true) :=
  ⟨⟨(jobIn (jb 0x00 0)),
    (1),
    (jb 0x00 0), by decide +kernel⟩,
   ⟨(jobIn (jb 0x01 (256 * 2 ^ 128 + 64 * 2 ^ 320))),
    (1),
    (jb 0x01 (256 * 2 ^ 128 + 64 * 2 ^ 320)),
    (beginJob (jobIn (jb 0x01 (256 * 2 ^ 128 + 64 * 2 ^ 320))) 1 0),
    (beginJob (jobIn (jb 0x01 (256 * 2 ^ 128 + 64 * 2 ^ 320))) 1 0),
    (conn0),
    (started (jb 0x01 (256 * 2 ^ 128 + 64 * 2 ^ 320))),
    (256),
    (0),
    (64),
    (1), by decide +kernel⟩,
   ⟨(jobIn (jb 0x02 (64 * 2 ^ 224))),
    (1),
    (jb 0x02 (64 * 2 ^ 224)),
    (beginJob (jobIn (jb 0x02 (64 * 2 ^ 224))) 1 0),
    (conn0),
    (started (jb 0x02 (64 * 2 ^ 224))), by decide +kernel⟩,
   ⟨(jobIn (jb 0x03 (256 * 2 ^ 128 + 64 * 2 ^ 320))),
    (1),
    (jb 0x03 (256 * 2 ^ 128 + 64 * 2 ^ 320)),
    (beginJob (jobIn (jb 0x03 (256 * 2 ^ 128 + 64 * 2 ^ 320))) 1 0),
    (beginJob (jobIn (jb 0x03 (256 * 2 ^ 128 + 64 * 2 ^ 320))) 1 0),
    (conn0),
    (started (jb 0x03 (256 * 2 ^ 128 + 64 * 2 ^ 320))),
    (256),
    (0),
    (64),
    (2), by decide +kernel⟩,
   ⟨(jobIn (jb 0x04 0)),
    (1),
    (jb 0x04 0),
    (beginJob (jobIn (jb 0x04 0)) 1 0),
    (conn0),
    (started (jb 0x04 0)), by decide +kernel⟩,
   ⟨(jobIn (jb 0x04 (256 * 2 ^ 128))),
    (1),
    (jb 0x04 (256 * 2 ^ 128)),
    (beginJob (jobIn (jb 0x04 (256 * 2 ^ 128))) 1 0),
    (beginJob (jobIn (jb 0x04 (256 * 2 ^ 128))) 1 0),
    (conn0),
    (started (jb 0x04 (256 * 2 ^ 128))),
    (256),
    (0),
    (8),
    (2), by decide +kernel⟩,
   ⟨(jobIn (jb 0x21 (256 * 2 ^ 224))),
    (1),
    (jb 0x21 (256 * 2 ^ 224)),
    (beginJob (jobIn (jb 0x21 (256 * 2 ^ 224))) 1 0),
    (beginJob (jobIn (jb 0x21 (256 * 2 ^ 224))) 1 0),
    (conn0),
    (started (jb 0x21 (256 * 2 ^ 224))),
    (256),
    (0),
    (8),
    (2), by decide +kernel⟩,
   ⟨(jobIn (jb 0x22 0)),
    (1),
    (jb 0x22 0),
    (beginJob (jobIn (jb 0x22 0)) 1 0),
    (conn0),
    (started (jb 0x22 0)), by decide +kernel⟩,
   ⟨(jobIn (jb 0x08 (5 * 2 ^ 160))),
    (1),
    (jb 0x08 (5 * 2 ^ 160)),
    (modJob (beginJob (jobIn (jb 0x08 (5 * 2 ^ 160))) 1 0) 1 0 (fun j => { j with built := true })),
    (0),
    (0), by decide +kernel⟩,
   ⟨(jobIn (jb 0x09 (5 * 2 ^ 160))),
    (1),
    (jb 0x09 (5 * 2 ^ 160)),
    (modJob (beginJob (jobIn (jb 0x09 (5 * 2 ^ 160))) 1 0) 1 0 (fun j => { j with built := true })),
    (0),
    (0), by decide +kernel⟩,
   ⟨(jobIn (jb 0x20 0)),
    (1),
    (jb 0x20 0),
    (modJob (beginJob (jobIn (jb 0x20 0)) 1 0) 1 0 (fun j => { j with built := true })), by decide +kernel⟩,
   ⟨(jobIn (jb 0x30 0)),
    (1),
    (jb 0x30 0),
    (beginJob (jobIn (jb 0x30 0)) 1 0),
    (ep0),
    (started (jb 0x30 0)),
    (7), by decide +kernel⟩,
   ⟨(jobIn (jb 0x31 0)),
    (1),
    (jb 0x31 0),
    (beginJob (jobIn (jb 0x31 0)) 1 0),
    (beginJob (jobIn (jb 0x31 0)) 1 0),
    (ep0),
    (ep0),
    (recvOf 1 (jb 0x31 0)), by decide +kernel⟩,
   ⟨(jobIn (jb 0x40 0)),
    (1),
    (jb 0x40 0),
    (beginJob (jobIn (jb 0x40 0)) 1 0),
    (joined0),
    (carMember),
    (op0), by decide +kernel⟩,
   ⟨(jobIn (jb 0x50 0)),
    (1),
    (jb 0x50 0),
    (beginJob (jobIn (jb 0x50 0)) 1 0),
    (chan2), by decide +kernel⟩,
   ⟨(jobIn (jb 0x51 0)),
    (1),
    (jb 0x51 0),
    (beginJob (jobIn (jb 0x51 0)) 1 0),
    (chan2), by decide +kernel⟩,
   ⟨(jobIn (jb 0x52 0)),
    (1),
    (jb 0x52 0),
    (beginJob (jobIn (jb 0x52 0)) 1 0), by decide +kernel⟩⟩

/-- Every clause of QueueAndRingEventsComplete has a state and operands that meet its hypotheses. -/
theorem witness_QueueAndRingEventsComplete :
    (∃ (s : State) (q : Nat) (k : Nat) (h : Nat) (idx : Idx) (l : List Armed) (j : Job), running s = true ∧
      s.ctx.armed = { q := q, idx := idx, counter := k, threshold := h, released := true } :: l ∧ jobOf s q idx = some j ∧
      canStart s q j = true) ∧
    (∃ (s : State) (q : Nat) (x : Queue) (p : List Job) (j : Job) (head : Idx), running s = true ∧ queueOf s q = x ∧ passable x = p ∧
      p.getLast? = some j ∧ canAccess s x.fn = true ∧ j.idx + BitVec.ofNat 32 j.entries.length = head) ∧
    (∃ (s : State) (q : Nat) (x : Queue) (t : State), running s = true ∧ queueOf s q = x ∧ ((x.st = .blocked ∨ x.waiting ≠ [])) ∧
      setQueue (x.waiting.foldl (putStatus q) s) q { x with waiting := x.waiting.map (statusPut s q) } = t) ∧
    (∃ (s : State) (fn : Nat) (ring : Nat) (r : EvRing) (t : State) (o : EvRing), running s = true ∧
      fmFind s.rings.rings (evKey fn ring) = some r ∧ fmGet s.rings.marks (evKey fn ring) [] ≠ [] ∧ canAccess s fn = true ∧
      rereadEv s (evKey fn ring) r = (t, o)) ∧
    (∃ (s : State) (fn : Nat) (ring : Nat) (r : EvRing) (t : State) (v : MsixVec), running s = true ∧
      fmFind s.rings.rings (evKey fn ring) = some r ∧ r.msgDue = true ∧ r.lastMsg = none ∧ canAccess s fn = true ∧
      (fnOf s fn).msixEn = true ∧ (fnOf s fn).fnMask = false ∧ fmGet (fnOf s fn).vectors r.vector {} = v ∧ v.masked = false ∧
      setRing (pushWrites s fn) (evKey fn ring) { r with msgDue := false, lastMsg := some (now s) } = t) ∧
    (∃ (s : State) (fn : Nat) (ring : Nat) (r : EvRing), running s = true ∧ fmFind s.rings.rings (evKey fn ring) = some r ∧
      r.msgDue = true ∧ r.lastMsg = none ∧ canAccess s fn = true ∧
      (!(fnOf s fn).msixEn || (fnOf s fn).fnMask || (fmGet (fnOf s fn).vectors r.vector {}).masked) = true) ∧
    (∃ (s : State) (fn : Nat), running s = true ∧ s.xlt.stalls.any (fun x => x.fn == fn && x.seq.isNone) = true) ∧
    (∃ (s : State) (ep : Nat) (e : Endpoint) (d : Endpoint), running s = true ∧ liveEp s ep = some e ∧ e.waiting ≠ [] ∧
      liveEp (rereadRecv s ep e) ep = some d) ∧
    (∃ (s : State) (q : Nat) (idx : Idx) (x : Stall), running s = true ∧
      s.xlt.stalls.find? (fun x => x.seq.isSome && stallJob s x == some (q, idx) && decide (now s ≥ x.since + max s.xlt.localTimeout 1
        * 1000000)) = some x) :=
  ⟨⟨(armed0),
    (1),
    (0),
    (1),
    (0),
    ([]),
    { jb 0x00 0 with st := .armed }, by decide +kernel⟩,
   ⟨(doneJob),
    (1),
    { queue1 with jobs := [doneNop], cons := 1, last := 1 },
    ([doneNop]),
    (doneNop),
    (1), by decide +kernel⟩,
   ⟨(setQueue up 1 { queue1 with st := .blocked }),
    (1),
    { queue1 with st := .blocked },
    (setQueue up 1 { queue1 with st := .blocked }), by decide +kernel⟩,
   ⟨(marked),
    (0),
    (0),
    (ring0),
    ((rereadEv marked 0 ring0).1),
    ((rereadEv marked 0 ring0).2), by decide +kernel⟩,
   ⟨(dueRing false),
    (0),
    (0),
    { ring0 with msgDue := true },
    (setRing (pushWrites (dueRing false) 0) 0 { ring0 with lastMsg := some 0 }),
    { addr := 64, data := 5, masked := false }, by decide +kernel⟩,
   ⟨(dueRing true),
    (0),
    (0),
    { ring0 with msgDue := true }, by decide +kernel⟩,
   ⟨{ up with xlt := { up.xlt with stalls := [{ stall3 with seq := none }] } },
    (0), by decide +kernel⟩,
   ⟨(setEp up 3 fullEp),
    (3),
    (fullEp),
    (fullEp), by decide +kernel⟩,
   ⟨(aged { up with xlt := { up.xlt with localTimeout := 4, stalls := [stallJob3] } }),
    (1),
    (0),
    (stallJob3), by decide +kernel⟩⟩

/-- Every clause of ConnectionTimersComplete has a state and operands that meet its hypotheses. -/
theorem witness_ConnectionTimersComplete :
    (∃ (s : State) (c : Nat) (psn : Psn) (x : Ctx) (u : Unans) (t : Nat), running s = true ∧ ctxOf s c = x ∧ x.st = .connected ∧
      unansOf s c psn = some u ∧ u.resendAt = some t ∧ t ≤ now s ∧ u.queued = false) ∧
    (∃ (s : State) (c : Nat) (psn : Psn) (x : Ctx) (u : Unans), running s = true ∧ ctxOf s c = x ∧ peerFenced s x = false ∧
      x.st = .connected ∧ unansOf s c psn = some u ∧ u.timer = true ∧ u.queued = false ∧ u.resendAt = none ∧
      now s ≥ u.last + retryWait x u.sends ∧ u.sends ≤ x.retryMax) ∧
    (∃ (s : State) (c : Nat) (psn : Psn) (x : Ctx) (u : Unans), running s = true ∧ ctxOf s c = x ∧ peerFenced s x = false ∧
      x.st = .connected ∧ unansOf s c psn = some u ∧ u.timer = true ∧ u.queued = false ∧ u.resendAt = none ∧
      now s ≥ u.last + retryWait x u.sends ∧ u.sends > x.retryMax) ∧
    (∃ (s : State) (c : Nat) (x : Ctx) (a : PendAck) (more : List PendAck) (l : List PendAck) (base : Psn), running s = true ∧
      ctxOf s c = x ∧ x.acks = a :: more ∧ s.ctx.ackDelay ≠ 0 ∧
      ackBase (x.acks.filter (fun b => b.late == a.late && b.fn == a.fn)) = some base ∧ ackedBy s x a base = l) ∧
    (∃ (s : State) (c : Nat) (x : Ctx) (t : Nat), running s = true ∧ ctxOf s c = x ∧ x.heldFrom = some t ∧ now s ≥ t + 100000 ∧
      peerFenced s x = true) ∧
    (∃ (s : State) (c : Nat) (x : Ctx), running s = true ∧ ctxOf s c = x ∧ x.st = .connected ∧ x.peer = true ∧ slotBusy s c = false ∧
      now s ≥ x.used + max 1 s.ctx.peerIdle * 1000000) ∧
    (∃ (s : State) (c : Nat) (x : Ctx), running s = true ∧ ctxOf s c = x ∧ x.st = .quarantine ∧ now s ≥ x.since + 4000000) ∧
    (∃ (s : State) (c : Nat) (e : Endpoint), running s = true ∧ fmFind s.cat.eps c = some e ∧ e.live = false ∧ now s ≥ e.since + 4000000) ∧
    (∃ (s : State) (c : Nat) (g : CarGroup), running s = true ∧ fmFind s.car.groups c = some g ∧ g.st = .quarantine ∧
      now s ≥ g.since + 4000000) ∧
    (∃ (s : State) (c : Nat) (psn : Psn) (t : Nat) (l : List (Nat × Psn × Nat)), running s = true ∧ s.ctx.kept = (c, psn, t) :: l ∧
      t + 4000000 ≤ now s ∧ l.all (fun k => !(k.1 == c && k.2.1 == psn)) = true) ∧
    (∃ (s : State) (c : Nat) (g : Nat) (r : Rsv) (l : List Rsv), running s = true ∧ s.pal.rsvs = r :: l ∧ r.addr = g ∧
      rsvLive s r = false ∧ l.all (fun r => r.addr != g) = true) :=
  ⟨⟨(sentOnce (some 0) 1),
    (0),
    (0),
    { conn0 with unans := [unans0 (some 0) 1] },
    (unans0 (some 0) 1),
    (0), by decide +kernel⟩,
   ⟨(aged (sentOnce none 1)),
    (0),
    (0),
    { conn0 with unans := [unans0 none 1] },
    (unans0 none 1), by decide +kernel⟩,
   ⟨(aged (sentOnce none 9)),
    (0),
    (0),
    { conn0 with unans := [unans0 none 9] },
    (unans0 none 9), by decide +kernel⟩,
   ⟨(owing),
    (0),
    { conn0 with acks := [ack5] },
    (ack5),
    ([]),
    ([ack5]),
    (5), by decide +kernel⟩,
   ⟨(aged fencedPeer),
    (0),
    { conn0 with pPlane := 1, heldFrom := some 0 },
    (0), by decide +kernel⟩,
   ⟨(aged (setCtx { up with ctx := { up.ctx with peerIdle := 100 } } 0 { conn0 with peer := true })),
    (0),
    { conn0 with peer := true }, by decide +kernel⟩,
   ⟨(aged (setCtx up 0 { st := .quarantine })),
    (0),
    { st := .quarantine }, by decide +kernel⟩,
   ⟨(aged (setEp up 3 { ep3 with live := false })),
    (3),
    { ep3 with live := false }, by decide +kernel⟩,
   ⟨(aged (setCar up 4 { group4 with st := .quarantine })),
    (4),
    { group4 with st := .quarantine }, by decide +kernel⟩,
   ⟨(aged { up with ctx := { up.ctx with kept := [(0, 5, 0)] } }),
    (0),
    (5),
    (0),
    ([]), by decide +kernel⟩,
   ⟨(aged { up with pal := { up.pal with rsvs := [rsv64] } }),
    (0),
    (64),
    (rsv64),
    ([]), by decide +kernel⟩⟩

/-- Every clause of RequestsTakeEffectAtTheTarget has a state and operands that meet its hypotheses. -/
theorem witness_RequestsTakeEffectAtTheTarget :
    (∃ (s : State) (p : Packet) (h : ConnHdr) (fn : Nat) (t : State) (u : State) (ps : List Piece), p.tt = .conn h ∧ h.ttype = 0x01 ∧
      NewRequest s p (connIds h) fn t ∧ granuleWaits s p h = false ∧ remoteAccess t fn 2 h = (u, .ok ps true) ∧ h.rcntEn = false) ∧
    (∃ (s : State) (p : Packet) (h : ConnHdr) (fn : Nat) (t : State) (u : State) (v : State) (ps : List Piece), p.tt = .conn h ∧
      h.ttype = 0x01 ∧ NewRequest s p (connIds h) fn t ∧ granuleWaits s p h = false ∧ remoteAccess t fn 2 h = (u, .ok ps false) ∧
      visible (writePieces u fn ps (padTo h.length p.payload)) fn ps = (v, true)) ∧
    (∃ (s : State) (p : Packet) (h : ConnHdr) (fn : Nat) (t : State) (u : State) (v : State) (ps : List Piece), p.tt = .conn h ∧
      h.ttype = 0x02 ∧ NewRequest s p (connIds h) fn t ∧ granuleWaits s p h = false ∧ remoteAccess t fn 2 h = (u, .ok ps false) ∧
      visible (writePieces u fn ps (padTo h.length p.payload)) fn ps = (v, true)) ∧
    (∃ (s : State) (p : Packet) (h : ConnHdr) (fn : Nat) (t : State) (u : State) (v : State) (ps : List Piece) (e : Bool) (l : List
        Byte), p.tt = .conn h ∧ h.ttype = 0x03 ∧ NewRequest s p (connIds h) fn t ∧ remoteAccess t fn 1 h = (u, .ok ps e) ∧
      readPieces u fn ps = (v, some l)) ∧
    (∃ (s : State) (p : Packet) (h : ConnHdr) (fn : Nat) (t : State) (u : State) (v : State) (w : State) (ps : List Piece) (e : Bool)
        (l : List Byte) (n : Nat), p.tt = .conn h ∧ h.ttype = 0x04 ∧ NewRequest s p (connIds h) fn t ∧ granuleWaits s p h = false ∧
      remoteAccess t fn 3 { h with length := 8 } = (u, .ok ps e) ∧ readPieces u fn ps = (v, some l) ∧ isPaired v = false ∧
      atomicNew h.aop (leNat l) h.operand0 h.operand1 = n ∧ n ≠ leNat l ∧
      visible (writePieces (clearGranule v (granule ps)) fn ps (leBytes 8 n)) fn ps = (w, true) ∧ ctxFn v h.dstCtx = fn) ∧
    (∃ (s : State) (p : Packet) (h : ConnHdr) (fn : Nat) (t : State) (u : State) (v : State) (ps : List Piece) (e : Bool) (l : List
        Byte), p.tt = .conn h ∧ h.ttype = 0x05 ∧ NewRequest s p (connIds h) fn t ∧ granuleWaits s p h = false ∧
      remoteAccess t fn 1 { h with length := 8 } = (u, .ok ps e) ∧ readPieces u fn ps = (v, some l)) ∧
    (∃ (s : State) (p : Packet) (h : ConnHdr) (fn : Nat) (t : State) (u : State) (ps : List Piece) (e : Bool), p.tt = .conn h ∧
      h.ttype = 0x06 ∧ NewRequest s p (connIds h) fn t ∧ granuleWaits s p h = false ∧
      remoteAccess t fn 2 { h with length := 8 } = (u, .ok ps e) ∧ u.pal.rsvs.filter (fun r => r.addr == granule ps && rsvLive u r) = []) ∧
    (∃ (s : State) (p : Packet) (h : ConnHdr) (fn : Nat) (t : State) (u : State) (v : State) (ps : List Piece) (e : Bool) (r : Rsv) (l
        : List Byte), p.tt = .conn h ∧ h.ttype = 0x06 ∧ NewRequest s p (connIds h) fn t ∧ granuleWaits s p h = false ∧
      remoteAccess t fn 2 { h with length := 8 } = (u, .ok ps e) ∧
      u.pal.rsvs.filter (fun r => r.addr == granule ps && rsvLive u r) = [r] ∧ r.senior = true ∧
      holderIs u p h r.coord r.plane r.ctx r.inc = true ∧ readPieces u fn ps = (v, some l) ∧ leNat l = r.value ∧ isPaired v = false) ∧
    (∃ (s : State) (p : Packet) (h : ConnHdr) (fn : Nat) (t : State) (u : State), p.tt = .conn h ∧ h.ttype = 0x07 ∧
      NewRequest s p (connIds h) fn t ∧ declareIssued t (fun e => e.fn == fn && e.ctx == some h.dstCtx) = (u, true)) ∧
    (∃ (s : State) (p : Packet) (h : ConnHdr) (fn : Nat) (t : State), p.tt = .conn h ∧ h.ttype = 0x08 ∧
      NewRequest s p (connIds h) fn t ∧ bitAt h.offset 24 = false) :=
  ⟨⟨(earlyTarget),
    (pktTo 0x01),
    (hdrTo 0x01),
    (0),
    (tookEarly),
    (tookEarly),
    (piece0 8), by decide +kernel⟩,
   ⟨(target),
    (pktTo 0x01),
    (hdrTo 0x01),
    (0),
    (tookIn 0x01),
    (tookIn 0x01),
    ((visible (writePieces (tookIn 0x01) 0 (piece0 8) (padTo 8 [1, 2, 3, 4, 5, 6, 7, 8])) 0 (piece0 8)).1),
    (piece0 8), by decide +kernel⟩,
   ⟨(target),
    (pktTo 0x02),
    (hdrTo 0x02),
    (0),
    (tookIn 0x02),
    (tookIn 0x02),
    ((visible (writePieces (tookIn 0x02) 0 (piece0 8) (padTo 8 [1, 2, 3, 4, 5, 6, 7, 8])) 0 (piece0 8)).1),
    (piece0 8), by decide +kernel⟩,
   ⟨(target),
    (pktTo 0x03),
    (hdrTo 0x03),
    (0),
    (tookIn 0x03),
    (tookIn 0x03),
    ((readPieces (tookIn 0x03) 0 (piece0 8)).1),
    (piece0 8),
    (false),
    (leBytes 8 0), by decide +kernel⟩,
   ⟨(target),
    (pktTo 0x04),
    (hdrTo 0x04),
    (0),
    (tookIn 0x04),
    (tookIn 0x04),
    ((readPieces (tookIn 0x04) 0 (piece0 8)).1),
    ((visible (writePieces (clearGranule (readPieces (tookIn 0x04) 0 (piece0 8)).1 65536) 0 (piece0 8) (leBytes 8 3)) 0 (piece0 8)).1),
    (piece0 8),
    (false),
    (leBytes 8 0),
    (3), by decide +kernel⟩,
   ⟨(target),
    (pktTo 0x05),
    (hdrTo 0x05),
    (0),
    (tookIn 0x05),
    (tookIn 0x05),
    ((readPieces (tookIn 0x05) 0 (piece0 8)).1),
    (piece0 8),
    (false),
    (leBytes 8 0), by decide +kernel⟩,
   ⟨(target),
    (pktTo 0x06),
    (hdrTo 0x06),
    (0),
    (tookIn 0x06),
    (tookIn 0x06),
    (piece0 8),
    (false), by decide +kernel⟩,
   ⟨(reserved),
    (pktTo 0x06),
    (hdrTo 0x06),
    (0),
    (tookRsv),
    (tookRsv),
    ((readPieces tookRsv 0 (piece0 8)).1),
    (piece0 8),
    (false),
    (rsv0),
    (leBytes 8 0), by decide +kernel⟩,
   ⟨(target),
    (pktTo 0x07),
    (hdrTo 0x07),
    (0),
    (tookIn 0x07),
    (tookIn 0x07), by decide +kernel⟩,
   ⟨(target),
    (pktTo 0x08),
    (hdrTo 0x08),
    (0),
    (tookIn 0x08), by decide +kernel⟩⟩

/-- Every clause of RepliesAndSlotPacketsTakeEffect has a state and operands that meet its hypotheses. -/
theorem witness_RepliesAndSlotPacketsTakeEffect :
    (∃ (s : State) (p : Packet) (h : ConnHdr) (c : Nat) (t : State), h.ttype = 0x10 ∧ NewReply s p h (ownerFn s h.dstCtx) t ∧
      h.dstCtx = c) ∧
    (∃ (s : State) (p : Packet) (h : ConnHdr) (c : Nat) (t : State) (u : Unans) (v : State), h.ttype = 0x11 ∧
      NewReply s p h (ownerFn s h.dstCtx) t ∧ h.dstCtx = c ∧ unansOf t c h.psn = some u ∧ releaseKept t c h.psn = v ∧
      ((h.status = stPagePending ∨ h.status = stNoResource)) ∧ u.naks < 31 ∧ u.pageNaks < 31) ∧
    (∃ (s : State) (p : Packet) (h : ConnHdr) (c : Nat) (t : State) (u : Unans) (v : State), h.ttype = 0x11 ∧
      NewReply s p h (ownerFn s h.dstCtx) t ∧ h.dstCtx = c ∧ unansOf t c h.psn = some u ∧ releaseKept t c h.psn = v ∧
      h.status ≠ stPagePending ∧ h.status ≠ stNoResource ∧ h.status ≠ stDestFenced) ∧
    (∃ (s : State) (p : Packet) (h : ConnHdr) (c : Nat) (t : State) (v : State) (w : State) (u : Unans) (q : Nat) (idx : Idx) (j :
        Job), h.ttype = 0x12 ∧ NewReply s p h (answerFn s h.dstCtx h.psn) t ∧ h.dstCtx = c ∧ releaseKept t c h.psn = v ∧
      unansOf v c h.psn = some u ∧ u.skip = false ∧ u.job = some (q, idx) ∧ jobOf v q idx = some j ∧ ttypeOf u.pkt.tt = 0x03 ∧
      writeLocal v p c u q idx (opnd j 128 32) (opnd j 160 48 + u.off) p.payload false = (w, true)) ∧
    (∃ (s : State) (p : Packet) (h : ConnHdr) (c : Nat) (t : State) (v : State) (w : State) (u : Unans) (q : Nat) (idx : Idx) (j :
        Job), h.ttype = 0x13 ∧ NewReply s p h (answerFn s h.dstCtx h.psn) t ∧ h.dstCtx = c ∧ releaseKept t c h.psn = v ∧
      unansOf v c h.psn = some u ∧ u.skip = false ∧ u.job = some (q, idx) ∧ jobOf v q idx = some j ∧ ttypeOf u.pkt.tt = 0x04 ∧
      opnd j 128 32 / 256 ≠ 0 ∧ writeLocal v p c u q idx (opnd j 128 32) (opnd j 160 48) (leBytes 8 h.operand0) false = (w, true)) ∧
    (∃ (s : State) (p : Packet) (h : ConnHdr) (c : Nat) (t : State) (u : Unans) (q : Nat) (idx : Idx), h.ttype = 0x14 ∧
      NewReply s p h (answerFn s h.dstCtx h.psn) t ∧ h.dstCtx = c ∧ unansOf t c h.psn = some u ∧ u.skip = false ∧
      u.job = some (q, idx) ∧ ttypeOf u.pkt.tt = 0x07 ∧ h.status = stOk) ∧
    (∃ (s : State) (p : Packet) (h : ConnHdr) (t : State) (c : Nat), running s = true ∧ p.tt = .conn h ∧ h.ttype = 0x09 ∧
      consume s p = t ∧ slotFor t (srcPlane t p) p.rt.src = none ∧ freeContext t = some c) ∧
    (∃ (s : State) (p : Packet) (h : ConnHdr) (t : State) (c : Nat) (x : Ctx), running s = true ∧ p.tt = .conn h ∧ h.ttype = 0x09 ∧
      consume s p = t ∧ slotFor t (srcPlane t p) p.rt.src = some c ∧ ctxOf t c = x ∧ x.st = .opening) ∧
    (∃ (s : State) (p : Packet) (h : ConnHdr) (t : State) (x : Ctx), running s = true ∧ p.tt = .conn h ∧ h.ttype = 0x0A ∧
      consume s p = t ∧ ctxOf t h.dstCtx = x ∧ x.st = .connected ∧ slotMatches t p h x = true ∧ h.srcCtx = x.pCtx ∧ h.srcInc = x.pInc ∧
      slotBusy t h.dstCtx = false ∧ x.e.toNat = field h.offset 0 24) ∧
    (∃ (s : State) (p : Packet) (h : ConnHdr) (t : State) (x : Ctx), running s = true ∧ p.tt = .conn h ∧ h.ttype = 0x15 ∧
      consume s p = t ∧ ctxOf t h.dstCtx = x ∧ x.st = .opening ∧ slotMatches t p h x = true ∧ h.status = stOk) ∧
    (∃ (s : State) (p : Packet) (h : ConnHdr) (t : State) (x : Ctx), running s = true ∧ p.tt = .conn h ∧ h.ttype = 0x16 ∧
      consume s p = t ∧ ctxOf t h.dstCtx = x ∧ x.st = .closing ∧ slotMatches t p h x = true ∧ h.srcCtx = x.pCtx ∧ h.srcInc = x.pInc ∧
      h.status = stOk) :=
  ⟨⟨(sender 0x10),
    (pktTo 0x10),
    (hdrTo 0x10),
    (0),
    (tookBack 0x10), by decide +kernel⟩,
   ⟨(senderNak stNoResource),
    (pktNak stNoResource),
    (hdrNak stNoResource),
    (0),
    (tookNak stNoResource),
    (unans0 none 1),
    (releaseKept (tookNak stNoResource) 0 0), by decide +kernel⟩,
   ⟨(senderNak stRemoteAccess),
    (pktNak stRemoteAccess),
    (hdrNak stRemoteAccess),
    (0),
    (tookNak stRemoteAccess),
    (unans0 none 1),
    (releaseKept (tookNak stRemoteAccess) 0 0), by decide +kernel⟩,
   ⟨(sender 0x12),
    (pktTo 0x12),
    (hdrTo 0x12),
    (0),
    (tookBack 0x12),
    (releaseKept (tookBack 0x12) 0 0),
    ((writeLocal (releaseKept (tookBack 0x12) 0 0) (pktTo 0x12) 0 (unansJob 0x03) 1 0 256 0 [1, 2, 3, 4, 5, 6, 7, 8] false).1),
    (unansJob 0x03),
    (1),
    (0),
    { jobFor 0x12 with st := .running, pend := 1 }, by decide +kernel⟩,
   ⟨(sender 0x13),
    (pktTo 0x13),
    (hdrTo 0x13),
    (0),
    (tookBack 0x13),
    (releaseKept (tookBack 0x13) 0 0),
    ((writeLocal (releaseKept (tookBack 0x13) 0 0) (pktTo 0x13) 0 (unansJob 0x04) 1 0 256 0 (leBytes 8 0) false).1),
    (unansJob 0x04),
    (1),
    (0),
    { jobFor 0x13 with st := .running, pend := 1 }, by decide +kernel⟩,
   ⟨(sender 0x14),
    (pktTo 0x14),
    (hdrTo 0x14),
    (0),
    (tookBack 0x14),
    (unansJob 0x07),
    (1),
    (0), by decide +kernel⟩,
   ⟨(shaped up),
    (pktTo 0x09),
    (hdrTo 0x09),
    (consume (shaped up) (pktTo 0x09)),
    (0), by decide +kernel⟩,
   ⟨(slotted 0x09),
    (pktTo 0x09),
    (hdrTo 0x09),
    (consume (slotted 0x09) (pktTo 0x09)),
    (0),
    (slot0 .opening), by decide +kernel⟩,
   ⟨(slotted 0x0A),
    (pktTo 0x0A),
    (hdrTo 0x0A),
    (consume (slotted 0x0A) (pktTo 0x0A)),
    (slot0 .connected), by decide +kernel⟩,
   ⟨(slotted 0x15),
    (pktTo 0x15),
    (hdrTo 0x15),
    (consume (slotted 0x15) (pktTo 0x15)),
    (slot0 .opening), by decide +kernel⟩,
   ⟨(slotted 0x16),
    (pktTo 0x16),
    (hdrTo 0x16),
    (consume (slotted 0x16) (pktTo 0x16)),
    (slot0 .closing), by decide +kernel⟩⟩

/-- Every clause of MessagePacketsTakeEffect has a state and operands that meet its hypotheses. -/
theorem witness_MessagePacketsTakeEffect :
    (∃ (s : State) (h : MsgHdr) (t : State) (p : Packet) (e : Endpoint) (r : Recv), h.ttype = 0x30 ∧
      NewMessage s p h (msgGate s h.dstEp).1 (msgGate s h.dstEp).2 t ∧ msgEndpoint t h.dstEp = some e ∧ h.seg = 0 ∧
      h.msn = (ctxOf t h.dstCtx).expMsn ∧ e.waiting = [] ∧ wildExamined e (msgOf t p h) = 0 ∧ findRecv e (msgOf t p h) = some r ∧
      (msgOf t p h).rdv = false) ∧
    (∃ (s : State) (h : MsgHdr) (t : State) (p : Packet) (e : Endpoint) (x : Unexp), h.ttype = 0x30 ∧
      NewMessage s p h (msgGate s h.dstEp).1 (msgGate s h.dstEp).2 t ∧ msgEndpoint t h.dstEp = some e ∧ h.seg = 0 ∧
      h.msn = (ctxOf t h.dstCtx).expMsn ∧ e.waiting = [] ∧ wildExamined e (msgOf t p h) = 0 ∧ findRecv e (msgOf t p h) = none ∧
      (msgOf t p h).rdv = false ∧ storeFull t h.dstEp e (msgOf t p h) = false ∧
      { msg := msgOf t p h, data := (padTo h.length p.payload).take (msgOf t p h).len,
        missing := if (msgOf t p h).twoSeg then 1 else 0 } = x) ∧
    (∃ (s : State) (h : MsgHdr) (t : State) (p : Packet) (e : Endpoint) (r : Recv) (u : State) (id : Nat), h.ttype = 0x31 ∧
      NewMessage s p h (msgGate s h.dstEp).1 (msgGate s h.dstEp).2 t ∧ msgEndpoint t h.dstEp = some e ∧
      h.msn = (ctxOf t h.dstCtx).expMsn ∧ e.waiting = [] ∧ wildExamined e (msgOf t p h) = 0 ∧ findRecv e (msgOf t p h) = some r ∧
      newDelivery (commit (bump (bump (setEp t h.dstEp { e with posted := e.posted.erase r }) 325) 331) h (now t)) h.dstEp r (msgOf t p
        h) false = (u, id)) ∧
    (∃ (s : State) (h : MsgHdr) (t : State) (p : Packet) (r : RdvSend) (j : Job) (fn : Nat) (u : State) (l : List Byte), h.ttype = 0x32
        ∧ NewMessage s p h (rdvOwner s h) (rdvGate s h) t ∧ rdvSend t h.dstCtx h.rdvId = some (r, j) ∧ rdvOwner t h = fn ∧
      h.moff + h.length ≤ opnd j 224 32 ∧ readSrc t (srcPart (jobSrc r.q j) h.moff h.length) = (u, .bytes l)) ∧
    (∃ (s : State) (h : MsgHdr) (t : State) (p : Packet) (u : State) (r : RdvSend) (j : Job), h.ttype = 0x33 ∧
      NewMessage s p h (rdvOwner s h) .takes t ∧ h.result = 0 ∧ ackPoint t (rdvOwner t h) h.dstCtx h.psn false false = u ∧
      rdvSend u h.dstCtx h.rdvId = some (r, j)) ∧
    (∃ (s : State) (c : Nat) (since : Nat) (msn : Psn) (p : Packet) (h : MsgHdr) (t : State) (e : Endpoint), running s = true ∧
      s.cat.parked = [(since, p)] ∧ p.tt = .msg h ∧ h.dstCtx = c ∧ h.msn = msn ∧ ((h.ttype = 0x31 ∨ h.seg = 0)) ∧
      h.msn = (ctxOf s c).expMsn ∧ h.dstInc = (ctxOf s c).inc ∧ (ctxOf s c).st = .connected ∧
      { s with cat := { s.cat with parked := [] } } = t ∧ msgEndpoint t h.dstEp = some e) ∧
    (∃ (s : State) (ep : Nat) (id : Nat) (d : Delivery) (e : Endpoint) (e2 : Endpoint) (t : State), running s = true ∧
      s.cat.deliveries.find? (fun d => d.ep == ep && d.ended && !d.recorded) = some d ∧ d.id = id ∧ liveEp s ep = some e ∧
      rereadRecv (setEp (closeDelivery s d) ep { e with waiting := e.waiting ++ [receiveRecord d] }) ep e = t ∧ liveEp t ep = some e2) :=
  ⟨⟨(mailbox 0x30),
    (hdrMsg 0x30),
    (tookMsg 0x30),
    (pktMsg 0x30),
    (epWith recv0),
    (recv0), by decide +kernel⟩,
   ⟨(mailbox 0),
    (hdrMsg 0x30),
    (takenFrom (mailbox 0) (pktMsg 0x30)),
    (pktMsg 0x30),
    (emptyEp),
    { msg := msgOf (takenFrom (mailbox 0) (pktMsg 0x30)) (pktMsg 0x30) (hdrMsg 0x30), data := [7], missing := 0 }, by decide +kernel⟩,
   ⟨(mailbox 0x31),
    (hdrMsg 0x31),
    (tookMsg 0x31),
    (pktMsg 0x31),
    (epWith recv0),
    (recv0),
    (tookRts.1),
    (0), by decide +kernel⟩,
   ⟨(mailbox 0x32),
    (hdrMsg 0x32),
    (tookMsg 0x32),
    (pktMsg 0x32),
    { q := 1, idx := 0 },
    (sendJob),
    (0),
    ((readSrc (tookMsg 0x32) (.mem 1 256 0 8)).1),
    (leBytes 8 0), by decide +kernel⟩,
   ⟨(mailbox 0x33),
    (hdrMsg 0x33),
    (tookMsg 0x33),
    (pktMsg 0x33),
    (ackPoint (tookMsg 0x33) (rdvOwner (tookMsg 0x33) (hdrMsg 0x33)) 0 0 false false),
    { q := 1, idx := 0 },
    (sendJob), by decide +kernel⟩,
   ⟨(parkedBox),
    (0),
    (0),
    (0),
    (pktMsg 0x30),
    (hdrMsg 0x30),
    (mailbox 0x30),
    (epWith recv0), by decide +kernel⟩,
   ⟨(withDelivery),
    (3),
    (0),
    (deliv0),
    (ep3),
    { ep3 with waiting := [receiveRecord deliv0] },
    (rereadRecv (setEp (closeDelivery withDelivery deliv0) 3 { ep3 with waiting := [receiveRecord deliv0] }) 3 ep3), by decide +kernel⟩⟩

/-- Every clause of CarillonPacketsTakeEffect has a state and operands that meet its hypotheses. -/
theorem witness_CarillonPacketsTakeEffect :
    (∃ (s : State) (port : Nat) (p : Packet) (hd : CarHdr) (n : Nat) (t : State) (k : Nat), NewCarPacket s p hd 0x40 (isChild port) n t
        ∧ fullOp (carGroup t n) hd.opnum = k ∧ opEnded (carGroup t n) k = false ∧ hd.op ≠ 0) ∧
    (∃ (s : State) (port : Nat) (p : Packet) (hd : CarHdr) (n : Nat) (t : State) (k : Nat) (id : Nat) (u : State) (v : State) (o :
        CarOp), NewCarPacket s p hd 0x41 (isParent port) n t ∧ fullOp (carGroup t n) hd.opnum = k ∧ opEnded (carGroup t n) k = false ∧
      hd.op ≠ 0 ∧ hd.pktCount = 1 ∧
      modOp (openOp t n hd.tepoch k) n k (fun o =>
        { o with params := some (o.params.getD (hdrParams hd)), down := fmSet o.down hd.pktIndex p.payload }) = u ∧
      carOp (carGroup u n) k = some o ∧ newHold u n hd.tepoch port 7 = (v, id)) ∧
    (∃ (s : State) (port : Nat) (p : Packet) (hd : CarHdr) (n : Nat) (t : State) (u : State) (k : Nat), NewCarPacket s p hd 0x42
        (isChild port) n t ∧ freeCarSlot t n hd.tepoch port 6 = u ∧ fullOp (carGroup t n) hd.opnum = k ∧
      opEnded (carGroup u n) k = false) ∧
    (∃ (s : State) (port : Nat) (p : Packet) (hd : CarHdr) (n : Nat) (t : State) (k : Nat) (id : Nat) (u : State), NewCarPacket s p hd
        0x43 (isParent port) n t ∧ fullOp (carGroup t n) hd.opnum = k ∧ opEnded (carGroup t n) k = false ∧
      newHold (openOp t n hd.tepoch k) n hd.tepoch port 7 = (u, id)) ∧
    (∃ (s : State) (port : Nat) (p : Packet) (hd : CarHdr) (n : Nat) (t : State), NewCarPacket s p hd 0x44 (fun t => isChild port t ||
        isParent port t) n t) :=
  ⟨⟨(treeGroup),
    (0),
    (pktCar 0x40),
    (hdrCar 0x40),
    (4),
    (consume treeGroup (pktCar 0x40)),
    (0), by decide +kernel⟩,
   ⟨(treeGroup),
    (1),
    (pktCar 0x41),
    (hdrCar 0x41),
    (4),
    (consume treeGroup (pktCar 0x41)),
    (0),
    (0),
    (downed),
    ((newHold downed 4 0 1 7).1),
    ((carOp (carGroup downed 4) 0).getD op0), by decide +kernel⟩,
   ⟨(treeGroup),
    (0),
    (pktCar 0x42),
    (hdrCar 0x42),
    (4),
    (consume treeGroup (pktCar 0x42)),
    (freeCarSlot (consume treeGroup (pktCar 0x42)) 4 0 0 6),
    (0), by decide +kernel⟩,
   ⟨(treeGroup),
    (1),
    (pktCar 0x43),
    (hdrCar 0x43),
    (4),
    (consume treeGroup (pktCar 0x43)),
    (0),
    (0),
    ((newHold (openOp (consume treeGroup (pktCar 0x43)) 4 0 0) 4 0 1 7).1), by decide +kernel⟩,
   ⟨(treeGroup),
    (1),
    (pktCar 0x44),
    (hdrCar 0x44),
    (4),
    (consume treeGroup (pktCar 0x44)), by decide +kernel⟩⟩

/-- Every clause of TreeEpochEventsComplete has a state and operands that meet its hypotheses. -/
theorem witness_TreeEpochEventsComplete :
    (∃ (s : State) (m : TreeInstall) (n : Nat) (k : Nat) (t : State), running s = true ∧ carHandle s m.group = some n ∧
      stageTree s n m = .ready t k ∧ m.root ≠ s.mvt.coord ∧ t.mvt.coord = s.mvt.coord) ∧
    (∃ (s : State) (r : TreeReport) (m : TreeMaster) (m2 : TreeMaster) (k : Nat) (d : Nat) (t : State) (u : State), (running s = true ∧
      fmFind s.car.masters r.group = some m ∧ r.epoch = m.install.epoch ∧ m.flooded = false ∧ r.refused = false ∧ r.rebuild = false ∧
      { m with reports := m.reports.filter (fun x => x.coord != r.coord) ++ [r] } = m2 ∧
      m2.vertices.all (fun v => m2.reports.any (fun x => linearOf s x.coord == v)) = true ∧ firstOp r.epoch m2.reports = k ∧
      { s with car := { s.car with masters := fmSet s.car.masters r.group { m2 with flooded := true } } } = t) ∧ draw t = (d, u)) ∧
    (∃ (s : State) (r : TreeReport) (n : Nat), running s = true ∧ r.rebuild = true ∧ carHandle s r.group = some n) ∧
    (∃ (s : State) (n : Nat) (t : Nat) (g : CarGroup) (c : TreeChange), running s = true ∧ carGroup s n = g ∧ g.change = some c ∧
      c.t = some t ∧ stamp s ≥ t) ∧
    (∃ (s : State) (n : Nat) (g : CarGroup), running s = true ∧ carGroup s n = g ∧ g.oldLive = true ∧ now s ≥ g.switchedAt + 2000040 ∧
      oldOver g = true ∧ g.bit = 1 ∧ g.tree1 ≠ none ∧ g.again = false) ∧
    (∃ (s : State) (id : Nat) (n : Nat) (m : TreeMaster) (l : List Nat) (t : State), running s = true ∧
      fmFind s.car.masters id = some m ∧ m.flooded = false ∧ now s ≥ m.start + createTicks s ∧ m.install.epoch ≠ 1 ∧
      m.vertices.filter (fun v => !m.reports.any (fun x => linearOf s x.coord == v)) = l ∧
      sendCur { s with car := { s.car with masters := fmErase s.car.masters id } } none (.flood (.treeDropped id m.install.epoch)) = t
        ∧ carHandle t id = some n) ∧
    (∃ (s : State) (j : JoinReport), running s = true ∧ createOf s j.group = none) ∧
    (∃ (s : State) (fn : Nat) (c : CarCreate) (x : Cmd) (t : State) (u : State), running s = true ∧ fmFind s.car.creates fn = some c ∧
      (admOf s fn).cmd = some x ∧ x.wait = .groupEpoch c.join.group ∧ now s ≥ x.tTaken + createTicks s ∧
      wakeCmds s (fun f w => f == fn && w == .groupEpoch c.join.group) stTimeout [] = t ∧
      (if (fmFind t.car.masters c.join.group).isSome then sendCur t none (.flood (.treeDropped c.join.group 1)) else t) = u ∧
      carHandle u c.join.group = none) ∧
    (∃ (s : State) (id : Nat) (n : Nat), running s = true ∧ carHandle s id = some n) :=
  ⟨⟨(treeGroup),
    (install2),
    (4),
    (0),
    (staged2), by decide +kernel, by decide +kernel, rfl, by decide +kernel, by decide +kernel⟩,
   ⟨(mastered),
    { group := 7, epoch := 2, coord := 1, highest := 3 },
    (master2),
    { master2 with reports := [{ group := 7, epoch := 2, coord := 1, highest := 3 }] },
    (3),
    ((draw flooded2).1),
    (flooded2),
    ((draw flooded2).2), by decide +kernel, rfl⟩,
   ⟨(treeGroup),
    { group := 7, epoch := 0, coord := 1, rebuild := true },
    (4), by decide +kernel⟩,
   ⟨(aged dueTree),
    (4),
    (0),
    (dueGroup),
    (change2), by decide +kernel⟩,
   ⟨(aged (setCar up 4 oldGroup)),
    (4),
    (oldGroup), by decide +kernel⟩,
   ⟨(aged mastered),
    (7),
    (4),
    (master2),
    ([1]),
    (sendCur { aged mastered with car := { mastered.car with masters := [] } } none (.flood (.treeDropped 7 2))), by decide +kernel⟩,
   ⟨(up),
    (join7), by decide +kernel⟩,
   ⟨(creating),
    (0),
    (create7),
    { cmdOf 0x0500 [] with wait := .groupEpoch 7 },
    (wakeCmds creating (fun f w => f == 0 && w == .groupEpoch 7) stTimeout []),
    (wakeCmds creating (fun f w => f == 0 && w == .groupEpoch 7) stTimeout []), by decide +kernel⟩,
   ⟨(treeGroup),
    (7),
    (4), by decide +kernel⟩⟩

/-- Every clause of MoveInstructionsComplete has a state and operands that meet its hypotheses. -/
theorem witness_MoveInstructionsComplete :
    (∃ (s : State) (ch : Nat) (j : Job) (l : List Byte) (t : State) (x : Channel) (k : Job) (sk : Nat) (sb : Nat) (dk : Nat) (db : Nat)
        (n : Nat) (src : Int) (dst : Int), Fetches s ch j l t ∧ field (leNat l) 0 8 = 1 ∧ chanOf t ch = x ∧ chanJob t ch = some k ∧
      slotKey k (field (leNat l) 8 2) = (sk, sb) ∧ slotKey k (field (leNat l) 10 2) = (dk, db) ∧
      moveOffset x sb (field (leNat l) 16 40) (field (leNat l) 12 4) true = src ∧
      moveOffset x db (field (leNat l) 56 40) (field (leNat l) 12 4) false = dst ∧ field (leNat l) 96 32 = n ∧ moveFits src n = true ∧
      moveFits dst n = true ∧ n ≠ 0) ∧
    (∃ (s : State) (ch : Nat) (j : Job) (l : List Byte) (t : State) (x : Channel) (k : Job) (sk : Nat) (sb : Nat) (dk : Nat) (db : Nat)
        (n : Nat) (src : Int) (dst : Int), Fetches s ch j l t ∧ field (leNat l) 0 8 = 1 ∧ chanOf t ch = x ∧ chanJob t ch = some k ∧
      slotKey k (field (leNat l) 8 2) = (sk, sb) ∧ slotKey k (field (leNat l) 10 2) = (dk, db) ∧
      moveOffset x sb (field (leNat l) 16 40) (field (leNat l) 12 4) true = src ∧
      moveOffset x db (field (leNat l) 56 40) (field (leNat l) 12 4) false = dst ∧ field (leNat l) 96 32 = n ∧ moveFits src n = true ∧
      moveFits dst n = true ∧ n = 0) ∧
    (∃ (s : State) (ch : Nat) (j : Job) (l : List Byte) (t : State) (alg : Nat) (x : Channel) (k : Job) (sk : Nat) (sb : Nat) (dk :
        Nat) (db : Nat) (n : Nat) (src : Int) (dst : Int), Fetches s ch j l t ∧ field (leNat l) 0 8 = 2 + alg ∧ alg ≤ 2 ∧
      chanOf t ch = x ∧ chanJob t ch = some k ∧ slotKey k (field (leNat l) 8 2) = (sk, sb) ∧
      slotKey k (field (leNat l) 10 2) = (dk, db) ∧ moveOffset x sb (field (leNat l) 16 40) (field (leNat l) 12 4) true = src ∧
      moveOffset x db (field (leNat l) 56 40) (field (leNat l) 12 4) false = dst ∧ field (leNat l) 96 32 = n ∧ moveFits src n = true ∧
      moveFits dst n = true) ∧
    (∃ (s : State) (ch : Nat) (j : Job) (l : List Byte) (t : State) (x : Channel) (one : Bool) (n : Nat) (m : LoopLevel), Fetches s ch
        j l t ∧ field (leNat l) 0 8 = 0x10 ∧ chanOf t ch = x ∧ bitAt (leNat l) 8 = one ∧ (if one then x.l1 else x.l0).held = none ∧
      field (leNat l) 24 24 = n ∧ 1 < n ∧ enterLevel x.pc (leNat l) = m) ∧
    (∃ (s : State) (ch : Nat) (j : Job) (l : List Byte) (t : State) (x : Channel) (one : Bool) (v : LoopLevel), Fetches s ch j l t ∧
      field (leNat l) 0 8 = 0x10 ∧ chanOf t ch = x ∧ bitAt (leNat l) 8 = one ∧ (if one then x.l1 else x.l0) = v ∧ v.held = some x.pc ∧
      v.i + 1 < field (leNat l) 24 24) ∧
    (∃ (s : State) (ch : Nat) (j : Job) (l : List Byte) (t : State) (x : Channel) (one : Bool) (v : LoopLevel) (n : Nat), Fetches s ch
        j l t ∧ field (leNat l) 0 8 = 0x10 ∧ chanOf t ch = x ∧ bitAt (leNat l) 8 = one ∧ (if one then x.l1 else x.l0) = v ∧
      ((v.held = some x.pc ∧ v.i + 1 ≥ n) ∨ (v.held = none ∧ n ≤ 1)) ∧ field (leNat l) 24 24 = n) ∧
    (∃ (s : State) (ch : Nat) (j : Job) (l : List Byte) (t : State) (x : Channel) (v : MovWait), Fetches s ch j l t ∧
      field (leNat l) 0 8 = 0x11 ∧ chanOf t ch = x ∧ waitOf t (leNat l) = v ∧
      ((v.kind = 0 → counterOwned t v.counter x.owner = true)) ∧ waitOver t x v = true) ∧
    (∃ (s : State) (ch : Nat) (j : Job) (l : List Byte) (t : State) (x : Channel) (v : MovWait), Fetches s ch j l t ∧
      field (leNat l) 0 8 = 0x11 ∧ chanOf t ch = x ∧ waitOf t (leNat l) = v ∧
      ((v.kind = 0 → counterOwned t v.counter x.owner = true)) ∧ waitOver t x v = false) ∧
    (∃ (s : State) (ch : Nat) (j : Job) (l : List Byte) (t : State) (x : Channel) (u : State), Fetches s ch j l t ∧
      field (leNat l) 0 8 = 0x12 ∧ chanOf t ch = x ∧ movVisible t ch = (u, true) ∧ bitAt (leNat l) 8 = true ∧
      holdsChan u x.owner (field (leNat l) 32 5) = true) ∧
    (∃ (s : State) (ch : Nat) (j : Job) (l : List Byte) (t : State) (x : Channel) (u : State) (n : Nat), Fetches s ch j l t ∧
      field (leNat l) 0 8 = 0x12 ∧ chanOf t ch = x ∧ movVisible t ch = (u, true) ∧ bitAt (leNat l) 8 = false ∧
      cntField (field (leNat l) 16 16) = some n ∧ counterOwned u n x.owner = true) ∧
    (∃ (s : State) (ch : Nat) (j : Job) (l : List Byte) (t : State) (u : State), Fetches s ch j l t ∧ field (leNat l) 0 8 = 0x13 ∧
      movVisible t ch = (u, true)) ∧
    (∃ (s : State) (ch : Nat) (j : Job) (l : List Byte) (t : State) (x : Channel) (u : State) (idx : Idx), Fetches s ch j l t ∧
      field (leNat l) 0 8 = 0x1F ∧ chanOf t ch = x ∧ movVisible t ch = (u, true) ∧ x.job = some idx) :=
  ⟨⟨(program runs0 (1 + 2 ^ 10 + 8 * 2 ^ 96)),
    (0),
    (progJob),
    (leBytes 16 (1 + 2 ^ 10 + 8 * 2 ^ 96)),
    (fetchOf runs0 (1 + 2 ^ 10 + 8 * 2 ^ 96)),
    (runs0),
    (progJob),
    (256),
    (0),
    (256),
    (512),
    (8),
    (0),
    (512), by decide +kernel⟩,
   ⟨(program runs0 (1 + 2 ^ 10)),
    (0),
    (progJob),
    (leBytes 16 (1 + 2 ^ 10)),
    (fetchOf runs0 (1 + 2 ^ 10)),
    (runs0),
    (progJob),
    (256),
    (0),
    (256),
    (512),
    (0),
    (0),
    (512), by decide +kernel⟩,
   ⟨(program runs0 (3 + 2 ^ 10 + 8 * 2 ^ 96)),
    (0),
    (progJob),
    (leBytes 16 (3 + 2 ^ 10 + 8 * 2 ^ 96)),
    (fetchOf runs0 (3 + 2 ^ 10 + 8 * 2 ^ 96)),
    (1),
    (runs0),
    (progJob),
    (256),
    (0),
    (256),
    (512),
    (8),
    (0),
    (512), by decide +kernel⟩,
   ⟨(program { runs0 with pc := 1 } (0x10 + 3 * 2 ^ 24)),
    (0),
    (progJob),
    (leBytes 16 (0x10 + 3 * 2 ^ 24)),
    (fetchOf { runs0 with pc := 1 } (0x10 + 3 * 2 ^ 24)),
    { runs0 with pc := 1 },
    (false),
    (3),
    { held := some 1, i := 1 }, by decide +kernel⟩,
   ⟨(program { runs0 with pc := 1, l1 := { held := some 1, i := 1 } } (0x110 + 3 * 2 ^ 24)),
    (0),
    (progJob),
    (leBytes 16 (0x110 + 3 * 2 ^ 24)),
    (fetchOf { runs0 with pc := 1, l1 := { held := some 1, i := 1 } } (0x110 + 3 * 2 ^ 24)),
    { runs0 with pc := 1, l1 := { held := some 1, i := 1 } },
    (true),
    { held := some 1, i := 1 }, by decide +kernel⟩,
   ⟨(program { runs0 with pc := 1 } (0x110 + 2 ^ 24)),
    (0),
    (progJob),
    (leBytes 16 (0x110 + 2 ^ 24)),
    (fetchOf { runs0 with pc := 1 } (0x110 + 2 ^ 24)),
    { runs0 with pc := 1 },
    (true),
    {},
    (1), by decide +kernel⟩,
   ⟨(program runs0 (0x11 + 2 ^ 79 + 2 ^ 80)),
    (0),
    (progJob),
    (leBytes 16 (0x11 + 2 ^ 79 + 2 ^ 80)),
    (fetchOf runs0 (0x11 + 2 ^ 79 + 2 ^ 80)),
    (runs0),
    { kind := 0, counter := 0, arg := 1 }, by decide +kernel⟩,
   ⟨(program runs0 (0x311 + 2 ^ 32)),
    (0),
    (progJob),
    (leBytes 16 (0x311 + 2 ^ 32)),
    (fetchOf runs0 (0x311 + 2 ^ 32)),
    (runs0),
    { kind := 3, arg := 0, limit := some 1000 }, by decide +kernel⟩,
   ⟨(program runs0 (0x112)),
    (0),
    (progJob),
    (leBytes 16 (0x112)),
    (fetchOf runs0 (0x112)),
    (runs0),
    (fetchOf runs0 (0x112)), by decide +kernel⟩,
   ⟨(program runs0 (0x12 + 2 ^ 31 + 5 * 2 ^ 64)),
    (0),
    (progJob),
    (leBytes 16 (0x12 + 2 ^ 31 + 5 * 2 ^ 64)),
    (fetchOf runs0 (0x12 + 2 ^ 31 + 5 * 2 ^ 64)),
    (runs0),
    (fetchOf runs0 (0x12 + 2 ^ 31 + 5 * 2 ^ 64)),
    (0), by decide +kernel⟩,
   ⟨(program runs0 (0x13)),
    (0),
    (progJob),
    (leBytes 16 (0x13)),
    (fetchOf runs0 (0x13)),
    (fetchOf runs0 (0x13)), by decide +kernel⟩,
   ⟨(program runs0 (0x1F)),
    (0),
    (progJob),
    (leBytes 16 (0x1F)),
    (fetchOf runs0 (0x1F)),
    (runs0),
    (fetchOf runs0 (0x1F)),
    (0), by decide +kernel⟩⟩

/-- Every clause of MoverEventsComplete has a state and operands that meet its hypotheses. -/
theorem witness_MoverEventsComplete :
    (∃ (s : State) (ch : Nat) (x : Channel) (w : MovWait), running s = true ∧ chanOf s ch = x ∧ x.st = .waiting ∧ x.wait = some w ∧
      waitOver s x w = true) ∧
    (∃ (s : State) (ch : Nat) (x : Channel) (w : MovWait) (t : Nat), running s = true ∧ chanOf s ch = x ∧ x.st = .waiting ∧
      x.wait = some w ∧ waitOver s x w = false ∧ w.limit = some t ∧ now s ≥ t) ∧
    (∃ (s : State) (ch : Nat) (m : MoveOp) (idx : Idx) (t : State) (t1 : State) (t2 : State) (t3 : State) (t4 : State) (n : Nat) (ps :
        List Piece) (early : Bool) (l : List Byte) (l3 : List Byte), running s = true ∧ nextChan s = some ch ∧
      (chanOf s ch).move = some m ∧ (chanOf s ch).job = some idx ∧ (isPaired s = false ∨ (chanOf s ch).begun = true) ∧
      modChan (takeTurn s ch) ch (fun x => { x with begun := true }) = t ∧ min (64 - (m.dst + m.done) % 64) (m.len - m.done) = n ∧
      n ≠ 0 ∧ translate t (movAccess t ch m.skey (m.src + m.done) n 1) = (t1, .ok ps early) ∧
      readPieces t1 (chanOf t1 ch).owner ps = (t2, some l) ∧ seenBytes t2 ch ps l = (t3, l3) ∧
      movWrite t3 ch m.dkey (m.dst + m.done) l3 = (t4, true) ∧ m.done + n < m.len) ∧
    (∃ (s : State) (ch : Nat) (m : MoveOp) (idx : Idx) (t : State) (t1 : State) (t2 : State) (t3 : State) (t4 : State) (n : Nat) (ps :
        List Piece) (early : Bool) (l : List Byte) (l3 : List Byte), running s = true ∧ nextChan s = some ch ∧
      (chanOf s ch).move = some m ∧ (chanOf s ch).job = some idx ∧ (isPaired s = false ∨ (chanOf s ch).begun = true) ∧
      modChan (takeTurn s ch) ch (fun x => { x with begun := true }) = t ∧ min (64 - (m.dst + m.done) % 64) (m.len - m.done) = n ∧
      n ≠ 0 ∧ translate t (movAccess t ch m.skey (m.src + m.done) n 1) = (t1, .ok ps early) ∧
      readPieces t1 (chanOf t1 ch).owner ps = (t2, some l) ∧ seenBytes t2 ch ps l = (t3, l3) ∧
      movWrite t3 ch m.dkey (m.dst + m.done) l3 = (t4, true) ∧ m.done + n = m.len) ∧
    (∃ (s : State) (ch : Nat) (j : Job) (t : State) (l : List Byte) (m : MoveOp), running s = true ∧ chanReady s ch = true ∧
      (chanOf s ch).chain = true ∧ chanJob s ch = some j ∧ movRead s ch (opnd j 128 32) (chanOf s ch).desc 32 4 = (t, some l) ∧
      descMove j (leNat l) = m ∧ moveFits m.src m.len = true ∧ moveFits m.dst m.len = true ∧ m.len ≠ 0) ∧
    (∃ (s : State) (ch : Nat) (j : Job) (t : State) (l : List Byte) (m : MoveOp), running s = true ∧ chanReady s ch = true ∧
      (chanOf s ch).chain = true ∧ chanJob s ch = some j ∧ movRead s ch (opnd j 128 32) (chanOf s ch).desc 32 4 = (t, some l) ∧
      descMove j (leNat l) = m ∧ moveFits m.src m.len = true ∧ moveFits m.dst m.len = true ∧ m.len = 0) ∧
    (∃ (s : State) (ch : Nat) (m : MoveOp), running s = true ∧ (chanOf s ch).readBad = true ∧ (chanOf s ch).move = some m ∧ m.alg = none) ∧
    (∃ (s : State) (ch : Nat) (m : MoveOp) (alg : Nat) (t : State), running s = true ∧ (chanOf s ch).readBad = true ∧
      (chanOf s ch).move = some m ∧ m.alg = some alg ∧ movWrite s ch m.dkey (m.dst + m.len) (trailer alg m.sum stChecksum) = (t, true)) :=
  ⟨⟨(aged (program (sleeps0 1) 0)),
    (0),
    (sleeps0 1),
    { kind := 1, arg := 1000 }, by decide +kernel⟩,
   ⟨(aged (program (sleeps0 3) 0)),
    (0),
    (sleeps0 3),
    { kind := 3, limit := some 1000 },
    (1000), by decide +kernel⟩,
   ⟨(beatAt 80),
    (0),
    (bigMove 80),
    (0),
    (beat1 80),
    (beat2 80),
    (beat3 80),
    (beat3 80),
    (beat4 80),
    (64),
    (piece0 64),
    (false),
    (List.replicate 64 0),
    (List.replicate 64 0), by decide +kernel⟩,
   ⟨(beatAt 8),
    (0),
    (bigMove 8),
    (0),
    (beat1 8),
    (beat2 8),
    (beat3 8),
    (beat3 8),
    (beat4 8),
    (8),
    (piece0 8),
    (false),
    (List.replicate 8 0),
    (List.replicate 8 0), by decide +kernel⟩,
   ⟨(chainAt 8),
    (0),
    (chainJob),
    ((movRead (chainAt 8) 0 256 0 32 4).1),
    (descrBytes 8),
    (move8 none), by decide +kernel⟩,
   ⟨(chainAt 0),
    (0),
    (chainJob),
    ((movRead (chainAt 0) 0 256 0 32 4).1),
    (descrBytes 0),
    (bigMove 0), by decide +kernel⟩,
   ⟨(program { moves0 with readBad := true } 0),
    (0),
    (move8 none), by decide +kernel⟩,
   ⟨(badBeat),
    (0),
    (move8 (some 0)),
    (0),
    (badBeat1), by decide +kernel⟩⟩

/-- Every clause of SchedulerEventsComplete has a state and operands that meet its hypotheses. -/
theorem witness_SchedulerEventsComplete :
    (∃ (s : State) (port : Nat) (fs : List (Nat × Idx)) (v : State) (t : State) (q : Nat) (idx : Idx), running s = true ∧
      (port = 12 ∨ port = 13) ∧ s.rgl.hadSync = true ∧ spillStranded s port = v ∧ startedFrames v port = fs ∧
      { v with sch := { v.sch with strike := fmSet v.sch.strike port fs } } = t ∧ fs.find? (frameReady t) = some (q, idx)) ∧
    (∃ (s : State) (port : Nat) (fs : List (Nat × Idx)) (v : State) (t : State) (fn : Nat) (p : Packet) (l : List (Nat × Packet)),
        running s = true ∧ (port = 12 ∨ port = 13) ∧ s.rgl.hadSync = true ∧ spillStranded s port = v ∧ startedFrames v port = fs ∧
      { v with sch := { v.sch with strike := fmSet v.sch.strike port fs } } = t ∧ fs.find? (frameReady t) = none ∧
      fmGet t.sch.replies port [] = (fn, p) :: l ∧ crossable t p.rt.plane = true) ∧
    (∃ (s : State) (port : Nat) (fs : List (Nat × Idx)) (v : State) (t : State) (m : Maint), running s = true ∧
      (port = 12 ∨ port = 13) ∧ s.rgl.hadSync = true ∧ spillStranded s port = v ∧ startedFrames v port = fs ∧
      { v with sch := { v.sch with strike := fmSet v.sch.strike port fs } } = t ∧ fs.find? (frameReady t) = none ∧
      fmGet t.sch.replies port [] = [] ∧ (fmGet t.sch.maint port []).find? (maintReady t) = some m) ∧
    (∃ (s : State) (port : Nat) (g : Nat) (fs : List (Nat × Idx)) (v : State) (t : State) (u : State) (l : List Nat), running s = true
        ∧ (port = 12 ∨ port = 13) ∧ s.rgl.hadSync = true ∧ spillStranded s port = v ∧ startedFrames v port = fs ∧
      { v with sch := { v.sch with strike := fmSet v.sch.strike port fs } } = t ∧ fs.find? (frameReady t) = none ∧
      fmGet t.sch.replies port [] = [] ∧ (fmGet t.sch.maint port []).find? (maintReady t) = none ∧ activeList t port = g :: l ∧
      turnOf t port = false ∧
      setTurn (setGroup t g { groupSched t g with deficit := (groupSched t g).deficit + (groupSched t g).quantum }) port true = u ∧
      groupReady u g = true ∧ (groupSched u g).deficit ≠ 0 ∧ shapersAdmit u (groupOwner u g) = true) ∧
    (∃ (s : State), running s = true) ∧
    (∃ (s : State), s.inReset = false ∧ s.cus.safe = true) ∧
    (∃ (s : State), s.inReset = true) ∧
    (∃ (s : State), running s = true ∧ s.sch.sampleEn = true ∧ tickNow s % 1000 = 0) ∧
    (∃ (s : State) (d : Nat) (v : Nat) (ts : Nat) (x : Dial) (y : Dial) (l : List (Nat × Nat)), running s = true ∧ dialOf s d = x ∧
      x.coming = (v, ts) :: l ∧ x.en = true ∧ dialApply { x with coming := l } v ts = y) :=
  ⟨⟨(startedAt),
    (12),
    ([(1, 0)]),
    (startedAt),
    (startedAt),
    (1),
    (0), by decide +kernel⟩,
   ⟨{ synced up with sch := { up.sch with replies := [(12, [(0, unitPkt 1 1)])] } },
    (12),
    ([]),
    { synced up with sch := { up.sch with replies := [(12, [(0, unitPkt 1 1)])] } },
    { synced up with sch := { up.sch with replies := [(12, [(0, unitPkt 1 1)])], strike := [(12, [])] } },
    (0),
    (unitPkt 1 1),
    ([]), by decide +kernel⟩,
   ⟨(maintains),
    (12),
    ([]),
    (maintains),
    { maintains with sch := { maintains.sch with strike := [(12, [])] } },
    (.close 0), by decide +kernel⟩,
   ⟨(listed),
    (12),
    (0),
    ([]),
    (listed),
    { listed with sch := { listed.sch with strike := [(12, [])] } },
    (listedTurn),
    ([]), by decide +kernel⟩,
   ⟨(up), by decide +kernel⟩,
   ⟨{ up with cus := { up.cus with safe := true } }, by decide +kernel⟩,
   ⟨(State.reset), by decide +kernel⟩,
   ⟨{ bell with sch := { bell.sch with sampleEn := true } }, by decide +kernel⟩,
   ⟨(setDial up 3 { en := true, coming := [(7, 0)] }),
    (3),
    (7),
    (0),
    { en := true, coming := [(7, 0)] },
    (dialApply { en := true, coming := [] } 7 0),
    ([]), by decide +kernel⟩⟩

/-- Every clause of StrikeEventsComplete has a state and operands that meet its hypotheses. -/
theorem witness_StrikeEventsComplete :
    (∃ (s : State) (flow : Nat) (n : Nat) (d : Nat) (b : Binding) (j : Job) (ws : List Window) (ends : List Nat), running s = true ∧
      bindingOfFlow s flow = some (n, b) ∧ frontFrame s b.queue = some j ∧ isStalled s (.job b.queue j.idx) = false ∧
      injectionWindows s flow = ws ∧ ws ≠ [] ∧ occupancy (jobLength j.opcode (j.entries.headD 0).toNat) = d ∧
      ws.all (fun w => decide (w.length < d)) = false ∧
      ws.filterMap (fun w => occurrenceEnd (stkBank s s.stk.current) w (tickNow s)) = ends ∧ ends ≠ [] ∧ b.busy ≤ tickNow s ∧
      windowOpen s j.context 0x02 = true ∧ ends.any (fun e => decide (tickNow s + d ≤ e)) = true) ∧
    (∃ (s : State) (flow : Nat) (n : Nat) (d : Nat) (b : Binding) (j : Job) (ws : List Window) (ends : List Nat), running s = true ∧
      bindingOfFlow s flow = some (n, b) ∧ frontFrame s b.queue = some j ∧ isStalled s (.job b.queue j.idx) = false ∧
      injectionWindows s flow = ws ∧ ws ≠ [] ∧ occupancy (jobLength j.opcode (j.entries.headD 0).toNat) = d ∧
      ws.all (fun w => decide (w.length < d)) = false ∧
      ws.filterMap (fun w => occurrenceEnd (stkBank s s.stk.current) w (tickNow s)) = ends ∧ ends ≠ [] ∧ b.busy ≤ tickNow s ∧
      windowOpen s j.context 0x02 = true ∧ ends.any (fun e => decide (tickNow s + d ≤ e)) = false ∧ b.spill = true) ∧
    (∃ (s : State) (flow : Nat) (n : Nat) (d : Nat) (b : Binding) (j : Job) (ws : List Window) (ends : List Nat), running s = true ∧
      bindingOfFlow s flow = some (n, b) ∧ frontFrame s b.queue = some j ∧ isStalled s (.job b.queue j.idx) = false ∧
      injectionWindows s flow = ws ∧ ws ≠ [] ∧ occupancy (jobLength j.opcode (j.entries.headD 0).toNat) = d ∧
      ws.all (fun w => decide (w.length < d)) = false ∧
      ws.filterMap (fun w => occurrenceEnd (stkBank s s.stk.current) w (tickNow s)) = ends ∧ ends ≠ [] ∧ b.busy ≤ tickNow s ∧
      windowOpen s j.context 0x02 = true ∧ ends.any (fun e => decide (tickNow s + d ≤ e)) = false ∧ b.spill = false) ∧
    (∃ (s : State) (flow : Nat) (n : Nat) (d : Nat) (b : Binding) (j : Job) (ws : List Window), running s = true ∧
      bindingOfFlow s flow = some (n, b) ∧ frontFrame s b.queue = some j ∧ isStalled s (.job b.queue j.idx) = false ∧
      injectionWindows s flow = ws ∧ ws ≠ [] ∧ occupancy (jobLength j.opcode (j.entries.headD 0).toNat) = d ∧
      ws.all (fun w => decide (w.length < d)) = true) ∧
    (∃ (s : State) (t : Nat) (v : State), running s = true ∧ s.stk.dueT = some t ∧ t ≤ stamp s ∧ s.stk.activating = true ∧
      wakeCmds (turnStrike s t) (fun _ w => w == .strikeSwitch) stOk [] = v ∧ v.stk.activating = false) ∧
    (∃ (s : State) (r : Nat) (u : State), running s = true ∧ s.stk.dueR = some r ∧ r ≤ stamp s ∧ s.stk.oldLive = true ∧
      setStkBank s (1 - s.stk.current) {} = u) ∧
    (∃ (s : State) (x : StrikeChange), running s = true ∧ s.epo.strike = some x ∧ x.t = none ∧ x.ready.length < x.participants ∧
      x.start + 100000000 ≤ now s) ∧
    (∃ (s : State) (x : StrikeChange), running s = true ∧ s.epo.strike = some x ∧ x.t = none ∧ x.ready = [linearOf s s.mvt.coord] ∧
      1 < x.participants ∧ x.start + 100000000 ≤ now s ∧ s.stk.activating = true ∧ s.stk.dueT = none) ∧
    (∃ (s : State) (port : Nat) (p : Nat) (h : Held) (l : List Held), running s = true ∧ bufOf s (bufKey port 8) = h :: l ∧
      orderPort h.pkt.rt.dir s.mvt.coord h.pkt.rt.dest = some p ∧ h.pkt.rt.cls = 3 ∧ h.claim = none ∧
      (fenced s p = true ∨ h.arr + 64 ≤ now s)) :=
  ⟨⟨(framed 1000 0 false),
    (9),
    (0),
    (occupancy 1),
    (frameBinding false),
    (frameJob),
    ((sched9 1000).windows),
    ([1000]), by decide +kernel⟩,
   ⟨(framed 1000 999 true),
    (9),
    (0),
    (occupancy 1),
    (frameBinding true),
    (frameJob),
    ((sched9 1000).windows),
    ([1000]), by decide +kernel⟩,
   ⟨(framed 1000 999 false),
    (9),
    (0),
    (occupancy 1),
    (frameBinding false),
    (frameJob),
    ((sched9 1000).windows),
    ([1000]), by decide +kernel⟩,
   ⟨(framed 2 0 false),
    (9),
    (0),
    (occupancy 1),
    (frameBinding false),
    (frameJob),
    ((sched9 2).windows), by decide +kernel⟩,
   ⟨(dueStrike),
    (0),
    (dueStrike2), by decide +kernel⟩,
   ⟨{ up with stk := { up.stk with dueR := some 0, oldLive := true } },
    (0),
    (setStkBank { up with stk := { up.stk with dueR := some 0, oldLive := true } } 1 {}), by decide +kernel⟩,
   ⟨(strikeWaits),
    { id := 5, epoch := 9, participants := 2, ready := [0], start := 0 }, by decide +kernel⟩,
   ⟨(strikeAsks),
    { id := 5, epoch := 9, participants := 2, ready := [0], start := 0 }, by decide +kernel⟩,
   ⟨(aged (atFront 3 1)),
    (12),
    (10),
    (held1 3 1),
    ([]), by decide +kernel⟩⟩

/-- Every clause of MovementEventsComplete has a state and operands that meet its hypotheses. -/
theorem witness_MovementEventsComplete :
    (∃ (s : State) (port : Nat) (vc : Nat) (h : Held) (l : List Held) (p : Nat) (v : Nat) (r : RouteHdr), running s = true ∧
      bufOf s (bufKey port vc) = h :: l ∧ h.claim = none ∧ want s port h = .send p v r ∧ outranked s (bufKey port vc) p v h = false) ∧
    (∃ (s : State) (port : Nat) (vc : Nat) (h : Held) (l : List Held) (t : State), running s = true ∧
      bufOf s (bufKey port vc) = h :: l ∧ h.claim = none ∧ want s port h = .deliver ∧ h.got ≥ h.pkt.rt.len ∧ h.pkt.poisoned = false ∧
      h.pkt.rt.cls ≠ 4 ∧ (match h.pkt.tt with | .other _ _ => false | _ => true) = true ∧
      returnCredits (setBuf s (bufKey port vc) l) (bufKey port vc / 16) (bufKey port vc % 16) h.due = t) ∧
    (∃ (s : State) (port : Nat) (vc : Nat) (h : Held) (l : List Held) (tt : Nat) (rest : Nat), running s = true ∧
      bufOf s (bufKey port vc) = h :: l ∧ h.claim = none ∧ want s port h = .deliver ∧ h.got ≥ h.pkt.rt.len ∧ h.pkt.poisoned = false ∧
      h.pkt.tt = .other tt rest) ∧
    (∃ (s : State) (port : Nat) (vc : Nat) (h : Held) (l : List Held) (why : Discard), running s = true ∧
      bufOf s (bufKey port vc) = h :: l ∧ h.claim = none ∧ want s port h = .discard why) ∧
    (∃ (s : State) (port : Nat) (vc : Nat) (h : Held) (l : List Held) (p : Nat) (v : Nat), running s = true ∧
      bufOf s (bufKey port vc) = h :: l ∧ h.claim = some (p, v)) ∧
    (∃ (s : State) (port : Nat) (vc : Nat) (h : Held) (l : List Held) (f : Bool), running s = true ∧
      bufOf s (bufKey port vc) = h :: l ∧ h.claim = none ∧ h.pkt.rt.esc = false ∧ h.pkt.rt.cls < 2 ∧ hopFenced s h.pkt.rt = f ∧
      h.arr + (if f then max s.mvt.detourWait s.mvt.escDelay else s.mvt.escDelay) ≤ now s) ∧
    (∃ (s : State) (port : Nat) (vc : Nat) (h : Held), running s = true ∧ waitingHeads s = [(bufKey port vc, h)] ∧
      tooOld s h.pkt.rt = true) ∧
    (∃ (s : State) (port : Nat) (vc : Nat) (t : Nat), running s = true ∧ (fnOf s vc).stallFrom = some t ∧ t + 100000 ≤ now s) :=
  ⟨⟨(readyPort),
    (12),
    (0),
    (held1 0 1),
    ([]),
    (10),
    (0),
    ((unitPkt 0 1).rt), by decide +kernel⟩,
   ⟨(withPort (atFront 0 0)),
    (12),
    (0),
    (held1 0 0),
    ([]),
    (returnCredits (setBuf (withPort (atFront 0 0)) 192 []) 12 0 0), by decide +kernel⟩,
   ⟨(withPort (setBuf (shaped up) 192 [{ held1 0 0 with pkt := { unitPkt 0 0 with tt := .other 0x60 0 } }])),
    (12),
    (0),
    { held1 0 0 with pkt := { unitPkt 0 0 with tt := .other 0x60 0 } },
    ([]),
    (0x60),
    (0), by decide +kernel⟩,
   ⟨(atFront 0 9),
    (12),
    (0),
    (held1 0 9),
    ([]),
    (.addr), by decide +kernel⟩,
   ⟨(setBuf readyPort 192 [{ held1 0 1 with claim := some (10, 0) }]),
    (12),
    (0),
    { held1 0 1 with claim := some (10, 0) },
    ([]),
    (10),
    (0), by decide +kernel⟩,
   ⟨(aged readyPort),
    (12),
    (0),
    (held1 0 1),
    ([]),
    (false), by decide +kernel⟩,
   ⟨(aged readyPort),
    (12),
    (0),
    (held1 0 1), by decide +kernel⟩,
   ⟨(aged (setFn up 0 (fun f => { f with stallFrom := some 0 }))),
    (0),
    (0),
    (0), by decide +kernel⟩⟩

/-- Every clause of LaneEventsComplete has a state and operands that meet its hypotheses. -/
theorem witness_LaneEventsComplete :
    (∃ (s : State) (p : Nat) (r : RawGroup) (g : FlitGroup) (w : State) (u : State) (v : State), running s = true ∧ hasLanes p = true ∧
      watchHeads s p r = w ∧ kick (modLane w p (fun l => takeAck (takeCredits l g.credits) g.ackSeq (now w))) p = u ∧
      modLane u p (fun l => { l with rxSeq := (l.rxSeq + 1) % 4096, nak := false, nakRow := 0, nakBad := false, owed := true }) = v ∧
      decodeGroup p r = g ∧ (laneOf w p).rx = .active ∧ g.good = true ∧ g.corrected = 0 ∧ g.nak = false ∧ g.slots ≠ [] ∧
      g.seq = (laneOf u p).rxSeq ∧ g.slots.all (slotOk p) = true) ∧
    (∃ (s : State) (p : Nat) (r : RawGroup) (g : FlitGroup) (w : State), running s = true ∧ hasLanes p = true ∧ watchHeads s p r = w ∧
      decodeGroup p r = g ∧ (laneOf w p).rx = .active ∧ g.good = true ∧ g.corrected = 0 ∧ g.nak = false ∧ g.slots = []) ∧
    (∃ (s : State) (p : Nat) (r : RawGroup) (g : FlitGroup) (w : State) (u : State), running s = true ∧ hasLanes p = true ∧
      watchHeads s p r = w ∧ modLane w p (fun l => takeAck (takeCredits l g.credits) g.ackSeq (now w)) = u ∧ decodeGroup p r = g ∧
      (laneOf w p).rx = .active ∧ g.good = true ∧ g.corrected = 0 ∧ g.nak = true ∧ g.slots = []) ∧
    (∃ (s : State) (p : Nat) (r : RawGroup) (g : FlitGroup) (w : State) (t : State), running s = true ∧ hasLanes p = true ∧
      watchHeads s p r = w ∧ bump w (182 + 7 * portIx p + 1) = t ∧ decodeGroup p r = g ∧ (laneOf w p).rx = .active ∧ g.good = false ∧
      g.corrected = 0 ∧ (laneOf t p).nak = false ∧ (laneOf t p).nakRow + 1 < max 1 t.lne.retryMax) ∧
    (∃ (s : State) (p : Nat) (r : RawGroup) (g : FlitGroup) (w : State) (t : State), running s = true ∧ hasLanes p = true ∧
      watchHeads s p r = w ∧ bump w (182 + 7 * portIx p + 1) = t ∧ decodeGroup p r = g ∧ (laneOf w p).rx = .active ∧ g.good = false ∧
      g.corrected = 0 ∧ (laneOf t p).nak = false ∧ (laneOf t p).nakRow + 1 ≥ max 1 t.lne.retryMax) ∧
    (∃ (s : State) (p : Nat), running s = true ∧ hasLanes p = true ∧ (laneOf s p).nak = true ∧ (laneOf s p).nakAt + 2000 ≤ now s ∧
      (laneOf s p).nakBad = false) ∧
    (∃ (s : State) (p : Nat), running s = true ∧ hasLanes p = true ∧ (laneOf s p).nak = true ∧ (laneOf s p).nakAt + 2000 ≤ now s ∧
      (laneOf s p).nakBad = true ∧ (laneOf s p).nakRow + 1 < max 1 s.lne.retryMax) ∧
    (∃ (s : State) (p : Nat) (lane : Nat) (lock : Bool) (t : State), running s = true ∧ hasLanes p = true ∧
      modLane s p (losing lane lock (now s)) = t ∧ (p ≠ 14 ∨ bridgeReady t = false)) ∧
    (∃ (s : State) (p : Nat) (lane : Nat) (lock : Bool) (t : State), running s = true ∧ hasLanes p = true ∧ p = 14 ∧
      modLane s p (losing lane lock (now s)) = t ∧ bridgeReady t = true) ∧
    (∃ (s : State) (p : Nat), running s = true ∧ hasLanes p = true ∧ p < 12 ∧
      (laneOf s p).lossAt.any (fun kv => decide (now s ≥ kv.2 + 500)) = true ∧ linkActive s p = true) ∧
    (∃ (s : State) (p : Nat) (lane : Nat) (fom : Nat) (since : Nat) (t : State), running s = true ∧ hasLanes p = true ∧ p < 12 ∧
      lane < 4 ∧ modLane s p (fun l => noteFom s.lne.fomWarn (now s) l lane (fom % 256)) = t ∧
      fmFind (laneOf t p).lowFrom lane = some since ∧ since + 1000000 ≤ now t ∧ (laneOf t p).lowTold.contains lane = false) ∧
    (∃ (s : State) (p : Nat) (lane : Nat) (fom : Nat) (t : State), running s = true ∧ hasLanes p = true ∧ p < 12 ∧ lane < 4 ∧
      modLane s p (fun l => noteFom s.lne.fomWarn (now s) l lane (fom % 256)) = t ∧ fmFind (laneOf t p).lowFrom lane = none) ∧
    (∃ (s : State) (p : Nat) (lanes : List Nat) (c : Nat) (pl : Nat) (reason : Nat) (was : Bool) (t : State) (u : State), running s =
        true ∧ hasLanes p = true ∧ osRead lanes = some (.fence c pl reason) ∧ p ≠ 14 ∧ (laneOf s p).peerFence = false ∧
      fenced s p = was ∧ fault (fenceDown s p) (laneSrc p 4) (p + reason % 256 * 16) = t ∧
      { t with mvt := { t.mvt with peerFence := withMember t.mvt.peerFence p } } = u) ∧
    (∃ (s : State) (p : Nat) (lanes : List Nat) (c : Nat) (pl : Nat) (reason : Nat) (t : State), running s = true ∧ hasLanes p = true ∧
      osRead lanes = some (.fence c pl reason) ∧ p = 14 ∧ (laneOf s 14).peerFence = false ∧
      fault (fenceDown s 14) (laneSrc 14 4) (14 + reason % 256 * 16) = t) ∧
    (∃ (s : State) (p : Nat) (lanes : List Nat), running s = true ∧ hasLanes p = true ∧ osRead lanes = some .sleep ∧ p < 12 ∧
      (laneOf s p).rx = .active) ∧
    (∃ (s : State) (p : Nat) (l : LanePort), running s = true ∧ hasLanes p = true ∧ laneOf s p = l ∧ p < 12 ∧ l.tx = .active ∧
      l.sleepEn = true ∧ l.sendq = [] ∧ l.owed = false ∧ l.credDue = [] ∧ l.replay = [] ∧
      l.idleFrom + max 1 l.sleepIdle * 1000 ≤ now s ∧ s.rgl.parent ≠ p ∧ s.rgl.txParent.contains p = false ∧
      (fmGet s.rgl.nbrs p {}).isParent = false) ∧
    (∃ (s : State) (p : Nat), running s = true ∧ hasLanes p = true ∧ (laneOf s p).tx = .sleep ∧
      ((laneOf s p).sendq ≠ [] ∨ (laneOf s p).owed = true ∨ (laneOf s p).credDue ≠ []) ∧ (laneOf s p).sleptAt ≠ some (now s)) :=
  ⟨⟨(laneUp),
    (10),
    (raw1),
    (group1),
    (watchHeads laneUp 10 raw1),
    (laneUp1),
    (laneUp2), by decide +kernel, by decide +kernel, rfl, rfl, rfl, by decide +kernel⟩,
   ⟨(laneUp),
    (10),
    (raw0 false),
    { good := true, ackSeq := 7 },
    (watchHeads laneUp 10 (raw0 false)), by decide +kernel, by decide +kernel, rfl, by decide +kernel⟩,
   ⟨(laneUp),
    (10),
    (raw0 true),
    { good := true, ackSeq := 7, nak := true },
    (watchHeads laneUp 10 (raw0 true)),
    (nakedUp), by decide +kernel, by decide +kernel, rfl, rfl, by decide +kernel⟩,
   ⟨(laneUp),
    (10),
    (rawBad),
    { good := false },
    (watchHeads laneUp 10 rawBad),
    (bump (watchHeads laneUp 10 rawBad) 253), by decide +kernel, by decide +kernel, rfl, rfl, by decide +kernel⟩,
   ⟨(laneAt { upLane with nakRow := 7 }),
    (10),
    (rawBad),
    { good := false },
    (watchHeads (laneAt { upLane with nakRow := 7 }) 10 rawBad),
    (bump (watchHeads (laneAt { upLane with nakRow := 7 }) 10 rawBad) 253), by decide +kernel, by decide +kernel, rfl, rfl, by decide +kernel⟩,
   ⟨(aged (laneAt { upLane with nak := true })),
    (10), by decide +kernel⟩,
   ⟨(aged (laneAt { upLane with nak := true, nakBad := true })),
    (10), by decide +kernel⟩,
   ⟨(laneUp),
    (10),
    (2),
    (false),
    (modLane laneUp 10 (losing 2 false 0)), by decide +kernel⟩,
   ⟨(bridged),
    (14),
    (2),
    (false),
    (modLane bridged 14 (losing 2 false 0)), by decide +kernel⟩,
   ⟨(aged (laneAt { upLane with los := [2], lossAt := [(4, 0)] })),
    (10), by decide +kernel⟩,
   ⟨(aged (laneAt { upLane with lowFrom := [(2, 0)] })),
    (10),
    (2),
    (3),
    (0),
    (modLane (aged (laneAt { upLane with lowFrom := [(2, 0)] })) 10 (fun l => noteFom 8 250000000 l 2 3)), by decide +kernel⟩,
   ⟨(laneUp),
    (10),
    (2),
    (200),
    (modLane laneUp 10 (fun l => noteFom 8 0 l 2 200)), by decide +kernel⟩,
   ⟨(laneUp),
    (10),
    (osPayloads 10 (.fence 1 0 2)),
    (1),
    (0),
    (2),
    (false),
    (fenced10),
    (fenced10m), by decide +kernel⟩,
   ⟨(bridged),
    (14),
    (osPayloads 14 (.fence 0 1 1)),
    (0),
    (1),
    (1),
    (fault (fenceDown bridged 14) 284 30), by decide +kernel⟩,
   ⟨(laneUp),
    (10),
    (osPayloads 10 .sleep), by decide +kernel⟩,
   ⟨(aged laneUp),
    (10),
    (upLane), by decide +kernel⟩,
   ⟨(laneAt { upLane with tx := .sleep, owed := true }),
    (10), by decide +kernel⟩⟩

/-- Every clause of TrainingEventsComplete has a state and operands that meet its hypotheses. -/
theorem witness_TrainingEventsComplete :
    (∃ (s : State) (p : Nat) (lane : Nat) (l : LanePort) (g : List Nat), running s = true ∧ hasLanes p = true ∧
      clearLoss lane false (laneOf s p) = l ∧ l.tx = .training ∧ l.phase = 0 ∧ lane < laneCount p ∧ withMember l.signal lane = g ∧
      g.length ≥ laneCount p) ∧
    (∃ (s : State) (p : Nat) (lane : Nat) (l : LanePort) (g : List Nat), running s = true ∧ hasLanes p = true ∧
      clearLoss lane false (laneOf s p) = l ∧ l.tx = .training ∧ l.phase = 0 ∧ lane < laneCount p ∧ withMember l.signal lane = g ∧
      g.length < laneCount p) ∧
    (∃ (s : State) (p : Nat) (lanes : List (Nat × LaneEq)) (l : LanePort), running s = true ∧ hasLanes p = true ∧ p < 12 ∧
      (List.range 4).foldl (fun l i => noteFom s.lne.fomWarn (now s) l i ((lanes.getD i (0, {})).1 % 256)) (laneOf s p) = l ∧
      l.tx = .training ∧ l.phase = 1 ∧ (List.range 4).all (fun i => decide (fmGet l.fom i 0 ≥ s.lne.fomMin)) = true) ∧
    (∃ (s : State) (p : Nat) (lanes : List (Nat × LaneEq)) (l : LanePort), running s = true ∧ hasLanes p = true ∧ p < 12 ∧
      (List.range 4).foldl (fun l i => noteFom s.lne.fomWarn (now s) l i ((lanes.getD i (0, {})).1 % 256)) (laneOf s p) = l ∧
      l.tx = .active ∧ l.rx = .active ∧ l.eqAt + 100000 ≤ now s) ∧
    (∃ (s : State) (p : Nat) (lane : Nat) (heads : List Nat) (skew : Nat) (t : State) (u : State), running s = true ∧
      hasLanes p = true ∧ lane < laneCount p ∧ relock s p (heads.foldl (trackHead lane) (laneOf s p)) = t ∧
      modLane t p (fun l => { l with skew := fmSet l.skew lane skew }) = u ∧ (laneOf u p).tx = .training ∧ (laneOf u p).phase = 2 ∧
      mapped p (laneOf u p) = true) ∧
    (∃ (s : State) (p : Nat) (lane : Nat) (heads : List Nat) (skew : Nat) (t : State) (u : State), running s = true ∧
      hasLanes p = true ∧ lane < laneCount p ∧ relock s p (heads.foldl (trackHead lane) (laneOf s p)) = t ∧
      modLane t p (fun l => { l with skew := fmSet l.skew lane skew }) = u ∧ (laneOf u p).phase ≠ 2) ∧
    (∃ (s : State) (p : Nat) (lanes : List Nat) (m : TrainMsg) (l : LanePort) (t : State), running s = true ∧ hasLanes p = true ∧
      osRead lanes = some (.train m) ∧ modLane s p (heardTrain · m) = t ∧ laneOf t p = l ∧
      (peerAgrees s p = false ∨ peerAgrees t p = true) ∧ mayTrain t p = true ∧ t.mvt.adminFence.contains p = false ∧
      l.peerFence = false ∧ t.mvt.peerFence.contains p = false ∧ l.tx = .training ∧ l.rx ≠ .sleep ∧ l.phase = 3 ∧ identOk t p m = true) ∧
    (∃ (s : State) (p : Nat) (lanes : List Nat) (m : TrainMsg) (l : LanePort) (t : State), running s = true ∧ hasLanes p = true ∧
      osRead lanes = some (.train m) ∧ modLane s p (heardTrain · m) = t ∧ laneOf t p = l ∧
      (peerAgrees s p = false ∨ peerAgrees t p = true) ∧ mayTrain t p = true ∧ t.mvt.adminFence.contains p = false ∧
      l.peerFence = false ∧ t.mvt.peerFence.contains p = false ∧ l.tx = .training ∧ l.rx ≠ .sleep ∧ l.phase = 3 ∧
      identOk t p m = true ∧ m.phase = 4) ∧
    (∃ (s : State) (p : Nat) (lanes : List Nat) (m : TrainMsg) (l : LanePort) (t : State), running s = true ∧ hasLanes p = true ∧
      osRead lanes = some (.train m) ∧ modLane s p (heardTrain · m) = t ∧ laneOf t p = l ∧
      (peerAgrees s p = false ∨ peerAgrees t p = true) ∧ mayTrain t p = true ∧ t.mvt.adminFence.contains p = false ∧
      l.peerFence = false ∧ t.mvt.peerFence.contains p = false ∧ l.tx = .training ∧ l.rx ≠ .sleep ∧ l.phase = 4 ∧ m.phase = 4) ∧
    (∃ (s : State) (p : Nat) (lanes : List Nat) (m : TrainMsg) (l : LanePort) (t : State), running s = true ∧ hasLanes p = true ∧
      osRead lanes = some (.train m) ∧ modLane s p (heardTrain · m) = t ∧ laneOf t p = l ∧
      (peerAgrees s p = false ∨ peerAgrees t p = true) ∧ mayTrain t p = true ∧ t.mvt.adminFence.contains p = false ∧
      l.peerFence = false ∧ t.mvt.peerFence.contains p = false ∧ l.tx = .training ∧ l.rx ≠ .sleep ∧ l.phase = 2) ∧
    (∃ (s : State) (p : Nat) (lanes : List Nat), hasLanes p = true ∧ running s = true ∧ osRead lanes = none) ∧
    (∃ (s : State) (p : Nat) (t : Nat) (u : State) (v : State), running s = true ∧ hasLanes p = true ∧ mayTrain s p = true ∧
      s.mvt.adminFence.contains p = false ∧ (laneOf s p).trainFrom = some t ∧ (laneOf s p).tx = .training ∧ t + trainBound p ≤ now s ∧
      setLane s p (trainFailed (laneOf s p) (now s)) = u ∧
      wakeCmds u (fun _ w => w == .laneTrain p || (p == 14 && w == .trainBridge)) stTimeout [] = v) ∧
    (∃ (s : State) (p : Nat) (t : Nat), running s = true ∧ hasLanes p = true ∧ mayTrain s p = true ∧
      s.mvt.adminFence.contains p = false ∧ (laneOf s p).trainFrom = none ∧ (laneOf s p).retryAt = some t ∧ t ≤ now s) :=
  ⟨⟨(laneAt trainLane),
    (10),
    (3),
    (trainLane),
    ([0, 1, 2, 3]), by decide +kernel⟩,
   ⟨(laneAt { trainLane with signal := [] }),
    (10),
    (3),
    { trainLane with signal := [] },
    ([3]), by decide +kernel⟩,
   ⟨(laneAt { trainLane with phase := 1 }),
    (10),
    ([(99, {}), (99, {}), (99, {}), (99, {})]),
    { trainLane with phase := 1, fom := [(0, 99), (1, 99), (2, 99), (3, 99)] }, by decide +kernel⟩,
   ⟨(aged laneUp),
    (10),
    ([(99, {}), (99, {}), (99, {}), (99, {})]),
    { upLane with fom := [(0, 99), (1, 99), (2, 99), (3, 99)] }, by decide +kernel⟩,
   ⟨(laneAt mapLane),
    (10),
    (3),
    ([1]),
    (5),
    (relock (laneAt mapLane) 10 (trackHead 3 mapLane 1)),
    (modLane (relock (laneAt mapLane) 10 (trackHead 3 mapLane 1)) 10 (fun l => { l with skew := fmSet l.skew 3 5 })), by decide +kernel⟩,
   ⟨(laneUp),
    (10),
    (3),
    ([1]),
    (5),
    (relock laneUp 10 (trackHead 3 upLane 1)),
    (modLane (relock laneUp 10 (trackHead 3 upLane 1)) 10 (fun l => { l with skew := fmSet l.skew 3 5 })), by decide +kernel⟩,
   ⟨(laneAt { trainLane with phase := 3 }),
    (10),
    (osPayloads 10 (.train (train11 3))),
    (train11 3),
    (ident10 3),
    (setLane (laneAt { trainLane with phase := 3 }) 10 (ident10 3)), by decide +kernel⟩,
   ⟨(laneAt { trainLane with phase := 3 }),
    (10),
    (osPayloads 10 (.train (train11 4))),
    (train11 4),
    (ident10 3),
    (setLane (laneAt { trainLane with phase := 3 }) 10 (ident10 3)), by decide +kernel⟩,
   ⟨(laneAt { trainLane with phase := 4 }),
    (10),
    (osPayloads 10 (.train (train11 4))),
    (train11 4),
    (ident10 4),
    (setLane (laneAt { trainLane with phase := 4 }) 10 (ident10 4)), by decide +kernel⟩,
   ⟨(laneAt { trainLane with phase := 2 }),
    (10),
    (osPayloads 10 (.train (train11 2))),
    (train11 2),
    (ident10 2),
    (setLane (laneAt { trainLane with phase := 2 }) 10 (ident10 2)), by decide +kernel⟩,
   ⟨(laneUp),
    (10),
    ([0, 0, 0, 0]), by decide +kernel⟩,
   ⟨(aged (laneAt trainLane)),
    (10),
    (0),
    (failed10),
    (failed10w), by decide +kernel⟩,
   ⟨(aged (laneAt { trainLane with tx := .down, rx := .down, trainFrom := none, retryAt := some 5 })),
    (10),
    (5), by decide +kernel⟩⟩

/-- Every clause of PortsWithoutLanesHaveNoLaneEvents has a state and operands that meet its hypotheses. -/
theorem witness_PortsWithoutLanesHaveNoLaneEvents :
    (∃ (s : State) (p : Nat) (lane : Nat) (fom : Nat) (g : RawGroup) (lanes : List Nat) (lock : Bool) (foms : List (Nat × LaneEq)),
        hasLanes p = false) :=
  ⟨(up),
    (12),
    (0),
    (0),
    (rawBad),
    ([]),
    (false),
    ([]), by decide +kernel⟩

/-- Every clause of RegulatorEventsComplete has a state and operands that meet its hypotheses. -/
theorem witness_RegulatorEventsComplete :
    (∃ (s : State) (p : Nat) (n : Nat) (m : TimeX), running s = true ∧ hasLanes p = true ∧ p < 12 ∧ (laneOf s p).tx = .active ∧
      (laneOf s p).rx = .active ∧ timeXDue s p = true ∧ (fmGet s.rgl.txNum p 0 + 1) % 256 = n ∧ timeXOut s p n = m) ∧
    (∃ (s : State) (p : Nat) (lanes : List Nat) (frac : Nat), running s = true ∧ hasLanes p = true ∧ osRead lanes = none) ∧
    (∃ (s : State) (p : Nat) (lanes : List Nat) (frac : Nat) (x : TimeX) (m : TimeX) (t : State), running s = true ∧
      hasLanes p = true ∧ osRead lanes = some (.timeX x) ∧ p < 12 ∧ { x with recvAt := s.rgl.time / 4 * 4 + frac % 4 } = m ∧
      selectParent (bump (heardTime (formerRoot s m) p m) 395) = t ∧ t.rgl.parent ≠ p) ∧
    (∃ (s : State) (p : Nat) (lanes : List Nat) (frac : Nat) (t2 : Nat) (t3 : Nat) (x : TimeX) (m : TimeX) (t : State) (u : State) (a :
        Int) (b : Int), running s = true ∧ hasLanes p = true ∧ osRead lanes = some (.timeX x) ∧ p < 12 ∧
      { x with recvAt := s.rgl.time / 4 * 4 + frac % 4 } = m ∧ fmFind s.rgl.rxAt p = some t2 ∧ fmFind s.rgl.txAt p = some t3 ∧
      selectParent (bump (heardTime (formerRoot s m) p m) 395) = t ∧ t.rgl.parent = p ∧
      heardRoot (if t.rgl.role = 1 then t else learnRoot t m) m = u ∧ (t2 : Int) - instant56 m.prevSend t2 = a ∧
      instant56 m.lastRecv t3 - (t3 : Int) = b) ∧
    (∃ (s : State) (t : Nat), running s = true ∧ s.rgl.holdFrom = some t ∧ holds s = true ∧ s.rgl.holdover = true ∧ t + 1000000 < now s) ∧
    (∃ (s : State) (bits : Nat), running s = true) ∧
    (∃ (s : State), running s = true) ∧
    (∃ (s : State) (frac : Nat) (sec : Nat) (v : State) (t : State) (off : Int), running s = true ∧ s.rgl.role ≠ 0 ∧
      strayEdge s (4 * now s + frac % 4) = false ∧
      noteRef { s with rgl := { s.rgl with ppsLast := now s, ppsStray := 0, ppsAt := some (4 * now s + frac % 4) } } (Nat.land
        s.lne.refNow 12) = v ∧ v.rgl.synced = true ∧ v.rgl.refOk = true ∧ countEdge v = t ∧ t.rgl.tod = some sec ∧
      ((v.rgl.time : Int) / 4 * 4 + (frac % 4 : Nat) - (sec * 4000000000 : Nat)) = off) ∧
    (∃ (s : State) (frac : Nat) (sec : Nat) (v : State) (t : State), running s = true ∧ s.rgl.role ≠ 0 ∧
      strayEdge s (4 * now s + frac % 4) = false ∧
      noteRef { s with rgl := { s.rgl with ppsLast := now s, ppsStray := 0, ppsAt := some (4 * now s + frac % 4) } } (Nat.land
        s.lne.refNow 12) = v ∧ v.rgl.synced = false ∧ v.rgl.refOk = true ∧ v.rgl.todNamed = true ∧ (countEdge v).rgl.tod = some sec ∧
      synchronise (countEdge v) (sec * 4000000000) = t) ∧
    (∃ (s : State) (frac : Nat), running s = true ∧ s.rgl.role ≠ 0 ∧ strayEdge s (4 * now s + frac % 4) = true ∧ s.rgl.ppsStray + 1 < 3) ∧
    (∃ (s : State) (frac : Nat), running s = true ∧ s.rgl.role ≠ 0 ∧ strayEdge s (4 * now s + frac % 4) = true ∧ s.rgl.ppsStray + 1 ≥ 3) ∧
    (∃ (s : State) (m : List Byte) (c : Nat) (k : Nat), running s = true ∧ s.rgl.role ≠ 0 ∧ m.length = 10 ∧ byteAt m 0 = 0x7E ∧
      crc8 ((m.drop 1).take 8) = byteAt m 9 ∧ numAt m 1 8 = c ∧ c ≤ 4611686018 ∧ (s.rgl.tod = none ∨ (s.rgl.tod = some k ∧ c = k + 1))) ∧
    (∃ (s : State), running s = true ∧ s.rgl.toutEn = true ∧ s.rgl.synced = true ∧ s.rgl.time % 4000000000 < 8) ∧
    (∃ (s : State) (t : Nat) (good : Nat) (u : State), running s = true ∧ s.rgl.refLostAt = some t ∧ s.rgl.role = 1 ∧
      s.rgl.refOk = false ∧ t + 10000000000 ≤ now s ∧ draw s = (good, u)) ∧
    (∃ (s : State) (bank : RouteBank), running s = true ∧ s.rgl.role = 2 ∧ s.cur.ready = true ∧ s.rgl.rootHeard + 20000 ≤ now s ∧
      currentBank s = bank) ∧
    (∃ (s : State) (count : Nat) (mv : Nat) (period : Nat) (limit : Nat) (tj : Int) (en : Bool) (t : State), running s = true ∧
      (if count ≤ 8 then 0xFFFF else min (524288 / count) 0xFFFF) = period ∧
      s.mvt.limitOld.getD (s.mvt.limit, s.mvt.limitEn) = (limit, en) ∧ setPace s period mv tj = t) :=
  ⟨⟨(laneUp),
    (10),
    (1),
    (timeX0), by decide +kernel⟩,
   ⟨(laneUp),
    (10),
    ([0x2D, 0x2D, 0x2D, 0x2D]),
    (0), by decide +kernel⟩,
   ⟨(laneUp),
    (10),
    (osPayloads 10 (.timeX timeX0)),
    (1),
    (timeX0),
    { timeX0 with recvAt := 1 },
    (selectParent (bump (heardTime laneUp 10 { timeX0 with recvAt := 1 }) 395)), by decide +kernel⟩,
   ⟨(follower),
    (10),
    (osPayloads 10 (.timeX timeX1)),
    (0),
    (100),
    (90),
    (timeX1),
    (timeX1),
    (followed),
    (heardRoot (learnRoot followed timeX1) timeX1),
    (100),
    (-90), by decide +kernel⟩,
   ⟨(aged heldOver),
    (0), by decide +kernel⟩,
   ⟨(rooted),
    (1), by decide +kernel⟩,
   ⟨(rooted), by decide +kernel⟩,
   ⟨(rootedUp),
    (2),
    (0),
    (edgeAt rootedUp),
    (countEdge (edgeAt rootedUp)),
    (2), by decide +kernel⟩,
   ⟨(rooted),
    (2),
    (0),
    (edgeAt rooted),
    (synchronise (countEdge (edgeAt rooted)) 0), by decide +kernel⟩,
   ⟨(strayAt 0),
    (2), by decide +kernel⟩,
   ⟨(strayAt 2),
    (2), by decide +kernel⟩,
   ⟨(rooted),
    (todOf 1),
    (1),
    (0), by decide +kernel⟩,
   ⟨{ rooted with rgl := { rooted.rgl with synced := true } }, by decide +kernel⟩,
   ⟨(longLost),
    (0),
    ((draw longLost).1),
    ((draw longLost).2), by decide +kernel, by decide +kernel, by decide +kernel, by decide +kernel, by decide +kernel, rfl⟩,
   ⟨(aged { up with rgl := { up.rgl with role := 2 } }),
    (currentBank up), by decide +kernel⟩,
   ⟨(up),
    (600),
    (800),
    (873),
    (up.mvt.limit),
    (60),
    (up.mvt.limitEn),
    (setPace up 873 800 60), by decide +kernel⟩⟩

/-- Every clause of EpochReportsComplete has a state and operands that meet its hypotheses. -/
theorem witness_EpochReportsComplete :
    (∃ (s : State) (device : Nat) (p : Nat) (m : FaultMap) (name : Nat × Nat) (t : State), running s = true ∧ isMaster s = true ∧
      p < 12 ∧ masterMapOf s = m ∧ linkName s device p = name ∧ acknowledge s device p false = t ∧
      (m.links.contains name && t.epo.known) = false) ∧
    (∃ (s : State) (device : Nat) (p : Nat) (m : FaultMap) (name : Nat × Nat) (t : State), running s = true ∧ isMaster s = true ∧
      p < 12 ∧ masterMapOf s = m ∧ linkName s device p = name ∧ acknowledge s device p false = t ∧
      (m.links.contains name && t.epo.known) = true) ∧
    (∃ (s : State) (device : Nat) (p : Nat) (m : FaultMap) (name : Nat × Nat) (t : State), running s = true ∧ isMaster s = true ∧
      p < 12 ∧ masterMapOf s = m ∧ linkName s device p = name ∧ acknowledge s device p true = t ∧ m.links.contains name = false) ∧
    (∃ (s : State) (device : Nat) (p : Nat) (m : FaultMap) (name : Nat × Nat) (other : Nat × Nat) (t : State), running s = true ∧
      isMaster s = true ∧ p < 12 ∧ masterMapOf s = m ∧ linkName s device p = name ∧ (across s device p, Nat.xor p 1) = other ∧
      acknowledge s device p true = t ∧ m.links.contains name = true ∧ t.epo.restored.contains other = false) ∧
    (∃ (s : State) (device : Nat) (p : Nat) (m : FaultMap) (name : Nat × Nat) (other : Nat × Nat) (t : State), running s = true ∧
      isMaster s = true ∧ p < 12 ∧ masterMapOf s = m ∧ linkName s device p = name ∧ (across s device p, Nat.xor p 1) = other ∧
      acknowledge s device p true = t ∧ m.links.contains name = true ∧ t.epo.restored.contains other = true) ∧
    (∃ (s : State) (device : Nat), running s = true ∧ isMaster s = true) ∧
    (∃ (s : State) (device : Nat) (p : Nat) (restored : Bool), running s = true ∧ device = linearOf s s.mvt.coord) ∧
    (∃ (s : State) (t : State), running s = true ∧ s.cur.ready = true ∧ s.rgl.rootValid = true ∧
      { s with epo := { s.epo with reports := s.epo.reports.map (fun r => if !r.acked
        && decide (now s ≥ r.sentAt + 100000) then { r with sentAt := now s } else r) } } = t) ∧
    (∃ (s : State) (device : Nat) (number : Nat) (t : Nat) (c : MasterChange) (d : MasterChange) (u : State), (running s = true ∧
      isMaster s = true ∧ s.epo.change = some c ∧ c.number = number ∧ c.t = none ∧ { c with ready := withMember c.ready device } = d ∧
      (awaited s c.map).all (fun n => d.ready.contains n) = true) ∧ chooseT s (c.flooded + 1000000) = (t, u)) ∧
    (∃ (s : State) (device : Nat) (number : Nat) (c : MasterChange) (d : MasterChange), running s = true ∧ isMaster s = true ∧
      s.epo.change = some c ∧ c.number = number ∧ c.t = none ∧ { c with ready := withMember c.ready device } = d ∧
      (awaited s c.map).all (fun n => d.ready.contains n) = false) ∧
    (∃ (s : State) (device : Nat) (id : Nat) (epoch : Nat) (participants : Nat), running s = true ∧ isMaster s = true ∧
      s.epo.strike = none ∧ participants > 1) ∧
    (∃ (s : State) (device : Nat) (id : Nat) (epoch : Nat) (participants : Nat) (t : Nat) (x : StrikeChange) (y : StrikeChange) (u :
        State), (running s = true ∧ isMaster s = true ∧ s.epo.strike = some x ∧ x.id = id ∧ x.epoch = epoch ∧ x.t = none ∧
      { x with ready := withMember x.ready device } = y ∧ y.ready.length ≥ y.participants ∧ s.epo.strikeOld = []) ∧
      chooseT s (x.start + 200000000) = (t, u)) ∧
    (∃ (s : State) (r : SwitchReport) (t : State) (c : MasterChange) (d : MasterChange) (k : Nat), running s = true ∧
      isMaster s = true ∧ r.strike = false ∧
      { s with epo := { s.epo with silent := s.epo.silent.filter (fun x => x.1 != r.device) } } = t ∧ s.epo.change = some c ∧
      c.t = some k ∧ c.number = r.number ∧ c.r = none ∧ { c with switched := noteSwitch c.switched r } = d ∧
      (awaited t c.map).all (fun n => d.switched.any (fun y => y.1 == n)) = true) ∧
    (∃ (s : State) (r : SwitchReport) (x : StrikeChange) (y : StrikeChange) (t : State), running s = true ∧ isMaster s = true ∧
      r.strike = true ∧
      (s.epo.strikeOld ++ s.epo.strike.toList).find? (fun x => x.t.isSome && x.epoch == r.number && x.ready.contains r.device) = some x
        ∧ { x with switched := noteSwitch x.switched r } = y ∧ y.ready.all (fun n => y.switched.any (fun z => z.1 == n)) = true ∧
      y.ready.foldl (fun s n => sendCur s (some (coordOf s n)) (.flood (.strikeR y.epoch (retireTime y.switched (y.t.getD 0)))))
        (putStrike s x none) = t) ∧
    (∃ (s : State) (r : SwitchReport) (x : StrikeChange) (y : StrikeChange), running s = true ∧ isMaster s = true ∧ r.strike = true ∧
      (s.epo.strikeOld ++ s.epo.strike.toList).find? (fun x => x.t.isSome && x.epoch == r.number && x.ready.contains r.device) = some x
        ∧ { x with switched := noteSwitch x.switched r } = y ∧ y.ready.all (fun n => y.switched.any (fun z => z.1 == n)) = false) ∧
    (∃ (s : State) (t : State), running s = true ∧ isMaster s = true ∧ sendResets s = t ∧ t.epo.change = none) ∧
    (∃ (s : State) (t : State) (u : State) (c : MasterChange) (l : List Nat) (map : FaultMap), running s = true ∧ isMaster s = true ∧
      sendResets s = t ∧ t.epo.change = some c ∧ c.t = none ∧
      (awaited t c.map).filter (fun n => !c.ready.contains n && n != linearOf t t.mvt.coord) = l ∧ l ≠ [] ∧
      c.flooded + 1000000 ≤ now t ∧ fenceSilent t l = u ∧ wholeMap u { c.map with devices := l.foldl withMember c.map.devices } = map) ∧
    (∃ (s : State) (t : State) (u : State) (c : MasterChange) (l : List Nat) (map : FaultMap) (k : Nat), running s = true ∧
      isMaster s = true ∧ sendResets s = t ∧ t.epo.change = some c ∧ c.t = some k ∧ c.r = none ∧
      (awaited t c.map).filter (fun n => !c.switched.any (fun y => y.1 == n) && n != linearOf t t.mvt.coord) = l ∧ l ≠ [] ∧
      k + 4000000 ≤ stamp t ∧ fenceSilent t l = u ∧ { c.map with devices := l.foldl withMember c.map.devices } = map) :=
  ⟨⟨(master0),
    (0),
    (10),
    { links := [] },
    ((0, 10)),
    (acknowledge master0 0 10 false), by decide +kernel⟩,
   ⟨(closed9),
    (0),
    (10),
    { links := [(0, 10)] },
    ((0, 10)),
    (acknowledge closed9 0 10 false), by decide +kernel⟩,
   ⟨(master0),
    (0),
    (10),
    { links := [] },
    ((0, 10)),
    (acknowledge master0 0 10 true), by decide +kernel⟩,
   ⟨(closed9),
    (0),
    (10),
    { links := [(0, 10)] },
    ((0, 10)),
    ((across closed9 0 10, 11)),
    (acknowledge closed9 0 10 true), by decide +kernel⟩,
   ⟨(halfOpen9),
    (0),
    (10),
    { links := [(0, 10)] },
    ((0, 10)),
    ((across halfOpen9 0 10, 11)),
    (acknowledge halfOpen9 0 10 true), by decide +kernel⟩,
   ⟨(master0),
    (0), by decide +kernel⟩,
   ⟨(reporting),
    (0),
    (10),
    (false), by decide +kernel⟩,
   ⟨(reporting),
    { reporting with epo := { reporting.epo with reports := [{ port := 10, restored := false, sentAt := 250000000 }] } }, by decide +kernel⟩,
   ⟨(changing [1]),
    (0),
    (7),
    ((chooseT (changing [1]) ((change7 [1]).flooded + 1000000)).1),
    (change7 [1]),
    { change7 [1] with ready := withMember [1] 0 },
    ((chooseT (changing [1]) ((change7 [1]).flooded + 1000000)).2), by decide +kernel, rfl⟩,
   ⟨(changing []),
    (1),
    (7),
    (change7 []),
    { change7 [] with ready := [1] }, by decide +kernel⟩,
   ⟨(master0),
    (0),
    (5),
    (9),
    (2), by decide +kernel⟩,
   ⟨(strikeMaster),
    (1),
    (5),
    (9),
    (2),
    ((chooseT strikeMaster (strike5.start + 200000000)).1),
    (strike5),
    { strike5 with ready := [0, 1] },
    ((chooseT strikeMaster (strike5.start + 200000000)).2), by decide +kernel, rfl⟩,
   ⟨(switching),
    (switched7),
    (switching),
    (switch7),
    { switch7 with switched := [(1, 0), (0, 0)] },
    (0), by decide +kernel⟩,
   ⟨(strikeSwitching),
    { switched7 with strike := true, number := 9 },
    { strike5 with t := some 0 },
    { strike5 with t := some 0, switched := [(0, 0)] },
    (strikeOver), by decide +kernel⟩,
   ⟨(strikeSwitching2),
    { switched7 with strike := true, number := 9 },
    { strike5 with t := some 0, ready := [0, 1] },
    { strike5 with t := some 0, ready := [0, 1], switched := [(0, 0)] }, by decide +kernel⟩,
   ⟨(master0),
    (sendResets master0), by decide +kernel⟩,
   ⟨(aged (changing [])),
    (sendResets (aged (changing []))),
    (fenceSilent (sendResets (aged (changing []))) silentOnes),
    (change7 []),
    (silentOnes),
    (wholeMap (fenceSilent (sendResets (aged (changing []))) silentOnes) { devices := silentOnes }), by decide +kernel⟩,
   ⟨(aged unreported),
    (sendResets (aged unreported)),
    (fenceSilent (sendResets (aged unreported)) silentOnes),
    (change7t),
    (silentOnes),
    { devices := silentOnes },
    (0), by decide +kernel⟩⟩

/-- Every clause of EpochEventsComplete has a state and operands that meet its hypotheses. -/
theorem witness_EpochEventsComplete :
    (∃ (s : State) (number : Nat) (map : FaultMap) (t : State), running s = true ∧ routeRetire s = t ∧ t.cur.ready = true ∧
      ((bankOf t (number % 2)).st = .idle ∨ (bankOf t (number % 2)).st = .staged)) ∧
    (∃ (s : State) (n : Nat) (t : Nat) (u : State), running s = true ∧ (bankOf s (n % 2)).st = .staged ∧
      (bankOf s (n % 2)).number = n ∧ { s with mvt := { s.mvt with dueT := some t, epochT := t } } = u) ∧
    (∃ (s : State) (n : Nat) (r : Nat), running s = true ∧ (currentBank s).number = n) ∧
    (∃ (s : State) (e : Nat) (t : Nat) (x : Schedule) (u : State), running s = true ∧ (idleBank s).sched = some x ∧ x.epoch = e ∧
      s.stk.activating = true ∧ { s with stk := { s.stk with dueT := some t, epochT := t } } = u) ∧
    (∃ (s : State) (e : Nat) (r : Nat) (x : Schedule), running s = true ∧ currentSched s = some x ∧ x.epoch = e) ∧
    (∃ (s : State) (g : Nat) (e : Nat) (n : Nat) (t : Nat), running s = true) ∧
    (∃ (s : State) (g : Nat) (e : Nat) (h : Nat) (c : TreeChange), running s = true ∧ carHandle s g = some h ∧
      (carGroup s h).change = some c ∧ c.epoch = e) ∧
    (∃ (s : State) (t : Nat) (bit : Nat) (u : State) (v : State) (w : State) (r : SwitchReport), running s = true ∧
      s.mvt.dueT = some t ∧ t ≤ stamp s ∧ (if s.mvt.bank0.st = .staged then 0 else 1) = bit ∧ (bankOf s bit).st = .staged ∧
      tellMap (applyMap (turnBank s bit) (bankOf s bit).map) = u ∧ wakeCmds u (fun _ w => w == .routeEpoch) stOk [] = v ∧
      ({ strike := false, device := linearOf v v.mvt.coord, number := (bankOf s bit).number, time := stamp v } : SwitchReport) = r ∧
      sendCur v (some v.rgl.rootCoord) (.switched r) = w) ∧
    (∃ (s : State) (r : Nat) (t : State), running s = true ∧ s.mvt.dueR = some r ∧ r ≤ stamp s ∧
      (bankOf s (1 - currentBit s)).st = .old ∧ setBank s (1 - currentBit s) {} = t ∧ s.epo.change = none ∧ t.epo.change = none) ∧
    (∃ (s : State) (map : FaultMap) (t : State) (old : List Nat), running s = true ∧
      { s with mvt := { s.mvt with twinMap := some map } } = t ∧ (s.mvt.twinMap.getD {}).devices = old) ∧
    (∃ (s : State) (port : Nat) (coord : Nat) (t : State), running s = true ∧ hasLanes port = true ∧
      { s with epo := { s.epo with told := fmSet s.epo.told port (coord % 2 ^ 24) } } = t ∧ s.mvt.selfValid = false) ∧
    (∃ (s : State) (port : Nat) (coord : Nat) (t : State), running s = true ∧ hasLanes port = true ∧
      { s with epo := { s.epo with told := fmSet s.epo.told port (coord % 2 ^ 24) } } = t ∧ s.mvt.selfValid = true) ∧
    (∃ (s : State) (coord : Nat) (failed : Nat) (t : State), running s = true ∧
      (connsTo s coord failed).foldl (reAim failed) (holderFailed s coord failed) = t) ∧
    (∃ (s : State) (sender : Nat), running s = true ∧ s.rgl.rootValid = true ∧ s.rgl.rootCoord = sender) :=
  ⟨⟨(shaped up),
    (7),
    {},
    (shaped up), by decide +kernel⟩,
   ⟨(stagedUp),
    (7),
    (100),
    { stagedUp with mvt := { stagedUp.mvt with dueT := some 100, epochT := 100 } }, by decide +kernel⟩,
   ⟨(shaped up),
    (0),
    (100), by decide +kernel⟩,
   ⟨(dueStrike),
    (9),
    (0),
    (sched5),
    { dueStrike with stk := { dueStrike.stk with dueT := some 0, epochT := 0 } }, by decide +kernel⟩,
   ⟨(framed 1000 0 false),
    (9),
    (100),
    (sched9 1000), by decide +kernel⟩,
   ⟨(up),
    (7),
    (3),
    (0),
    (0), by decide +kernel⟩,
   ⟨(dueTree),
    (7),
    (3),
    (4),
    (change2), by decide +kernel⟩,
   ⟨(dueBank),
    (0),
    (1),
    (dueBank1),
    (dueBank2),
    (sendCur dueBank2 (some 0) (.switched switched7)),
    (switched7), by decide +kernel⟩,
   ⟨(oldBank),
    (0),
    (setBank oldBank 1 {}), by decide +kernel⟩,
   ⟨(shaped up),
    { devices := [1] },
    { shaped up with mvt := { (shaped up).mvt with twinMap := some { devices := [1] } } },
    ([]), by decide +kernel⟩,
   ⟨(shaped up),
    (10),
    (1),
    { shaped up with epo := { up.epo with told := [(10, 1)] } }, by decide +kernel⟩,
   ⟨(placed),
    (10),
    (1),
    { placed with epo := { placed.epo with told := [(10, 1)] } }, by decide +kernel⟩,
   ⟨(up),
    (1),
    (0),
    (up), by decide +kernel⟩,
   ⟨(rootedAt),
    (1), by decide +kernel⟩⟩

/-- Every clause of TwinFramesComplete has a state and operands that meet its hypotheses. -/
theorem witness_TwinFramesComplete :
    (∃ (s : State), running s = true ∧ bridgeReady s = true) ∧
    (∃ (s : State) (f : TwinFrame) (t : State), running s = true ∧ bridgeReady s = true ∧ f.kind = 1 ∧ hearFrame s f = t) ∧
    (∃ (s : State) (f : TwinFrame) (t : State), running s = true ∧ bridgeReady s = true ∧ f.kind = 2 ∧ bump (hearFrame s f) 390 = t) ∧
    (∃ (s : State) (f : TwinFrame) (t : State) (u : State) (r : MirrorRec), running s = true ∧ bridgeReady s = true ∧ f.kind = 3 ∧
      pairStep (bump (hearFrame s f) 392) = t ∧ f.seq = t.twn.rxSeq ∧ f.record = some r ∧
      { t with twn := { t.twn with rxSeq := (t.twn.rxSeq + 1) % 2 ^ 32 } } = u ∧ onPartner u = true ∧
      ((u.twn.state = .syncing → sharedClash u r = false))) ∧
    (∃ (s : State) (f : TwinFrame) (t : State), running s = true ∧ bridgeReady s = true ∧ f.kind = 4 ∧ tryPair (hearFrame s f) = t) ∧
    (∃ (s : State) (seq : Nat), running s = true ∧ (s.twn.confirmed + 2 ^ 32 - 1 - seq % 2 ^ 32) % 2 ^ 32 < 2 ^ 31) ∧
    (∃ (s : State), running s = true ∧ s.twn.heard + 4000 ≤ now s) ∧
    (∃ (s : State) (q : Nat) (t : State) (u : State) (v : State) (w : State) (m : MirQueue) (lh : List Byte) (p : Option (List Byte))
        (h : Idx) (last : Idx), running s = true ∧ s.twn.adopting.contains q = true ∧
      { s with twn := { s.twn with adopting := without s.twn.adopting q } } = t ∧ fmFind s.twn.mirror.queues q = some m ∧
      hostRead t m.cfg.fn m.cfg.headAddr 4 = (u, some lh) ∧ hostRead u m.cfg.fn m.cfg.shadow 4 = (v, p) ∧
      BitVec.ofNat 32 (leNat lh) = h ∧ lastOf m h p = last ∧ recreate v q m h last = w) ∧
    (∃ (s : State) (q : Nat) (x : Queue) (t : State) (l : List Byte), running s = true ∧ queueOf s q = x ∧ x.adopted = true ∧
      x.st ≠ .disabled ∧ x.st ≠ .draining ∧ hostRead s x.fn x.shadow 4 = (t, some l)) :=
  ⟨⟨(bridged), by decide +kernel⟩,
   ⟨(bridged),
    (frame9 1),
    (hearFrame bridged (frame9 1)), by decide +kernel⟩,
   ⟨(bridged),
    (frame9 2),
    (bump (hearFrame bridged (frame9 2)) 390), by decide +kernel⟩,
   ⟨(mirrored),
    (frame9 3),
    (mirrored1),
    (mirrored2),
    (.grantGone 5), by decide +kernel⟩,
   ⟨(mirrored),
    (frame9 4),
    (tryPair (hearFrame mirrored (frame9 4))), by decide +kernel⟩,
   ⟨{ mirrored with twn := { mirrored.twn with confirmed := 1 } },
    (0), by decide +kernel⟩,
   ⟨(aged mirrored), by decide +kernel⟩,
   ⟨(adopts),
    (9),
    (adopts1),
    (adopts2),
    (adopts3),
    (recreate adopts3 9 mirQueue9 0 0),
    (mirQueue9),
    ([0, 0, 0, 0]),
    (some [0, 0, 0, 0]),
    (0),
    (0), by decide +kernel⟩,
   ⟨(polled),
    (1),
    { queue1 with adopted := true },
    ((hostRead polled 0 131072 4).1),
    ([0, 0, 0, 0]), by decide +kernel⟩⟩

/-- Every clause of StopsAndPinsComplete has a state and operands that meet its hypotheses. -/
theorem witness_StopsAndPinsComplete :
    (∃ (s : State) (t : State), running s = true ∧ seeFatal s = t ∧ t.twn.state = .paired) ∧
    (∃ (s : State) (t : State), running s = true ∧ seeFatal s = t ∧ (t.twn.state = .syncing ∨ t.twn.state = .alone)) ∧
    (∃ (s : State) (t : State), running s = true ∧ seeFatal s = t ∧ (t.twn.state = .down ∨ t.twn.state = .partnerDead)) ∧
    (∃ (s : State), running s = false) ∧
    (∃ (s : State), running s = true) ∧
    (∃ (s : State), running s = false) ∧
    (∃ (s : State), running s = true ∧ s.twn.stopIn = false) ∧
    (∃ (s : State), running s = true ∧ s.twn.stopIn = true) ∧
    (∃ (s : State), running s = false) ∧
    (∃ (s : State), running s = true) ∧
    (∃ (s : State), running s = false) ∧
    (∃ (s : State) (t : Nat), running s = true ∧ s.twn.causeAt = some t ∧ isPaired s = true ∧ s.brd.straps.plane = 1 ∧
      s.twn.stopEn = true ∧ s.twn.stopOut = false ∧ t + 5000 ≤ now s) ∧
    (∃ (s : State) (t : Nat), running s = true ∧ s.twn.stopAt = some t ∧ isPaired s = true ∧ s.twn.stopOut = true ∧
      s.twn.fatalIn = false ∧ t + 5000 ≤ now s) ∧
    (∃ (s : State) (t : Nat), running s = true ∧ s.twn.fatalSeen = some t ∧ s.twn.stopOut = true ∧ t + 10000 ≤ now s) :=
  ⟨⟨(paired9),
    { paired9 with twn := { paired9.twn with fatalIn := true } }, by decide +kernel⟩,
   ⟨(mirrored),
    { mirrored with twn := { mirrored.twn with fatalIn := true } }, by decide +kernel⟩,
   ⟨{ up with twn := { up.twn with state := .partnerDead } },
    { up with twn := { up.twn with state := .partnerDead, fatalIn := true } }, by decide +kernel⟩,
   ⟨(State.reset), by decide +kernel⟩,
   ⟨(up), by decide +kernel⟩,
   ⟨(State.reset), by decide +kernel⟩,
   ⟨(up), by decide +kernel⟩,
   ⟨{ up with twn := { up.twn with stopIn := true } }, by decide +kernel⟩,
   ⟨(State.reset), by decide +kernel⟩,
   ⟨(up), by decide +kernel⟩,
   ⟨(State.reset), by decide +kernel⟩,
   ⟨(aged caused),
    (0), by decide +kernel⟩,
   ⟨(aged stopping),
    (0), by decide +kernel⟩,
   ⟨(aged { up with twn := { up.twn with stopOut := true, fatalSeen := some 0 } }),
    (0), by decide +kernel⟩⟩

/-- Every clause of ResetsAndFaultsComplete has a state and operands that meet its hypotheses. -/
theorem witness_ResetsAndFaultsComplete :
    (∃ (s : State) (occs : List Occ) (os : List Occ) (t : State), running s = true ∧ occs.filter (fun o => decide (o.src < 312)) = os ∧
      (os.filter (fun o => o.src == 293)).foldl (fun s _ => dropCached s) s = t) ∧
    (∃ (s : State) (occs : List Occ), s.inReset = false ∧ s.cus.safe = true) ∧
    (∃ (s : State) (x : Straps) (y : Straps) (mode : Nat) (role : Nat), s.inReset = true ∧
      (if s.brd.cold then x.pcieMode % 2 else s.hif.mode) = mode ∧ (if s.brd.cold then x.timeRole % 4 else s.rgl.cfgRole) = role ∧
      ({ pcieMode := mode, timeRole := x.timeRole % 4, plane := x.plane % 2, board := x.board % 4096 } : Straps) = y) ∧
    (∃ (s : State) (half : Nat), running s = true ∧ halfExists s half = true) ∧
    (∃ (s : State) (fn : Nat), running s = true ∧ fn ≠ 0 ∧ fn ≠ 256 ∧ (fnOf s fn).present = true) ∧
    (∃ (s : State) (fn : Nat), running s = true ∧ (fn = 0 ∨ fn = 256) ∧ (fn = 0 ∨ (fnOf s fn).present = true)) ∧
    (∃ (s : State) (bytes : List Byte) (b : List Byte) (t : State) (u : State) (ports : List Nat), running s = true ∧
      s.brd.record = false ∧ padTo 16 bytes = b ∧ recordValid b s.brd.straps.board = true ∧
      { s with brd := { s.brd with record := true, anchorPos := numAt b 8 2 } } = t ∧
      loadLaneTable ({ t with mvt := { t.mvt with shape := recordShape b } }) (padTo 464 (bytes.drop 16)) = u ∧
      ((List.range 12) ++ [14]).filter (mayTrain u) = ports) ∧
    (∃ (s : State) (bytes : List Byte) (b : List Byte) (t : State) (u : State) (ports : List Nat), running s = true ∧
      s.brd.record = false ∧ padTo 16 bytes = b ∧ recordValid b s.brd.straps.board = false ∧
      { s with brd := { s.brd with record := true, anchorPos := numAt b 8 2 } } = t ∧
      loadLaneTable (fault t 304 256) (padTo 464 (bytes.drop 16)) = u ∧ ((List.range 12) ++ [14]).filter (mayTrain u) = ports) ∧
    (∃ (s : State), running s = true ∧ s.brd.record = true ∧ s.cur.ready = false ∧ s.brd.served = false ∧ s.brd.halted = false ∧
      bootable s (bootSlot s.brd s.brd.bootB) = true) ∧
    (∃ (s : State), running s = true ∧ s.brd.record = true ∧ s.cur.ready = false ∧ s.brd.served = false ∧ s.brd.halted = false ∧
      bootable s (bootSlot s.brd s.brd.bootB) = false ∧ bootable s (bootSlot s.brd (!s.brd.bootB)) = true) ∧
    (∃ (s : State), running s = true ∧ s.brd.record = true ∧ s.cur.ready = false ∧ s.brd.served = false ∧ s.brd.halted = false ∧
      bootable s (bootSlot s.brd s.brd.bootB) = false ∧ bootable s (bootSlot s.brd (!s.brd.bootB)) = false) ∧
    (∃ (s : State), running s = true ∧ s.cur.ready = true ∧ s.mvt.selfValid = false ∧ bitAt s.brd.straps.board 11 = true ∧
      s.mvt.shape ≠ []) ∧
    (∃ (s : State), running s = true ∧ s.cur.ready = true ∧ s.mvt.selfValid = false ∧
      (bitAt s.brd.straps.board 11 = false ∨ s.mvt.shape = [])) ∧
    (∃ (s : State) (src : Nat) (value : Int), running s = true ∧ ((src = 3 ∧ value < 700) ∨ (src = 305 ∧ value < 820))) ∧
    (∃ (s : State) (src : Nat) (value : Int), running s = true ∧ ((src = 306 ∧ value > gradeMax) ∨ (src = 307 ∧ value ≥ 125))) :=
  ⟨⟨(up),
    ([{ src := 304, detail := 256 }]),
    ([{ src := 304, detail := 256 }]),
    (up), by decide +kernel⟩,
   ⟨(safe9),
    ([{ src := 304, detail := 256 }]), by decide +kernel⟩,
   ⟨(State.reset),
    { pcieMode := 1, timeRole := 2, plane := 1, board := 7 },
    { pcieMode := 1, timeRole := 2, plane := 1, board := 7 },
    (1),
    (2), by decide +kernel⟩,
   ⟨(up),
    (0), by decide +kernel⟩,
   ⟨(withVf),
    (3), by decide +kernel⟩,
   ⟨(up),
    (0), by decide +kernel⟩,
   ⟨(up),
    (recordBytes),
    (recordBytes),
    (recordUp),
    (recordUp1),
    (((List.range 12) ++ [14]).filter (mayTrain recordUp1)), by decide +kernel⟩,
   ⟨(up),
    ([]),
    (padTo 16 []),
    { up with brd := { up.brd with record := true, anchorPos := 0 } },
    (recordBad),
    (((List.range 12) ++ [14]).filter (mayTrain recordBad)), by decide +kernel⟩,
   ⟨(boots true), by decide +kernel⟩,
   ⟨(bootsOther), by decide +kernel⟩,
   ⟨(boots false), by decide +kernel⟩,
   ⟨(anchored), by decide +kernel⟩,
   ⟨(up), by decide +kernel⟩,
   ⟨(up),
    (3),
    (600), by decide +kernel⟩,
   ⟨(up),
    (307),
    (130), by decide +kernel, Or.inr (by decide +kernel)⟩⟩

/-- Every clause of HostEventsComplete has a state and operands that meet its hypotheses. -/
theorem witness_HostEventsComplete :
    (∃ (s : State) (fn : Nat), running s = true ∧ (fn = 0 ∨ (fnOf s fn).present = true)) ∧
    (∃ (s : State) (fn : Nat), running s = true ∧ (fnOf s fn).d3hot = true) ∧
    (∃ (s : State) (addr : Nat) (data : List Byte) (t : State), running s = true ∧
      landWrites 1 0 s.issued.length (landWrites 0 0 s.issued.length s) = t) ∧
    (∃ (s : State) (addr : Nat) (data : List Byte) (e : CplError) (t : State), running s = true ∧
      landWrites 1 0 s.issued.length (landWrites 0 0 s.issued.length s) = t) ∧
    (∃ (s : State) (fn : Nat) (bus : Nat) (t : State) (on : Bool) (u : State), running s = true ∧
      (fn = 0 ∨ (fn = 256 ∧ s.hif.mode = 1)) ∧ setFn s fn (fun f => { f with rid := bus % 256 * 256 }) = t ∧
      setFn t fn (fun f => { f with bme := on, sinceFlr := f.sinceFlr && !on }) = u) ∧
    (∃ (s : State) (fn : Nat) (bus : Nat) (t : State) (on : Bool), running s = true ∧ (fn = 0 ∨ (fn = 256 ∧ s.hif.mode = 1)) ∧
      setFn s fn (fun f => { f with rid := bus % 256 * 256 }) = t ∧ (fnOf t fn).vfEnable ≠ on) ∧
    (∃ (s : State) (fn : Nat) (bus : Nat) (t : State) (n : Nat), running s = true ∧ (fn = 0 ∨ (fn = 256 ∧ s.hif.mode = 1)) ∧
      setFn s fn (fun f => { f with rid := bus % 256 * 256 }) = t ∧ (fnOf t fn).vfEnable = false ∧ n ≤ totalVfs t fn) ∧
    (∃ (s : State) (fn : Nat) (bus : Nat) (t : State) (on : Bool), running s = true ∧ (fn = 0 ∨ (fn = 256 ∧ s.hif.mode = 1)) ∧
      setFn s fn (fun f => { f with rid := bus % 256 * 256 }) = t) ∧
    (∃ (s : State) (fn : Nat) (bus : Nat) (t : State) (code : Nat), running s = true ∧ (fn = 0 ∨ (fn = 256 ∧ s.hif.mode = 1)) ∧
      setFn s fn (fun f => { f with rid := bus % 256 * 256 }) = t) ∧
    (∃ (s : State) (fn : Nat) (bus : Nat) (t : State) (on : Bool), running s = true ∧ (fn = 0 ∨ (fn = 256 ∧ s.hif.mode = 1)) ∧
      setFn s fn (fun f => { f with rid := bus % 256 * 256 }) = t) ∧
    (∃ (s : State) (fn : Nat) (bus : Nat) (t : State) (on : Bool), running s = true ∧ (fn = 0 ∨ (fn = 256 ∧ s.hif.mode = 1)) ∧
      setFn s fn (fun f => { f with rid := bus % 256 * 256 }) = t) ∧
    (∃ (s : State) (fn : Nat) (bus : Nat) (t : State) (on : Bool), running s = true ∧ (fn = 0 ∨ (fn = 256 ∧ s.hif.mode = 1)) ∧
      setFn s fn (fun f => { f with rid := bus % 256 * 256 }) = t ∧ fn ≠ 256) ∧
    (∃ (s : State) (fn : Nat) (bus : Nat) (t : State) (on : Bool), running s = true ∧ (fn = 0 ∨ (fn = 256 ∧ s.hif.mode = 1)) ∧
      setFn s fn (fun f => { f with rid := bus % 256 * 256 }) = t ∧ (fnOf t fn).vfEnable = false) ∧
    (∃ (s : State) (fn : Nat) (bus : Nat) (t : State) (code : Nat), running s = true ∧ (fn = 0 ∨ (fn = 256 ∧ s.hif.mode = 1)) ∧
      setFn s fn (fun f => { f with rid := bus % 256 * 256 }) = t ∧ code ≤ 2) ∧
    (∃ (s : State) (fn : Nat) (bus : Nat) (t : State) (code : Nat), running s = true ∧ (fn = 0 ∨ (fn = 256 ∧ s.hif.mode = 1)) ∧
      setFn s fn (fun f => { f with rid := bus % 256 * 256 }) = t ∧ code ≤ 5) ∧
    (∃ (s : State) (fn : Nat) (bus : Nat) (t : State) (mask : Nat), running s = true ∧ (fn = 0 ∨ (fn = 256 ∧ s.hif.mode = 1)) ∧
      setFn s fn (fun f => { f with rid := bus % 256 * 256 }) = t) ∧
    (∃ (s : State) (fn : Nat) (bus : Nat) (t : State) (n : Nat) (base : Nat) (vf : Bool), running s = true ∧
      (fn = 0 ∨ (fn = 256 ∧ s.hif.mode = 1)) ∧ setFn s fn (fun f => { f with rid := bus % 256 * 256 }) = t ∧
      (n = 0 ∨ ((n = 2 ∨ n = 4) ∧ (vf = true ∨ fn = 0)))) ∧
    (∃ (s : State) (fn : Nat) (bus : Nat) (w : CfgWrite) (on : Bool), running s = true ∧ fn ≠ 0 ∧ fn ≠ 256 ∧
      (fnOf s fn).present = true ∧ w = .relaxedOrdering on) ∧
    (∃ (s : State) (half : Nat) (speed : Nat) (width : Nat), running s = true ∧ halfExists s half = true ∧ 1 ≤ speed ∧ speed ≤ 5 ∧
      [1, 2, 4, 8, 16].contains width = true ∧ width ≤ (if s.hif.mode = 1 then 8 else 16)) ∧
    (∃ (s : State) (half : Nat) (enter : Bool), running s = true ∧ halfExists s half = true ∧ (linkHalf s half).up = true) ∧
    (∃ (s : State) (coord : Nat) (plane : Nat) (tenant : Nat) (requester : Nat) (n : Nat) (action : Nat) (t : State) (st : Nat),
        running s = true ∧ n ≤ 4095 ∧ 1 ≤ requester ∧ requester ≤ 63 ∧ action ≤ 2 ∧ (lockGroup s (n / 64)).configured = true ∧
      (lockGroup s (n / 64)).twin = true ∧ peerAccess s n (twinId tenant requester) action = (t, st)) ∧
    (∃ (s : State) (coord : Nat) (plane : Nat) (tenant : Nat) (requester : Nat) (n : Nat) (action : Nat) (k : Nat) (t : State) (st :
        Nat), running s = true ∧ n ≤ 4095 ∧ 1 ≤ requester ∧ requester ≤ 63 ∧ action ≤ 2 ∧ (lockGroup s (n / 64)).configured = true ∧
      (lockGroup s (n / 64)).remote = true ∧ slotOfRequester s { coord, plane, tenant, requester } = some k ∧
      peerAccess s n (remoteId k) action = (t, st)) ∧
    (∃ (s : State) (twin : Bool) (coord : Nat) (plane : Nat) (tenant : Nat), running s = true) :=
  ⟨⟨(up),
    (0), by decide +kernel⟩,
   ⟨(setFn up 0 (fun f => { f with d3hot := true })),
    (0), by decide +kernel⟩,
   ⟨(up),
    (64),
    ([1]),
    (up), by decide +kernel⟩,
   ⟨(up),
    (64),
    ([1]),
    (.poisoned),
    (up), by decide +kernel⟩,
   ⟨(up),
    (0),
    (3),
    (setFn (up) 0 (fun f => { f with rid := 768 })),
    (true),
    (setFn (setFn up 0 (fun f => { f with rid := 768 })) 0 (fun f => { f with bme := true, sinceFlr := false })), by decide +kernel⟩,
   ⟨(up),
    (0),
    (3),
    (setFn (up) 0 (fun f => { f with rid := 768 })),
    (true), by decide +kernel⟩,
   ⟨(up),
    (0),
    (3),
    (setFn (up) 0 (fun f => { f with rid := 768 })),
    (2), by decide +kernel⟩,
   ⟨(up),
    (0),
    (3),
    (setFn (up) 0 (fun f => { f with rid := 768 })),
    (true), by decide +kernel⟩,
   ⟨(up),
    (0),
    (3),
    (setFn (up) 0 (fun f => { f with rid := 768 })),
    (2), by decide +kernel⟩,
   ⟨(up),
    (0),
    (3),
    (setFn (up) 0 (fun f => { f with rid := 768 })),
    (true), by decide +kernel⟩,
   ⟨(up),
    (0),
    (3),
    (setFn (up) 0 (fun f => { f with rid := 768 })),
    (true), by decide +kernel⟩,
   ⟨(up),
    (0),
    (3),
    (setFn (up) 0 (fun f => { f with rid := 768 })),
    (true), by decide +kernel⟩,
   ⟨(up),
    (0),
    (3),
    (setFn (up) 0 (fun f => { f with rid := 768 })),
    (true), by decide +kernel⟩,
   ⟨(up),
    (0),
    (3),
    (setFn (up) 0 (fun f => { f with rid := 768 })),
    (2), by decide +kernel⟩,
   ⟨(up),
    (0),
    (3),
    (setFn (up) 0 (fun f => { f with rid := 768 })),
    (5), by decide +kernel⟩,
   ⟨(up),
    (0),
    (3),
    (setFn (up) 0 (fun f => { f with rid := 768 })),
    (5), by decide +kernel⟩,
   ⟨(up),
    (0),
    (3),
    (setFn (up) 0 (fun f => { f with rid := 768 })),
    (2),
    (4096),
    (false), by decide +kernel⟩,
   ⟨(withVf),
    (3),
    (0),
    (.relaxedOrdering true),
    (true), by decide +kernel⟩,
   ⟨(up),
    (0),
    (5),
    (16), by decide +kernel⟩,
   ⟨(setHalf up 0 { up := true }),
    (0),
    (true), by decide +kernel⟩,
   ⟨(relayed),
    (0),
    (0),
    (0),
    (1),
    (3),
    (0),
    ((peerAccess relayed 3 (twinId 0 1) 0).1),
    ((peerAccess relayed 3 (twinId 0 1) 0).2), by decide +kernel⟩,
   ⟨(relayed),
    (1),
    (0),
    (0),
    (1),
    (3),
    (0),
    (1),
    ((peerAccess relayed 3 (remoteId 1) 0).1),
    ((peerAccess relayed 3 (remoteId 1) 0).2), by decide +kernel⟩,
   ⟨(relayed),
    (true),
    (0),
    (0),
    (0), by decide +kernel⟩⟩

/-- Every clause of RegistrarEventsComplete has a state and operands that meet its hypotheses. -/
theorem witness_RegistrarEventsComplete :
    (∃ (s : State) (n : Nat) (t : State) (st : RegStore) (g : Registrar), draw s = (n, t) ∧ s.rgs.store = st ∧
      (st.blown && st.imageDigest != st.sealDigest) = false ∧ bootedRegistrar st (n % 2 ^ 32) false = g) ∧
    (∃ (s : State) (n : Nat) (t : State) (st : RegStore) (g : Registrar), draw s = (n, t) ∧ s.rgs.store = st ∧ st.blown = true ∧
      st.imageDigest ≠ st.sealDigest ∧ bootedRegistrar st (n % 2 ^ 32) true = g) ∧
    (∃ (s : State) (lost : Bool) (bad : Bool) (t : State) (u : State), s.inReset = false ∧
      { s with tap := { number := (s.tap.number + 1) % 2 ^ 32, incs := [] } } = t ∧
      (if lost then t else { t with rgs := regFrame t.rgs bad s.tap.number (stamp t) t.rgl.synced s.tap.incs }) = u) ∧
    (∃ (s : State) (g : Registrar), s.rgs = g ∧ regRunning g = true ∧ g.quiet ≥ 100 ∧ g.stopped = false) ∧
    (∃ (s : State) (e : EnergySample) (g : Registrar), s.rgs = g ∧ regRunning g = true ∧ e.coreOk = true ∧ e.sramOk = true) ∧
    (∃ (s : State) (e : EnergySample) (g : Registrar), s.rgs = g ∧ regRunning g = true ∧ e.coreOk = false ∧ e.sramOk = true ∧
      bitAt g.bad 0 = false) ∧
    (∃ (s : State) (e : PeriodEnd) (l : List PeriodEnd) (k : Registrar) (g : Registrar), s.rgs.ended = e :: l ∧
      regRunning s.rgs = true ∧ regWrite { s.rgs with ended := l } 3 0 e.time e.flags (e.core / 100000) (e.sram / 100000) e.peak = k ∧
      trafficRecords e k = g) ∧
    (∃ (s : State) (g : Registrar) (k : Registrar), s.rgs = g ∧ g.on = true ∧ g.store.blown = false ∧
      { g with store := blowFuse g.store } = k) ∧
    (∃ (s : State) (w : CalWrite) (g : Registrar), s.rgs = g ∧ g.on = true ∧ g.store.blown = false) ∧
    (∃ (s : State) (w : CalWrite), s.rgs.on = true ∧ s.rgs.store.blown = true) ∧
    (∃ (s : State), s.rgs.on = true ∧ s.rgs.store.blown = true) :=
  ⟨⟨(up),
    ((draw up).1),
    ((draw up).2),
    (up.rgs.store),
    (bootedRegistrar up.rgs.store ((draw up).1 % 2 ^ 32) false), rfl, rfl, by decide +kernel, rfl⟩,
   ⟨(forged),
    ((draw forged).1),
    ((draw forged).2),
    (forged.rgs.store),
    (bootedRegistrar forged.rgs.store ((draw forged).1 % 2 ^ 32) true), rfl, rfl, by decide +kernel, by decide +kernel, rfl⟩,
   ⟨(up),
    (true),
    (false),
    { up with tap := { number := 1, incs := [] } },
    { up with tap := { number := 1, incs := [] } }, by decide +kernel⟩,
   ⟨(quietTap),
    (quietTap.rgs), by decide +kernel⟩,
   ⟨(quietTap),
    (sample9),
    (quietTap.rgs), by decide +kernel⟩,
   ⟨(quietTap),
    { sample9 with coreOk := false },
    (quietTap.rgs), by decide +kernel⟩,
   ⟨(boundary9),
    { time := 4000000000, core := 0, sram := 0, peak := 0, flags := 8, traffic := [] },
    ([]),
    (regWrite { boundary9.rgs with ended := [] } 3 0 4000000000 8 0 0 0),
    (regWrite { boundary9.rgs with ended := [] } 3 0 4000000000 8 0 0 0), by decide +kernel, by decide +kernel, rfl, rfl⟩,
   ⟨(quietTap),
    (quietTap.rgs),
    { quietTap.rgs with store := blowFuse quietTap.rgs.store }, by decide +kernel, by decide +kernel, by decide +kernel, rfl⟩,
   ⟨(quietTap),
    (.period 7),
    (quietTap.rgs), by decide +kernel⟩,
   ⟨(forged),
    (.period 7), by decide +kernel⟩,
   ⟨(forged), by decide +kernel⟩⟩

/-- Every clause of StepRunsTheFrontCommand has a state and operands that meet its hypotheses. -/
theorem witness_StepRunsTheFrontCommand :
    (∃ (s : State) (c : Instr) (rest : List Instr), s.pending = c :: rest) ∧
    (∃ (s : State), s.pending = []) :=
  ⟨⟨{ up with pending := [.shaperTick, .warmReset] },
    (.shaperTick),
    ([.warmReset]), by decide⟩,
   ⟨(up), by decide⟩⟩

/-- Every clause of QueueAndRegistrarStayAsTheyWere has a state and operands that meet its hypotheses. -/
theorem witness_QueueAndRegistrarStayAsTheyWere :
    (∃ (i : Instr) (s : State) (t : State), exec i s = .next t) ∧
    (∃ (i : Instr) (s : State) (t : State), exec i s = .next t ∧ registrarEvent i = false) ∧
    (∃ (i : Instr) (s : State) (t : State), step s = .next t) ∧
    (∃ (i : Instr) (s : State) (t : State), Calm t) :=
  ⟨⟨(.warmReset),
    (up),
    (keep up (resetDevice up false)), rfl⟩,
   ⟨(.warmReset),
    (up),
    (keep up (resetDevice up false)), rfl, rfl⟩,
   ⟨(.warmReset),
    { up with pending := [.warmReset] },
    (keep up (resetDevice up false)), rfl⟩,
   ⟨(.warmReset),
    (State.reset),
    (up), by decide⟩⟩

/-- Every clause of StoppedDeviceObeysFewCommands has a state and operands that meet its hypotheses. -/
theorem witness_StoppedDeviceObeysFewCommands :
    (∃ (i : Instr) (s : State), running s = false ∧ registrarEvent i = false ∧ actsWhenStopped i = false) ∧
    (∃ (i : Instr) (s : State) (sender : Nat), running s = false) :=
  ⟨⟨(.deviceNop 0),
    (State.reset), by decide⟩,
   ⟨(.deviceNop 0),
    (State.reset),
    (0), by decide⟩⟩

/-- Every clause of SafeStateEndsOnlyByReset has a state and operands that meet its hypotheses. -/
theorem witness_SafeStateEndsOnlyByReset :
    (∃ (s : State) (t : State), s.cus.safe = true ∧ step s = .next t) ∧
    (∃ (s : State) (t : State) (i : Instr), s.cus.safe = true ∧ (i = .warmReset ∨ i = .powerOnReset)) ∧
    (∃ (s : State) (t : State), (s.cus.safe = true ∨ s.inReset = true)) :=
  ⟨⟨{ up with cus := { safe := true }, pending := [.shaperTick] },
    (keep { up with cus := { safe := true } } (deviceTick { up with cus := { safe := true } })), rfl, rfl⟩,
   ⟨{ up with cus := { safe := true } },
    (up),
    (.warmReset), rfl, Or.inl rfl⟩,
   ⟨(State.reset),
    (up), Or.inr rfl⟩⟩

/-- Every clause of EveryStepHandlesWhatItRaises has a state and operands that meet its hypotheses. -/
theorem witness_EveryStepHandlesWhatItRaises :
    (∃ (s : State) (t : State), s.cus.raised = [] ∧ step s = .next t) :=
  ⟨{ up with pending := [.warmReset] },
    (keep up (resetDevice up false)), rfl, rfl⟩

/-- Every clause of SealedParametersNeverChange has a state and operands that meet its hypotheses. -/
theorem witness_SealedParametersNeverChange :
    (∃ (s : State) (t : State), s.rgs.store.blown = true ∧ step s = .next t) ∧
    (∃ (s : State) (t : State), s.rgs.store.tamper = true ∧ step s = .next t) ∧
    (∃ (s : State) (t : State), s.rgs.store.cause ≠ 0 ∧ step s = .next t) :=
  ⟨⟨{ sealed with pending := [.calEn] },
    { calEnable sealed with pending := [] }, rfl, rfl⟩,
   ⟨{ spoiled with pending := [.calEn] },
    { calEnable spoiled with pending := [] }, rfl, rfl⟩,
   ⟨{ spoiled with pending := [.calEn] },
    { calEnable spoiled with pending := [] }, by decide, rfl⟩⟩

/-- Every clause of HostMemoryOperations has a state and operands that meet its hypotheses. -/
theorem witness_HostMemoryOperations :
    (∃ (s : State) (fn : Nat) (a : Nat) (l : List Byte), memWf s.host = true ∧ canAccess s fn = true) ∧
    (∃ (s : State) (fn : Nat) (a : Nat) (l : List Byte) (x : Nat), (x < a ∨ a + l.length ≤ x)) ∧
    (∃ (s : State) (fn : Nat) (a : Nat) (l : List Byte), canAccess s fn = false) ∧
    (∃ (s : State) (fn : Nat) (a : Nat) (l : List Byte), memWf s.host = true) ∧
    (∃ (s : State) (fn : Nat) (a : Nat) (l : List Byte), underWay s (halfOf s fn) = []) :=
  ⟨⟨(rungs up),
    (0),
    (4096),
    ([1, 0, 2]), by decide⟩,
   ⟨(rungs up),
    (0),
    (4096),
    ([1, 0, 2]),
    (4099), by decide⟩,
   ⟨(up),
    (0),
    (4096),
    ([1, 0, 2]), by decide⟩,
   ⟨(rungs up),
    (0),
    (4096),
    ([1, 0, 2]), by decide⟩,
   ⟨(rungs up),
    (0),
    (0),
    ([]), by decide⟩⟩

/-- Every clause of CommandEndTouchesOnlyItsReply has a state and operands that meet its hypotheses. -/
theorem witness_CommandEndTouchesOnlyItsReply :
    (∃ (s : State) (fn : Nat) (st : Nat) (d : Nat) (c : Cmd) (resp : List Byte) (x : Nat), ((x < c.respAddr ∨
        c.respAddr + resp.length ≤ x)) ∧ ((x < c.slotAddr + 32 ∨ c.slotAddr + 64 ≤ x)) ∧
      ((x < (admOf s fn).head ∨ (admOf s fn).head + 4 ≤ x)) ∧ c.event = false) ∧
    (∃ (s : State) (fn : Nat) (st : Nat) (d : Nat) (c : Cmd) (resp : List Byte) (t : State), c.event = false ∧
      finish s fn c st resp d = t) ∧
    (∃ (s : State) (fn : Nat) (st : Nat) (d : Nat) (c : Cmd) (resp : List Byte) (t : State), c.event = false ∧
      finish s fn c st resp d = t) ∧
    (∃ (s : State) (fn : Nat) (st : Nat) (d : Nat) (c : Cmd) (resp : List Byte), underWay s (halfOf s fn) = []) ∧
    (∃ (s : State) (fn : Nat) (st : Nat) (d : Nat) (c : Cmd) (resp : List Byte) (t : State), canAccess s fn = true ∧
      memWf s.host = true ∧ ((c.respAddr + resp.length ≤ c.slotAddr + 32 ∨ c.slotAddr + 64 ≤ c.respAddr)) ∧
      ((c.respAddr + resp.length ≤ (admOf s fn).head ∨ (admOf s fn).head + 4 ≤ c.respAddr)) ∧
      (((admOf s fn).head + 4 ≤ c.slotAddr + 32 ∨ c.slotAddr + 64 ≤ (admOf s fn).head)) ∧ c.event = false ∧ finish s fn c st resp d = t) ∧
    (∃ (s : State) (fn : Nat) (st : Nat) (d : Nat) (c : Cmd) (resp : List Byte) (t : State), c.event = false ∧
      finish s fn c st resp d = t) :=
  ⟨⟨(srv 0 0x0100 []),
    (0),
    (0),
    (0),
    (cmdOf 0x0100 []),
    ([]),
    (100), by decide⟩,
   ⟨(srv 0 0x0100 []),
    (0),
    (0),
    (0),
    (cmdOf 0x0100 []),
    ([]),
    (finish (srv 0 0x0100 []) 0 (cmdOf 0x0100 []) 0 [] 0), rfl, rfl⟩,
   ⟨(srv 0 0x0100 []),
    (0),
    (0),
    (0),
    (cmdOf 0x0100 []),
    ([]),
    (finish (srv 0 0x0100 []) 0 (cmdOf 0x0100 []) 0 [] 0), rfl, rfl⟩,
   ⟨(srv 0 0x0100 []),
    (0),
    (0),
    (0),
    (cmdOf 0x0100 []),
    ([]), by decide⟩,
   ⟨(setAdm (open0 up) 0 { enable := true, st := .busy, cmd := some (cmdOf 0x0100 []), head := 512 }),
    (0),
    (0),
    (0),
    (cmdOf 0x0100 []),
    ([1, 2]),
    (finish (setAdm (open0 up) 0 { enable := true, st := .busy, cmd := some (cmdOf 0x0100 []), head := 512 }) 0 (cmdOf 0x0100 []) 0 [1,
        2] 0), by decide, by decide, by decide, by decide, by decide, rfl, rfl⟩,
   ⟨(srv 0 0x0100 []),
    (0),
    (0),
    (0),
    (cmdOf 0x0100 []),
    ([]),
    (finish (srv 0 0x0100 []) 0 (cmdOf 0x0100 []) 0 [] 0), rfl, rfl⟩⟩

/-- Every clause of LockWritesFollowTheTable has a state and operands that meet its hypotheses. -/
theorem witness_LockWritesFollowTheTable :
    (∃ (s : State) (t : State) (n : Nat) (id : Nat), id ≠ 0 ∧ (lockOf s n).owner = 0 ∧ (lockWrite s n id false).1 = t) ∧
    (∃ (s : State) (t : State) (n : Nat) (id : Nat), id ≠ 0 ∧ (lockOf s n).owner ≠ 0 ∧ (lockWrite s n id false).1 = t) ∧
    (∃ (s : State) (t : State) (n : Nat) (id : Nat), id ≠ 0 ∧ (lockOf s n).owner = id ∧ (lockWrite s n id true).1 = t) ∧
    (∃ (s : State) (t : State) (n : Nat) (id : Nat), (lockOf s n).owner ≠ id ∧ (lockWrite s n id true).1 = t) :=
  ⟨⟨(up),
    ((lockWrite up 3 5 false).1),
    (3),
    (5), by decide, by decide, rfl⟩,
   ⟨(setLock up 3 { owner := 6 }),
    ((lockWrite (setLock up 3 { owner := 6 }) 3 5 false).1),
    (3),
    (5), by decide, by decide, rfl⟩,
   ⟨(setLock up 3 { owner := 5 }),
    ((lockWrite (setLock up 3 { owner := 5 }) 3 5 true).1),
    (3),
    (5), by decide, by decide, rfl⟩,
   ⟨(up),
    ((lockWrite up 3 5 true).1),
    (3),
    (5), by decide, rfl⟩⟩

/-- Every clause of CountersWrapOrSaturate has a state and operands that meet its hypotheses. -/
theorem witness_CountersWrapOrSaturate :
    (∃ (c : Cnt) (d : Cnt) (k : Nat), c.value < 2 ^ 48 ∧ c.old = none ∧ c.saturate = false ∧ cntAdd c k = d) ∧
    (∃ (c : Cnt) (d : Cnt) (k : Nat), c.value < 2 ^ 48 ∧ c.old = none ∧ c.saturate = true ∧ cntAdd c k = d) :=
  ⟨⟨{ value := 2 ^ 48 - 1 },
    { value := 1, wrapped := true },
    (2), by decide⟩,
   ⟨{ value := 2 ^ 48 - 1, saturate := true },
    { value := 2 ^ 48 - 1, saturate := true, saturated := true },
    (2), by decide⟩⟩

/-- Every clause of ShapersAdmitAtMostTheirRate has a state and operands that meet its hypotheses. -/
theorem witness_ShapersAdmitAtMostTheirRate :
    (∃ (x : Shaper) (y : Shaper) (ks : List Nat), x.en = true ∧ x.due = false ∧ x.tokens ≤ bucketCap x ∧ admits x ks = some y) :=
  ⟨{ en := true, rate := 500000000 },
    { en := true, rate := 500000000, tokens := 0 },
    ([1, 0, 1]), by decide⟩

/-- Every clause of FaultLogMergesOrWrites has a state and operands that meet its hypotheses. -/
theorem witness_FaultLogMergesOrWrites :
    (∃ (s : State) (t : State) (o : Occ) (b : Bool) (seq : Nat) (at_ : Nat), (fmGet s.cus.srcs o.src {}).lastRec = some (seq, at_) ∧
      now s < at_ + 1000 ∧ (logSlot s (seq % 1024)).seq = seq ∧ logOcc s o = (t, b)) ∧
    (∃ (s : State) (t : State) (o : Occ) (b : Bool), ((∀ seq at_, (fmGet s.cus.srcs o.src {}).lastRec = some (seq, at_) → at_ + 1000 ≤
        now s ∨ (logSlot s (seq % 1024)).seq ≠ seq)) ∧ logOcc s o = (t, b)) :=
  ⟨⟨((logOcc up ⟨16, 1⟩).1),
    ((logOcc (logOcc up ⟨16, 1⟩).1 ⟨16, 2⟩).1),
    (⟨16, 2⟩),
    (false),
    (0),
    (0), rfl, by decide, by decide, rfl⟩,
   ⟨(up),
    ((logOcc up ⟨16, 1⟩).1),
    (⟨16, 1⟩),
    (true), fun _ _ h => (nomatch h), rfl⟩⟩

/-- Every clause of OccurrencesOfAWindow has a state and operands that meet its hypotheses. -/
theorem witness_OccurrencesOfAWindow :
    (∃ (b : StrikeBank) (w : Window) (t : Nat) (e : Nat), 0 < w.length ∧ w.length ≤ w.period) :=
  ⟨{},
    { offset := 5, length := 2, port := 12, flow := 0, period := 10 },
    (15),
    (17), by decide⟩

/-- Every clause of FirstFatalIsRecorded has a state and operands that meet its hypotheses. -/
theorem witness_FirstFatalIsRecorded :
    (∃ (s : State) (t : State) (os : List Occ) (o : Occ), s.cus.safe = false ∧ firstFatal s os = some o ∧ handleOccs s os = t) ∧
    (∃ (s : State) (t : State) (os : List Occ) (o : Occ), firstFatal s os = some o) ∧
    (∃ (s : State) (t : State) (os : List Occ) (o : Occ), s.cus.safe = true ∧ handleOccs s [o] = t) :=
  ⟨⟨(up),
    (handleOccs up [⟨289, 7⟩, ⟨288, 9⟩]),
    ([⟨289, 7⟩, ⟨288, 9⟩]),
    (⟨288, 9⟩), by decide, by decide, rfl⟩,
   ⟨(up),
    (up),
    ([⟨289, 7⟩, ⟨288, 9⟩]),
    (⟨288, 9⟩), by decide⟩,
   ⟨{ up with cus := { safe := true } },
    (handleOccs { up with cus := { safe := true } } [⟨288, 9⟩]),
    ([]),
    (⟨288, 9⟩), rfl, rfl⟩⟩

/-- Every clause of ExactSumsDependOnTheMultisetOnly has a state and operands that meet its hypotheses. -/
theorem witness_ExactSumsDependOnTheMultisetOnly :
    (∃ (p : CarParams) (a : Shape) (b : Shape), p.exact = true ∧ (leaves a).Perm (leaves b)) :=
  ⟨{ op := 0x01, type := 3, rop := 0, exact := true, count := 1, peer := 0 },
    (.node (.leaf [0, 0, 128, 63]) (.leaf [0, 0, 0, 64])),
    (.node (.leaf [0, 0, 0, 64]) (.leaf [0, 0, 128, 63])), rfl, List.Perm.swap _ _ _⟩

/-- Every clause of CollectiveNaNsAreCanonical has a state and operands that meet its hypotheses. -/
theorem witness_CollectiveNaNsAreCanonical :
    (∃ (p : CarParams) (w : Nat) (a : ExactAcc), 2 ≤ p.type ∧ p.type ≤ 4 ∧ fval (fmtOf p.type) (resultWord p w) = .nan) ∧
    (∃ (p : CarParams) (w : Nat) (a : ExactAcc), 2 ≤ p.type ∧ p.type ≤ 4 ∧ fval (fmtOf p.type) (exactWord (fmtOf p.type) a) = .nan) :=
  ⟨⟨{ op := 1, type := 3, rop := 0, exact := false, count := 1, peer := 0 },
    (0x7F800001),
    {}, by decide⟩,
   ⟨{ op := 1, type := 3, rop := 0, exact := true, count := 1, peer := 0 },
    (0),
    { nan := true }, by decide⟩⟩

/-- Every clause of IntegerCollectivesIgnoreOrder has a state and operands that meet its hypotheses. -/
theorem witness_IntegerCollectivesIgnoreOrder :
    (∃ (p : CarParams) (a : Nat) (b : Nat) (c : Nat), p.type ≤ 1 ∧ a < 2 ^ 64 ∧ b < 2 ^ 64 ∧ c < 2 ^ 64) ∧
    (∃ (p : CarParams) (a : Nat) (b : Nat) (c : Nat), p.type ≤ 1 ∧ p.rop = 0) :=
  ⟨⟨{ op := 1, type := 0, rop := 1, exact := false, count := 1, peer := 0 },
    (1),
    (2 ^ 64 - 1),
    (5), by decide⟩,
   ⟨{ op := 1, type := 0, rop := 0, exact := false, count := 1, peer := 0 },
    (1),
    (2 ^ 64 - 1),
    (5), by decide⟩⟩

/-- Every clause of PsnsAreClassifiedByTheWindow has a state and operands that meet its hypotheses. -/
theorem witness_PsnsAreClassifiedByTheWindow :
    (∃ (x : Ctx) (p : Psn) (k : Nat), k < 256 ∧ p = x.e + BitVec.ofNat 24 k) ∧
    (∃ (x : Ctx) (p : Psn) (k : Nat), 1 ≤ k ∧ k ≤ 256 ∧ p = x.e - BitVec.ofNat 24 k) ∧
    (∃ (x : Ctx) (p : Psn), ((∀ k, k < 256 → p ≠ x.e + BitVec.ofNat 24 k)) ∧ ((∀ k, 1 ≤ k → k ≤ 256 → p ≠ x.e - BitVec.ofNat 24 k))) :=
  ⟨⟨{ e := 0xFFFFFF },
    (254),
    (255), by decide⟩,
   ⟨{ e := 3 },
    (0xFFFF03),
    (256), by decide⟩,
   ⟨{ e := 0 },
    (256), fun k h e => absurd (congrArg BitVec.toNat e) (by simp; omega), fun k h1 h2 e => absurd (congrArg BitVec.toNat e) (by simp; omega)⟩⟩

/-! ### Each check of WellFormed refuses an ill-formed command -/

/-- A packet with a header of a connection and no payload. -/
def bare : Packet := { rt := { dest := 0, src := 0, cls := 0 }, tt := .other 0 }

theorem test_wf_function : Instr.wf (.deviceNop 257) = false := by decide
theorem test_wf_stopped_function : Instr.wf (.curCoreStop 0 (some 257)) = false := by decide
theorem test_wf_core : Instr.wf (.curCoreStop 4 none) = false := by decide
theorem test_wf_status : Instr.wf (.commandComplete 0 256 0) = false := by decide
theorem test_wf_offset : Instr.wf (.registerWrite 0 (2 ^ 28) 64 0) = false := by decide
theorem test_wf_width : Instr.wf (.registerWrite 0 0 24 0) = false := by decide
theorem test_wf_lock : Instr.wf (.lockWaitRead 0 4096) = false := by decide
theorem test_wf_port : Instr.wf (.retrain 0 16) = false := by decide
theorem test_wf_vector : Instr.wf (.msixUnmask 0 256) = false := by decide
theorem test_wf_queue : Instr.wf (.put 262144) = false := by decide
theorem test_wf_ring : Instr.wf (.msixMessage 0 64) = false := by decide
theorem test_wf_endpoint : Instr.wf (.receiveRingReread 4096) = false := by decide
theorem test_wf_context : Instr.wf (.ackSend 65536) = false := by decide
theorem test_wf_handle : Instr.wf (.treeEpochSwitch 512) = false := by decide
theorem test_wf_granule : Instr.wf (.reservationExpiry 12) = false := by decide
theorem test_wf_packet_class : Instr.wf (.putArrival { bare with rt := { bare.rt with cls := 5 } }) = false := by decide
theorem test_wf_packet_length : Instr.wf (.putArrival { bare with rt := { bare.rt with len := 2 } }) = false := by decide
theorem test_wf_packet_coordinate : Instr.wf (.putArrival { bare with rt := { bare.rt with dest := 2 ^ 24 } }) = false := by decide
theorem test_wf_install :
    Instr.wf (.treeInstall ⟨1, 2, true, false, 0, 0, 0, [(0, 0)], [], {}⟩) = false := by decide
theorem test_wf_group : Instr.wf (.treeReadyTimeout (2 ^ 32)) = false := by decide
theorem test_wf_join : Instr.wf (.groupJoin ⟨1, 2, 0, 0, 2, true, false, 0, 0⟩) = false := by decide
theorem test_wf_channel : Instr.wf (.move 32) = false := by decide
theorem test_wf_dial : Instr.wf (.dialSample 16) = false := by decide
theorem test_wf_flow : Instr.wf (.strikeFrameStart 0) = false := by decide
theorem test_wf_vc : Instr.wf (.headFlitGrant 0 10) = false := by decide
theorem test_wf_flit_group : Instr.wf (.flitGroupReceive 0 { lanes := [] }) = false := by decide
theorem test_wf_train : Instr.wf (.train 0 [0, 0, 0]) = false := by decide
theorem test_wf_lane : Instr.wf (.blockLock 0 ⟨8, [1], 0⟩) = false := by decide
theorem test_wf_heads : Instr.wf (.blockLock 0 ⟨0, [4], 0⟩) = false := by decide
theorem test_wf_reference : Instr.wf (.refSignalLoss 16) = false := by decide
theorem test_wf_tod : Instr.wf (.timeInTod [0]) = false := by decide
theorem test_wf_device : Instr.wf (.fenceReport 131072 .change) = false := by decide
theorem test_wf_map : Instr.wf (.faultMapReport { links := [(0, 12)], devices := [] }) = false := by decide
theorem test_wf_coordinate : Instr.wf (.fabricCommandedReset (2 ^ 24)) = false := by decide
theorem test_wf_plane : Instr.wf (.reAimNotice 0 2) = false := by decide
theorem test_wf_frame : Instr.wf (.hello { kind := 8 }) = false := by decide
theorem test_wf_occurrence : Instr.wf (.faultOccurrence [⟨312, 0⟩]) = false := by decide
theorem test_wf_source : Instr.wf (.supplyMonitor 312 0) = false := by decide
theorem test_wf_straps : Instr.wf (.resetRelease { pcieMode := 2 }) = false := by decide
theorem test_wf_half : Instr.wf (.linkHalfReset 2) = false := by decide
theorem test_wf_speed : Instr.wf (.hostLinkTrained 0 6 16) = false := by decide
theorem test_wf_lanes : Instr.wf (.hostLinkTrained 0 5 3) = false := by decide
theorem test_wf_figures : Instr.wf (.adapt 0 [(64, {}), (64, {}), (64, {})]) = false := by decide
theorem test_wf_accepts : Instr.wf (.putArrival bare) = true := by decide

/-! ### Worked examples of the spec -/

/-- The shape 8 × 8 × 8 × 8 × 5 × 5 of the example after R24. -/
def designShape : State := { up with mvt := { up.mvt with shape := [7, 7, 7, 7, 4, 4], coord := 0x370524 } }

/-- The node at A = 3, B = 7, C = 0, D = 5, E = 2, F = 4 has linear number 49,739 (example after R24). -/
theorem test_linear_number : linearOf designShape 0x370524 = 49739 := by decide

/-- 461 handshakes in a window are PERIOD 0x0471 (example after R44). -/
theorem test_pace : (paceWindow up 461 730 98).mvt.period = 0x0471 := by decide

/-- One exchange: the offset is 3.25 ns and the delay 10.50 ns, in units of 0.25 ns (example after R132). -/
theorem test_exchange : (half (55 - 29), half (55 + 29)) = (13, 42) := by decide

/-- A job latency of 740 ticks falls in bin 10, that of 1,024 in bin 11 (example after R567). -/
theorem test_dial_bin : (dialBin 740, dialBin 1023, dialBin 1024, dialBin 0) = (10, 10, 11, 0) := by decide +kernel

/-- 2^53, 1 and −2^53: the exact sum is 1.0, whichever comes first; native sums may lose it (example after R426). -/
theorem test_exact_sum :
    let acc := fun a b c => exactWord fp64 (exactAdd (exactAdd (exactOf fp64 a) (exactOf fp64 b)) (exactOf fp64 c))
    acc 0x4340000000000000 0x3FF0000000000000 0xC340000000000000 = 0x3FF0000000000000 ∧
      addWords fp64 0 (addWords fp64 0 0x4340000000000000 0x3FF0000000000000) 0xC340000000000000 = 0 ∧
      addWords fp64 0 (addWords fp64 0 0x4340000000000000 0xC340000000000000) 0x3FF0000000000000 = 0x3FF0000000000000 := by
  decide +kernel

/-- A change of RATE to 40,000,000 empties the bucket or fills it to 64 packets, before the tick's accrual (example after R488). -/
theorem test_retuned_shaper :
    (shaperTick { en := true, rate := 40000000, burst := 64, tokens := 11500000000, due := true } false).tokens = 40000000 ∧
      (shaperTick { en := true, rate := 40000000, burst := 64, tokens := 11500000000, due := true } true).tokens = 64000000000 := by
  decide +kernel

/-- HIF_QUEUE_STATE of queue 0x48D2 and SCH_GROUP of group 0x1234 (example after R637). -/
theorem test_register_addresses :
    (locate up 0 0x00324690 64).map (fun r => (r.name, r.i)) = some (.hifQueueState, 0x48D2) ∧
      (locate up 0 0x024191A0 32).map (fun r => (r.name, r.i)) = some (.schGroup, 0x1234) := by decide +kernel

/-- A double-bit error of the Catalogue partition at 0x0012_C340: CUS_FATAL names source 289 (event table after R553). -/
theorem test_catalogue_error :
    let t := handleOccs up [⟨289, 0x0012C340⟩]
    t.cus.safe = true ∧ field (cusFatal t) 0 10 = 289 + 2 ^ 9 ∧ t.cus.fatal.map (·.detail) = some 0x0012C340 := by decide +kernel

end Sys2Proof.Tests
end

section
/-! The scope of the device as its host meets it: reads and writes of the register file (R14 to R18), the choice of an injection port and
the samples of the monitors (R479, R567), and what the Custodian holds at reset (R16). -/

namespace Sys2Proof.Machine

/-! ### Reads of registers (R17) -/

@[simp] theorem sampleRead_hif (s : State) (r : RegAt) : (sampleRead s r).hif = s.hif := by
  unfold sampleRead
  split <;> rfl

/-- Only the read of a counter's value is a sample. -/
theorem sampleRead_of_ne {s : State} {r : RegAt} (h : r.name ≠ .monCntValue) : sampleRead s r = s := by
  unfold sampleRead
  split
  · contradiction
  · rfl

@[simp] theorem setLatch_cur (fn offset v : Nat) (s : State) : (setLatch fn offset v s).cur = s.cur := rfl

@[simp] theorem dropLatch_cur (fn offset : Nat) (s : State) : (dropLatch fn offset s).cur = s.cur := rfl

/-- An access that reaches a register other than a lock's reads that register. -/
theorem readAccess_reg {s : State} {fn offset width : Nat} {r : RegAt} (hr : reaches s fn = true) (ho : offset < bar0Size fn)
    (hl : locate s fn offset width = some r) (hlock : r.name ≠ .palLock) (hwait : r.name ≠ .palWait) :
    readAccess s fn offset width = readReg s fn width r := by
  -- `hlock` and `hwait` leave the last branch of the match on the register's name
  simp [readAccess, hr, hl, Nat.not_le.mpr ho]

/-- Nothing latched: the value of a register is its present one. -/
theorem fullValue_unlatched {s : State} {fn : Nat} {r : RegAt} (h : fmFind s.hif.latch (latchKey fn r.at_) = none)
    (hts : r.name ≠ .userTs) : fullValue s fn r = (s, regValue s fn r.name r.i) := by
  simp [fullValue, h, hts]

/-- A read of a register's own width answers its value, drops its latch and latches its companions. -/
theorem readReg_whole {s : State} {fn width : Nat} {r : RegAt} (hu : r.upper = false) (hw : width = r.width)
    (hts : r.name ≠ .userTs) (h : fmFind s.hif.latch (latchKey fn r.at_) = none) :
    readReg s fn width r = readBack (latchCompanions (dropLatch fn r.at_ (sampleRead s r)) fn r) fn
      (regValue (sampleRead s r) fn r.name r.i % 2 ^ width) := by
  have hv := fullValue_unlatched (s := sampleRead s r) (by simpa using h) hts
  have hn : ¬(width = 32 ∧ r.width = 64) := by omega
  simp [readReg, hu, hv, hn]

/-- A read of a latched upper half answers what was latched, once. -/
theorem readReg_upper_latched {s : State} {fn width v : Nat} {r : RegAt} (hu : r.upper = true) (hm : isMsix r.name = false)
    (h : fmFind s.hif.latch (latchKey fn (r.at_ + 4)) = some v) :
    readReg s fn width r = readBack (dropLatch fn (r.at_ + 4) s) fn v := by
  simp [readReg, hu, hm, h]

/-- The four words of the physical function's mailbox lie side by side from 0x0010_0040 on (R243). -/
theorem locate_mailbox (s : State) : ∀ k < 4,
    locate s 0 (0x00100040 + 8 * k) 64 = some ⟨.mailbox k, 0, 0x00100040 + 8 * k, 64, false⟩
  | 0, _ => rfl
  | 1, _ => rfl
  | 2, _ => rfl
  | 3, _ => rfl

theorem regValue_mailbox (s : State) (fn k i : Nat) :
    regValue s fn (.mailbox k) i = recordWord (replyBytes (admOf s fn).mailbox) k := rfl

/-- Reading the mailbox's first word latches the other three (R258). -/
theorem latchCompanions_mailbox (s : State) :
    latchCompanions s 0 ⟨.mailbox 0, 0, 0x00100040, 64, false⟩ =
      setLatch 0 0x00100058 (recordWord (replyBytes (admOf s 0).mailbox) 3)
        (setLatch 0 0x00100050 (recordWord (replyBytes (admOf s 0).mailbox) 2)
          (setLatch 0 0x00100048 (recordWord (replyBytes (admOf s 0).mailbox) 1) s)) := by
  have h1 := fun s => locate_mailbox s 1 (by decide)
  have h2 := fun s => locate_mailbox s 2 (by decide)
  have h3 := fun s => locate_mailbox s 3 (by decide)
  simp only [Nat.reduceMul, Nat.reduceAdd] at h1 h2 h3
  simp [latchCompanions, companions, h1, h2, h3, regValue_mailbox, admOf]

/-- A read of the physical function's mailbox answers its first word and latches the other three (R258). -/
theorem mailboxRead_whole {s : State} (hr : reaches s 0 = true) (h : fmFind s.hif.latch (latchKey 0 0x00100040) = none) :
    mailboxRead s 0 = readBack (latchCompanions (dropLatch 0 0x00100040 s) 0 ⟨.mailbox 0, 0, 0x00100040, 64, false⟩) 0
      (recordWord (replyBytes (admOf s 0).mailbox) 0 % 2 ^ 64) :=
  (readAccess_reg hr (by decide) (locate_mailbox s 0 (by decide)) (by decide) (by decide)).trans
    (readReg_whole rfl rfl (by decide) h)

/-- A read inside a function's user counter page is one of its BAR0 (R564). -/
theorem userPageRead_physical {s : State} {offset width : Nat} (h : offset < 4096) :
    userPageRead s 0 offset width = readAccess s 0 (0x02090000 + offset) width := by
  simp [userPageRead, Nat.not_le.mpr h]

/-- BAR2 and BAR4 read 0, but for the companion function, which has none (R183, R191). -/
theorem barRead_other {s : State} {fn bar offset width : Nat} (hr : reaches s fn = true) (hb : bar = 2 ∨ bar = 4)
    (hc : fn ≠ 256) : barRead s fn bar offset width = readBack s fn 0 := by
  rcases hb with rfl | rfl <;> simp [barRead, hr, hc]

/-! ### Writes of registers (R14, R15) -/

/-- A register with a controlled field is no word of a user counter page. -/
theorem controlled_not_user {n : RegName} (h : ((controlled n).1 || (controlled n).2) = true) : n ≠ .userValue ∧ n ≠ .userTs := by
  constructor <;> rintro rfl <;> simp [controlled] at h

/-- A write of the whole of a register is applied at once. -/
theorem writeAccess_whole {s : State} {fn offset width v : Nat} {r : RegAt} (hr : reaches s fn = true) (ho : offset < bar0Size fn)
    (hl : locate s fn offset width = some r) (hw : width = 64 ∨ r.width = 32) :
    writeAccess s fn offset width v = applyWrite s fn offset r (v % 2 ^ width) false := by
  simp [writeAccess, hr, hl, hw, Nat.not_le.mpr ho]

/-- The lower half of a 64-bit register is held for its upper half (R17). -/
theorem writeAccess_lower {s : State} {fn offset v : Nat} {r : RegAt} (hr : reaches s fn = true) (ho : offset < bar0Size fn)
    (hl : locate s fn offset 32 = some r) (hw : r.width = 64) (hm : isMsix r.name = false) (hv : r.name ≠ .userValue)
    (ht : r.name ≠ .userTs) (hu : r.upper = false) :
    writeAccess s fn offset 32 v =
      { s with hif := { s.hif with held := fmSet s.hif.held (latchKey fn r.at_) (v % 2 ^ 32) } } := by
  simp [writeAccess, hr, hl, hw, hm, hv, ht, hu, Nat.not_le.mpr ho]

/-- What a write of the whole of a register comes to, when it is neither exempt nor a word of a user counter page (R14, R262). -/
theorem applyWrite_whole {s : State} {fn offset v : Nat} {r : RegAt} (hx : exempt r.name = false) (hv : r.name ≠ .userValue)
    (ht : r.name ≠ .userTs) :
    applyWrite s fn offset r v false =
      if (controlled r.name).1 || (controlled r.name).2 then
        if fn != 0 || !isExpert s (r.at_ / 2 ^ 20) then fault s 16 offset else writeReg s r v
      else s := by
  simp [applyWrite, basicWrite, hx, hv, ht, or_comm]

/-- In expert mode the physical function's write of a controlled register takes effect. -/
theorem applyWrite_expert {s : State} {offset v : Nat} {r : RegAt} (hx : exempt r.name = false)
    (hc : ((controlled r.name).1 || (controlled r.name).2) = true) (he : isExpert s (r.at_ / 2 ^ 20) = true) :
    applyWrite s 0 offset r v false = writeReg s r v := by
  obtain ⟨hv, ht⟩ := controlled_not_user hc
  rw [applyWrite_whole hx hv ht, if_pos hc, he, if_neg (by decide)]

/-- In basic mode, or by a virtual function, a write of a controlled register is refused with CUR_BASIC_WRITE. -/
theorem applyWrite_basic {s : State} {fn offset v : Nat} {r : RegAt} (hx : exempt r.name = false)
    (hc : ((controlled r.name).1 || (controlled r.name).2) = true) (he : (fn != 0 || !isExpert s (r.at_ / 2 ^ 20)) = true) :
    applyWrite s fn offset r v false = fault s 16 offset := by
  obtain ⟨hv, ht⟩ := controlled_not_user hc
  rw [applyWrite_whole hx hv ht, if_pos hc, if_pos he]

/-- A write that covers no controlled field is ignored. -/
theorem applyWrite_uncontrolled {s : State} {fn offset v : Nat} {r : RegAt} (hx : exempt r.name = false) (hv : r.name ≠ .userValue)
    (ht : r.name ≠ .userTs) (hc : ((controlled r.name).1 || (controlled r.name).2) = false) :
    applyWrite s fn offset r v false = s := by
  rw [applyWrite_whole hx hv ht, hc, if_neg (by decide)]

/-- The port fence is written in expert mode; the bridge's is not set while the twins are paired (R90, R94). -/
theorem portFenceWrite_expert {s : State} {port v : Nat} (he : isExpert s 0x12 = true) (hp : hasLanes port = true)
    (ht : port = 14 → twinPaired s = false) : portFenceWrite s 0 port v = setAdminFence s port (bitAt v 0) := by
  have hn : ¬((port = 14 ∧ bitAt v 0 = true) ∧ twinPaired s = true) := by
    rintro ⟨⟨h14, -⟩, hpaired⟩
    simp [ht h14] at hpaired
  simp [portFenceWrite, he, hp, hn]

theorem portFenceWrite_basic {s : State} {fn port v : Nat} (he : (fn != 0 || !isExpert s 0x12) = true) :
    portFenceWrite s fn port v = fault s 16 (0x01200100 + 8 * port) := by
  rw [portFenceWrite, if_pos he, basicWrite]

/-- A fabric port that is not administratively fenced is retrained as after a link fault (R179). -/
theorem retrainWrite_expert {s : State} {port : Nat} (he : isExpert s 0x18 = true) (hp : port < 12)
    (hf : s.mvt.adminFence.contains port = false) : retrainWrite s 0 port = linkFault s port := by
  have hl : hasLanes port = true := by simp [hasLanes, hp]
  rw [retrainWrite, hl, he, if_neg (by decide), if_neg (by decide), retrain, hf, if_neg (by simpa using hp)]

theorem retrainWrite_basic {s : State} {fn port : Nat} (hl : hasLanes port = true) (he : (fn != 0 || !isExpert s 0x18) = true) :
    retrainWrite s fn port = fault s 16 (0x01801008 + 0x100 * port) := by
  rw [retrainWrite, hl, if_neg (by decide), if_pos he, basicWrite]

/-- An access to no register of its width, or with sparse byte enables, is a stray one (R18). -/
theorem undefinedAccess_stray {s : State} {fn offset width : Nat} {write sparse : Bool} (hr : reaches s fn = true)
    (ho : offset < bar0Size fn) (h : ((locate s fn offset width).isSome && !sparse) = false) :
    undefinedAccess s fn offset width write sparse =
      if write then fault s 36 offset else readBack (fault s 36 offset) fn 0 := by
  rw [undefinedAccess, hr, h, if_neg (by simpa using ho)]

/-- Settles O15: each access comes to one branch of the read or the write of the register that its offset names. -/
theorem registerAccessesComplete : Obligations.RegisterAccessesComplete := by
  unfold Obligations.RegisterAccessesComplete
  intro s
  refine ⟨?mailbox, ?whole, ?upper, ?bars, ?userPage, ?expert, ?basic, ?readOnly, ?lower, ?fence, ?fenceBasic, ?retrain,
    ?retrainBasic, ?strayWrite, ?strayRead⟩
  case mailbox =>
    rintro w hrun hr hlatch rfl
    rw [exec_admMailboxRead]
    exact live_does hrun ((mailboxRead_whole hr hlatch).trans (by rw [latchCompanions_mailbox]; rfl))
  case whole =>
    rintro fn offset width r t u hrun hr ho hl hu hlock hwait hts hw hlatch rfl rfl
    rw [exec_latchingRegisterRead]
    exact live_does hrun ((readAccess_reg hr ho hl hlock hwait).trans (readReg_whole hu hw hts hlatch))
  case upper =>
    intro fn offset v r hrun hr ho hl hu hlock hwait hm hlatch
    rw [exec_latchingRegisterRead]
    exact live_does hrun ((readAccess_reg hr ho hl hlock hwait).trans (readReg_upper_latched hu hm hlatch))
  case bars =>
    intro fn bar offset width hrun hr hb hc
    rw [exec_latchingRegisterRead]
    exact live_does hrun (barRead_other hr hb hc)
  case userPage =>
    rintro offset r u hrun ho hr hl hn hu hw hlatch rfl
    have hsize : 0x02090000 + offset < bar0Size 0 := by simp only [bar0Size, if_true]; omega
    have hread := readReg_whole (s := s) hu hw.symm (by simp [hn]) hlatch
    rw [sampleRead_of_ne (by simp [hn]), hn] at hread
    rw [exec_userPageRead]
    exact live_does hrun ((userPageRead_physical ho).trans
      ((readAccess_reg hr hsize hl (by simp [hn]) (by simp [hn])).trans hread))
  case expert =>
    intro offset width v r hrun hr ho hl hw hx hc he
    rw [exec_registerWrite]
    exact live_does hrun ((writeAccess_whole hr ho hl hw).trans (applyWrite_expert hx hc he))
  case basic =>
    intro fn offset width v r hrun hr ho hl hw hx hc he
    rw [exec_registerWrite]
    exact live_does hrun ((writeAccess_whole hr ho hl hw).trans (applyWrite_basic hx hc he))
  case readOnly =>
    intro fn offset width v r hrun hr ho hl hw hx hv ht hc
    rw [exec_registerWrite]
    exact live_does hrun ((writeAccess_whole hr ho hl hw).trans (applyWrite_uncontrolled hx hv ht hc))
  case lower =>
    intro fn offset v r hrun hr ho hl hw hm hv ht hu
    rw [exec_registerWrite]
    exact live_does hrun (writeAccess_lower hr ho hl hw hm hv ht hu)
  case fence =>
    intro port v hrun he hp ht
    rw [exec_portFenceWrite]
    exact live_does hrun (portFenceWrite_expert he hp ht)
  case fenceBasic =>
    intro fn port v hrun he
    rw [exec_portFenceWrite]
    exact live_does hrun (portFenceWrite_basic he)
  case retrain =>
    intro port hrun he hp hf
    rw [exec_retrain]
    exact live_does hrun (retrainWrite_expert he hp hf)
  case retrainBasic =>
    intro fn port hrun hl he
    rw [exec_retrain]
    exact live_does hrun (retrainWrite_basic hl he)
  case strayWrite =>
    intro fn offset width sparse hrun hr ho h
    rw [exec_undefinedOffsetAccess]
    exact live_does hrun (undefinedAccess_stray hr ho h)
  case strayRead =>
    intro fn offset width sparse hrun hr ho h
    rw [exec_undefinedOffsetAccess]
    exact live_does hrun (undefinedAccess_stray hr ho h)

/-! ### The choice of an injection port (R85, R479, R482) -/

section Injection

variable {s v t : State} {port : Nat} {fs : List (Nat × Idx)}

/-- Ports 12 and 13 of a device that has synchronised inject. -/
theorem injection_open (hp : port = 12 ∨ port = 13) (hsync : s.rgl.hadSync = true) :
    ((port != 12 && port != 13) || !s.rgl.hadSync) = false := by
  rcases hp with rfl | rfl <;> simp [hsync]

variable (hp : port = 12 ∨ port = 13) (hsync : s.rgl.hadSync = true) (hv : spillStranded s port = v)
  (hfs : startedFrames v port = fs) (ht : { v with sch := { v.sch with strike := fmSet v.sch.strike port fs } } = t)
include hp hsync hv hfs ht

/-- A started Strike frame whose window is open comes first. -/
theorem injectionGrant_frame {q : Nat} {idx : Idx} (hf : fs.find? (frameReady t) = some (q, idx)) :
    injectionGrant s port = (sendJob t port q idx true).1 := by
  simp [injectionGrant, injection_open hp hsync, hv, hfs, ht, hf]

/-- Then a reply whose plane can be reached. -/
theorem injectionGrant_reply {fn : Nat} {p : Packet} {l : List (Nat × Packet)} (hf : fs.find? (frameReady t) = none)
    (hr : fmGet t.sch.replies port [] = (fn, p) :: l) (hc : crossable t p.rt.plane = true) :
    injectionGrant s port = inject { t with sch := { t.sch with replies := fmSet t.sch.replies port l } } port fn p := by
  have hc' : crossable { t with sch := { t.sch with replies := fmSet t.sch.replies port l } } p.rt.plane = true := hc
  subst ht
  simp only at hr hc'
  simp [injectionGrant, injection_open hp hsync, hv, hfs, hf, hr, hc']

/-- Then a maintenance request that may go. -/
theorem injectionGrant_maint {m : Maint} (hf : fs.find? (frameReady t) = none) (hr : fmGet t.sch.replies port [] = [])
    (hm : (fmGet t.sch.maint port []).find? (maintReady t) = some m) :
    injectionGrant s port = sendMaint
      { t with sch := { t.sch with maint := fmSet t.sch.maint port ((fmGet t.sch.maint port []).erase m) } } port m := by
  subst ht
  simp only at hr hm
  simp [injectionGrant, injection_open hp hsync, hv, hfs, hf, hr, hm]

/-- And last the round robin over the active list. -/
theorem injectionGrant_roundRobin (hf : fs.find? (frameReady t) = none) (hr : fmGet t.sch.replies port [] = [])
    (hm : (fmGet t.sch.maint port []).find? (maintReady t) = none) :
    injectionGrant s port = serveList port ((activeList t port).length + 1) t := by
  subst ht
  simp only at hr hm
  simp [injectionGrant, injection_open hp hsync, hv, hfs, hf, hr, hm]

end Injection

/-- A head group whose turn begins gets its quantum, and is granted if its shapers admit it (R482). -/
theorem serveList_grant {t u : State} {port g n : Nat} {l : List Nat} (ha : activeList t port = g :: l)
    (hturn : turnOf t port = false)
    (hu : setTurn (setGroup t g { groupSched t g with deficit := (groupSched t g).deficit + (groupSched t g).quantum }) port true = u)
    (hready : groupReady u g = true) (hd : (groupSched u g).deficit ≠ 0) (hs : shapersAdmit u (groupOwner u g) = true) :
    serveList port (n + 1) t = grantGroup u port g := by
  simp [serveList, ha, hturn, hu, hready, hd, hs]

/-! ### The tick and the samples (R12, R493, R551, R567, R599) -/

theorem running_iff {s : State} : running s = true ↔ s.inReset = false ∧ s.cus.safe = false := by
  simp [running]

/-- A running device closes the tick, advances the time and fills its buckets. -/
theorem deviceTick_running {s : State} (h : running s = true) :
    deviceTick s = idleGroups (levelSamples (shaperTicks (advanceTime (closeTick (settleWrites s))))) := by
  obtain ⟨hreset, hsafe⟩ := running_iff.mp h
  simp [deviceTick, hreset, hsafe]

/-- In the safe state only the time goes on. -/
theorem deviceTick_safe {s : State} (hreset : s.inReset = false) (hsafe : s.cus.safe = true) : deviceTick s = advanceTime s := by
  simp [deviceTick, hreset, hsafe]

/-- In reset nothing goes on. -/
theorem deviceTick_inReset {s : State} (hreset : s.inReset = true) : deviceTick s = s := by
  simp [deviceTick, hreset]

/-- What is done in a tick of a stopped device ends the step. -/
theorem shaperTick_stopped {s u : State} (h : ¬running s = true) (hu : deviceTick s = u) :
    exec .shaperTick s = .next (keep s u) :=
  (exec_shaperTick s).trans (die_does ((if_neg h).trans hu))

/-- Every live queue of a device that samples is sampled at each thousandth tick. -/
theorem queueSample_due {s : State} (hen : s.sch.sampleEn = true) (ht : tickNow s % 1000 = 0) :
    queueSample s = (s.rings.queues.filter (fun kv => kv.2.st == .active || kv.2.st == .blocked || kv.2.st == .stopped)).foldl
      (fun s kv => sampleQueue s kv.1) s := by
  simp [queueSample, hen, ht]

/-- The oldest sample on its way reaches an enabled Dial, and is noted while its tick lasts. -/
theorem dialSample_reaches {s : State} {d v ts : Nat} {l : List (Nat × Nat)} (hc : (dialOf s d).coming = (v, ts) :: l)
    (hen : (dialOf s d).en = true) :
    let y := dialApply { dialOf s d with coming := l } v ts
    dialSample s d = setDial s d { y with recent := if ts = stamp s then y.recent ++ [(v, ts)] else y.recent } := by
  simp only [dialSample, hc, hen]
  by_cases hts : ts = stamp s <;> simp [hts]

/-- Settles O27: each event takes the branch of its choice that its hypotheses name. -/
theorem schedulerEventsComplete : Obligations.SchedulerEventsComplete := by
  unfold Obligations.SchedulerEventsComplete
  intro s
  refine ⟨?frame, ?reply, ?maint, ?group, ?tick, ?tickSafe, ?tickInReset, ?queues, ?dial⟩
  case frame =>
    intro port fs v t q idx hrun hp hsync hv hfs ht hf
    rw [exec_injectionGrant]
    exact live_does hrun (injectionGrant_frame hp hsync hv hfs ht hf)
  case reply =>
    intro port fs v t fn p l hrun hp hsync hv hfs ht hf hr hc
    rw [exec_injectionGrant]
    exact live_does hrun (injectionGrant_reply hp hsync hv hfs ht hf hr hc)
  case maint =>
    intro port fs v t m hrun hp hsync hv hfs ht hf hr hm
    rw [exec_injectionGrant]
    exact live_does hrun (injectionGrant_maint hp hsync hv hfs ht hf hr hm)
  case group =>
    intro port g fs v t u l hrun hp hsync hv hfs ht hf hr hm ha hturn hu hready hd hs
    rw [exec_injectionGrant]
    exact live_does hrun ((injectionGrant_roundRobin hp hsync hv hfs ht hf hr hm).trans
      (serveList_grant ha hturn hu hready hd hs))
  case tick =>
    intro hrun
    rw [exec_shaperTick]
    exact die_does ((if_pos hrun).trans (congrArg settle (deviceTick_running hrun)))
  case tickSafe =>
    intro hreset hsafe
    exact shaperTick_stopped (by simp [running_iff, hsafe]) (deviceTick_safe hreset hsafe)
  case tickInReset =>
    intro hreset
    exact shaperTick_stopped (by simp [running_iff, hreset]) (deviceTick_inReset hreset)
  case queues =>
    intro hrun hen ht
    rw [exec_queueSample]
    exact live_does hrun (queueSample_due hen ht)
  case dial =>
    rintro d v ts x y l hrun rfl hc hen rfl
    rw [exec_dialSample]
    exact live_does hrun (dialSample_reaches hc hen)

/-! ### The Custodian at reset (R16, R556) -/

/-- No source has an entry at reset, so that each reads as one that was never seen. -/
theorem reset_srcs : State.reset.cus.srcs = [] := rfl

/-- Settles O47: the table of the fault sources is empty at reset. -/
theorem nothingIsRaisedAtReset : Obligations.NothingIsRaisedAtReset := by
  unfold Obligations.NothingIsRaisedAtReset
  intro src
  rw [reset_srcs]
  exact ⟨rfl, rfl, rfl⟩

end Sys2Proof.Machine
end

section
/-! What every command leaves as it was, and the architecture's own events: the queue and the Registrar (R32, R580), the Regulator (R123 to
R145), resets and boot (R598 to R616), and the values that registers hold at reset (R16). -/

namespace Sys2Proof.Machine

/-! ### The values at reset (R16) -/

/-- The registers of `resetReads` read at reset what their Reset columns give. -/
theorem resetReads_hold :
    resetReads.all (fun x => registerField State.reset x.1 x.2.1 x.2.2.1 x.2.2.2.1 == some x.2.2.2.2) = true := by
  decide

/-- Settles O42: the reset state is a literal, whose registers are read one by one. -/
theorem resetValuesAsStated : Obligations.ResetValuesAsStated := by
  unfold Obligations.ResetValuesAsStated
  exact ⟨resetReads_hold, ⟨rfl, rfl, rfl⟩, rfl, rfl⟩

/-! ### The queue of the commands and the Registrar (R32, R49, R580) -/

/-- No command touches the queue of those that wait behind it. -/
theorem exec_keeps_pending {i : Instr} {s t : State} (h : exec i s = .next t) : t.pending = s.pending := by
  obtain ⟨-, f, rfl, -⟩ | ⟨-, -, f, rfl, -⟩ | ⟨-, -, ⟨-, rfl⟩ | ⟨-, u, rfl⟩⟩ := exec_cases h
  · rfl
  · exact keep_pending s (f s)
  · rfl
  · exact conclude_pending s u

/-- Only the Registrar's own events touch the Registrar. -/
theorem exec_keeps_registrar {i : Instr} {s t : State} (h : exec i s = .next t) (hi : registrarEvent i = false) : t.rgs = s.rgs := by
  obtain ⟨hr, -⟩ | ⟨-, -, f, rfl, -⟩ | ⟨-, -, ⟨-, rfl⟩ | ⟨-, u, rfl⟩⟩ := exec_cases h
  · exact absurd hr (by simp [hi])
  · exact keep_rgs s (f s)
  · rfl
  · exact conclude_rgs s u

/-- A step takes the front command from the queue, and nothing else. -/
theorem step_takes_front {s t : State} (h : step s = .next t) : t.pending = s.pending.tail := by
  unfold step at h
  cases hq : s.pending with
  | nil =>
    rw [hq] at h
    cases h
    exact hq
  | cons c rest =>
    rw [hq] at h
    exact exec_keeps_pending h

/-- Where nothing is due the end of a step does nothing: its first round finds nothing raised. -/
theorem settle_of_calm {t : State} (h : Calm t) : settle t = t := by
  obtain ⟨hraised, hreact, hflush⟩ := h
  simp [settle, settleN, hreact, hraised, hflush]

/-- Settles O43: the kinds of commands put the queue back, and all but the Registrar's own put the Registrar back. -/
theorem queueAndRegistrarStayAsTheyWere : Obligations.QueueAndRegistrarStayAsTheyWere := by
  unfold Obligations.QueueAndRegistrarStayAsTheyWere
  intro i s t
  exact ⟨exec_keeps_pending, exec_keeps_registrar, step_takes_front, fun h => by rw [conclude, settle_of_calm h, keep]⟩

/-! ### Time exchanges (R129, R130, R138, R158) -/

/-- An active fabric port whose exchange is due sends it. -/
theorem timeXSend_due {s : State} {p : Nat} (hp : p < 12) (htx : (laneOf s p).tx = .active) (hrx : (laneOf s p).rx = .active)
    (hdue : timeXDue s p = true) :
    let n := (fmGet s.rgl.txNum p 0 + 1) % 256
    let m := timeXOut s p n
    timeXSend s p =
      { s with
        rgl := { s.rgl with
            txAt := fmSet s.rgl.txAt p s.rgl.time,
            txNum := fmSet s.rgl.txNum p n,
            txTick := fmSet s.rgl.txTick p (now s),
            txParent := if m.isParent then withMember s.rgl.txParent p else without s.rgl.txParent p },
        lne := { s.lne with osOut := fmSet s.lne.osOut p (.timeX m) } } := by
  have hskip : (p ≥ 12 || !bothActive s p || !timeXDue s p) = false := by simp [bothActive, htx, hrx, hdue, hp]
  simp only [timeXSend, hskip, Bool.false_eq_true, if_false]

/-- An ordered set is acted on where it can be read, and else only counted (R158). -/
theorem osReceive_eq (s : State) (p : Nat) (lanes : List Nat) (act : OrderedSet → State) :
    osReceive s p lanes act = (osRead lanes).elim (bump s (182 + 7 * portIx p + 3)) act := by
  unfold osReceive
  cases osRead lanes <;> rfl

theorem timeSet_unread {s : State} {p frac : Nat} {lanes : List Nat} (h : osRead lanes = none) :
    timeSet s p lanes frac = bump s (182 + 7 * portIx p + 3) :=
  (osReceive_eq s p lanes _).trans (by rw [h, Option.elim_none])

/-- A set that reads as a time exchange is one, received at the instant captured. -/
theorem timeSet_read {s : State} {p frac : Nat} {lanes : List Nat} {x m : TimeX} (h : osRead lanes = some (.timeX x))
    (hm : { x with recvAt := s.rgl.time / 4 * 4 + frac % 4 } = m) : timeSet s p lanes frac = timeX s p m :=
  (osReceive_eq s p lanes _).trans (by rw [h, Option.elim_some, ← hm])

/-- An exchange tells of the neighbour; one with the parent then yields half the difference of its two ways as offset and half their sum as
delay (R129, R130). -/
theorem timeX_selected {s t : State} {p : Nat} {m : TimeX} (hp : p < 12)
    (ht : selectParent (bump (heardTime (formerRoot s m) p m) 395) = t) :
    (t.rgl.parent ≠ p → timeX s p m = heardRoot t m) ∧
    ∀ u t2 t3, fmFind s.rgl.rxAt p = some t2 → fmFind s.rgl.txAt p = some t3 → t.rgl.parent = p →
      heardRoot (if t.rgl.role = 1 then t else learnRoot t m) m = u →
      timeX s p m = exchange u (half ((t2 : Int) - instant56 m.prevSend t2 - (instant56 m.lastRecv t3 - (t3 : Int))))
        (half ((t2 : Int) - instant56 m.prevSend t2 + (instant56 m.lastRecv t3 - (t3 : Int)))) := by
  constructor
  · intro hparent
    simp [timeX, Nat.not_le.mpr hp, ht, hparent]
  · intro u t2 t3 h2 h3 hparent hu
    simp [timeX, Nat.not_le.mpr hp, ht, hparent, hu, h2, h3]

/-- A holdover of more than 1 ms loses synchronisation (R136, R139). -/
theorem holdoverExpiry_late {s : State} {t : Nat} (hfrom : s.rgl.holdFrom = some t) (hholds : holds s = true)
    (hover : s.rgl.holdover = true) (hlate : t + 1000000 < now s) : holdoverExpiry s = syncLost s := by
  simp [holdoverExpiry, hfrom, hholds, hover, hlate]

/-! ### The reference (R125, R126, R128, R140, R169) -/

/-- An edge at a device with a reference input: one that comes when predicted is aligned to, and ends a loss of TIME_IN_PPS; a stray one is
ignored, and the third in a row is a loss of lock, from which the next is predicted (R169). -/
theorem ppsEdge_eq {s : State} {frac : Nat} (hrole : s.rgl.role ≠ 0) :
    ppsEdge s frac =
      if strayEdge s (4 * now s + frac % 4) then
        noteRef
          { s with rgl := { s.rgl with
              ppsLast := now s, ppsStray := s.rgl.ppsStray + 1,
              ppsAt := if s.rgl.ppsStray + 1 < 3 then s.rgl.ppsAt else some (4 * now s + frac % 4) } }
          (Nat.lor (Nat.land s.lne.refNow 14) (if s.rgl.ppsStray + 1 ≥ 3 then 2 else 0))
      else
        alignEdge (noteRef { s with rgl := { s.rgl with ppsLast := now s, ppsStray := 0, ppsAt := some (4 * now s + frac % 4) } }
          (Nat.land s.lne.refNow 12)) frac := by
  cases h : strayEdge s (4 * now s + frac % 4) <;> simp [ppsEdge, hrole, h]

theorem ppsEdge_predicted {s : State} {frac : Nat} (hrole : s.rgl.role ≠ 0) (hstray : strayEdge s (4 * now s + frac % 4) = false) :
    ppsEdge s frac = alignEdge (noteRef { s with rgl := { s.rgl with
      ppsLast := now s, ppsStray := 0, ppsAt := some (4 * now s + frac % 4) } } (Nat.land s.lne.refNow 12)) frac := by
  rw [ppsEdge_eq hrole, hstray, if_neg Bool.false_ne_true]

theorem ppsEdge_stray {s : State} {frac : Nat} (hrole : s.rgl.role ≠ 0) (hstray : strayEdge s (4 * now s + frac % 4) = true)
    (hn : s.rgl.ppsStray + 1 < 3) :
    ppsEdge s frac = noteRef { s with rgl := { s.rgl with ppsLast := now s, ppsStray := s.rgl.ppsStray + 1 } }
      (Nat.land s.lne.refNow 14) := by
  rw [ppsEdge_eq hrole, if_pos hstray, if_pos hn, if_neg (Nat.not_le.mpr hn)]
  exact congrArg _ (Nat.or_zero _)

theorem ppsEdge_third_stray {s : State} {frac : Nat} (hrole : s.rgl.role ≠ 0) (hstray : strayEdge s (4 * now s + frac % 4) = true)
    (hn : s.rgl.ppsStray + 1 ≥ 3) :
    ppsEdge s frac = noteRef { s with rgl := { s.rgl with
      ppsLast := now s, ppsStray := s.rgl.ppsStray + 1, ppsAt := some (4 * now s + frac % 4) } }
      (Nat.lor (Nat.land s.lne.refNow 14) 2) := by
  rw [ppsEdge_eq hrole, if_pos hstray, if_neg (Nat.not_lt.mpr hn), if_pos hn]

/-- A named edge at a device with its reference: where the device is synchronised it sets the offset, and a correction that ends when that
is made good; else the first that a message has named synchronises the device, and a root becomes its own tree's (R125, R128, R140). -/
theorem alignEdge_named {v t : State} {frac sec : Nat} (href : v.rgl.refOk = true) (ht : countEdge v = t) (htod : t.rgl.tod = some sec) :
    (∀ off, v.rgl.synced = true → ((v.rgl.time : Int) / 4 * 4 + (frac % 4 : Nat) - (sec * 4000000000 : Nat)) = off →
      alignEdge v frac =
        { t with
          rgl := { t.rgl with
              ppsOff := off,
              offset := if v.rgl.role = 1 then off else v.rgl.offset,
              delay := if v.rgl.role = 1 then 0 else v.rgl.delay,
              steer := steerFor off,
              steerLeft := some (off.natAbs * 1000000) } }) ∧
    ∀ u, v.rgl.synced = false → v.rgl.todNamed = true → synchronise t (sec * 4000000000) = u →
      alignEdge v frac = if v.rgl.role = 1 then selectParent
        { u with rgl := { u.rgl with rootCoord := u.mvt.coord, rootValid := true, offset := 0, delay := 0, ppsOff := 0 } } else u := by
  constructor
  · intro off hsync hoff
    simp only [alignEdge, ht, htod, hsync, href, hoff, if_true]
  · intro u hsync hnamed hu
    simp [alignEdge, ht, htod, hsync, href, hnamed, hu]

/-- A good message is taken that is the first, or counts one second on (R125). -/
theorem todMessage_taken {s : State} {m : List Byte} {c k : Nat} (hrole : s.rgl.role ≠ 0) (hlen : m.length = 10)
    (hstart : byteAt m 0 = 0x7E) (hcrc : crc8 ((m.drop 1).take 8) = byteAt m 9) (hc : numAt m 1 8 = c) (hmax : c ≤ 4611686018)
    (hnext : s.rgl.tod = none ∨ (s.rgl.tod = some k ∧ c = k + 1)) :
    todMessage s m = { s with rgl := { s.rgl with tod := some c, todRecent := [], todNamed := true } } := by
  have hgood : (s.rgl.role = 0 || m.length != 10 || byteAt m 0 != 0x7E || crc8 ((m.drop 1).take 8) != byteAt m 9
      || c > 4611686018) = false := by
    rw [hcrc, hlen, hstart]
    simp [hrole, hmax]
  rcases hnext with htod | ⟨htod, hk⟩
  · simp only [todMessage, hc, hgood, Bool.false_eq_true, if_false, htod]
  · simp only [todMessage, hc, hgood, Bool.false_eq_true, if_false, htod, if_pos hk]

/-- The output rises in the tick in which a whole second is crossed, for 100 ms (R126). -/
theorem ppsOut_rises {s : State} (hen : s.rgl.toutEn = true) (hsync : s.rgl.synced = true) (ht : s.rgl.time % 4000000000 < 8) :
    ppsOut s = { s with rgl := { s.rgl with ppsUntil := now s + 100000000 } } := by
  simp [ppsOut, hen, hsync, ht]

/-! ### The root's role (R137, R138) -/

/-- A root without its reference for 10 s yields if the free value says that the backup root's is good. -/
theorem rootHandover_late {s u : State} {t good : Nat} (hlost : s.rgl.refLostAt = some t) (hrole : s.rgl.role = 1)
    (href : s.rgl.refOk = false) (hlate : t + 10000000000 ≤ now s) (hdraw : draw s = (good, u)) :
    rootHandover s = if good % 2 = 0 then u else yieldRoot u := by
  simp [rootHandover, hlost, hrole, href, hlate, hdraw]

/-- A backup root that has not heard its root for 20 µs while its Curator is READY takes the role. -/
theorem backupTakeover_late {s : State} (hrole : s.rgl.role = 2) (hready : s.cur.ready = true) (hlate : s.rgl.rootHeard + 20000 ≤ now s) :
    backupTakeover s = selectParent
      { s with
        rgl := { s.rgl with
            role := 1,
            rootCoord := s.mvt.coord,
            rootValid := true,
            changes := s.rgl.changes + 1,
            offset := s.rgl.ppsOff,
            delay := 0,
            steer := if s.rgl.refOk then s.rgl.steer else 0,
            steerLeft := if s.rgl.refOk then s.rgl.steerLeft else none,
            holdover := s.rgl.synced && !s.rgl.refOk,
            holdFrom := if s.rgl.synced && !s.rgl.refOk then some (now s) else none },
        epo := { s.epo with
            known := s.epo.joined,
            masterMap := (currentBank s).map,
            reports := s.epo.reports.map (fun r => { r with sentAt := now s }) } } := by
  simp [backupTakeover, hrole, hready, hlate]

/-- A pace window sets the pace and raises where its period is beyond an enabled limit (R42, R44). -/
theorem paceWindow_sets {s t : State} {count mv period limit : Nat} {tj : Int} {en : Bool}
    (hperiod : (if count ≤ 8 then 0xFFFF else min (524288 / count) 0xFFFF) = period)
    (hlimit : s.mvt.limitOld.getD (s.mvt.limit, s.mvt.limitEn) = (limit, en)) (ht : setPace s period mv tj = t) :
    paceWindow s count mv tj = if en && period > limit then fault t 1 period else t := by
  simp only [paceWindow, hperiod, hlimit, ht]

/-- Settles O33: each event takes the branch of its rule that its hypotheses name. -/
theorem regulatorEventsComplete : Obligations.RegulatorEventsComplete := by
  unfold Obligations.RegulatorEventsComplete
  intro s
  refine ⟨?send, ?unread, ?other, ?parent, ?holdover, ?refLoss, ?refOk, ?edge, ?firstEdge, ?stray, ?thirdStray, ?tod, ?ppsOut,
    ?handover, ?takeover, ?pace⟩
  case send =>
    rintro p n m hrun hl hp htx hrx hdue rfl rfl
    rw [exec_timeXSend]
    exact lane_does hl hrun (timeXSend_due hp htx hrx hdue)
  case unread =>
    intro p lanes frac hrun hl hread
    rw [exec_timeX]
    exact lane_does hl hrun (timeSet_unread hread)
  case other =>
    intro p lanes frac x m t hrun hl hread hp hm ht hparent
    rw [exec_timeX]
    obtain ⟨hother, -⟩ := timeX_selected hp ht
    exact lane_does hl hrun ((timeSet_read hread hm).trans (hother hparent))
  case parent =>
    rintro p lanes frac t2 t3 x m t u a b hrun hl hread hp hm h2 h3 ht hparent hu rfl rfl
    rw [exec_timeX]
    obtain ⟨-, hyields⟩ := timeX_selected hp ht
    exact lane_does hl hrun ((timeSet_read hread hm).trans (hyields u t2 t3 h2 h3 hparent hu))
  case holdover =>
    intro t hrun hfrom hholds hover hlate
    rw [exec_holdoverExpiry]
    exact live_does hrun (holdoverExpiry_late hfrom hholds hover hlate)
  case refLoss =>
    intro bits hrun
    rw [exec_refSignalLoss]
    exact live_does hrun (by rw [refLost])
  case refOk =>
    intro hrun
    rw [exec_refOk]
    exact live_does hrun (by rw [refFound])
  case edge =>
    intro frac sec v t off hrun hrole hstray hv hsync href ht htod hoff
    rw [exec_timeInPps]
    obtain ⟨hsynced, -⟩ := alignEdge_named href ht htod
    exact live_does hrun ((ppsEdge_predicted hrole hstray).trans (by rw [hv, hsynced off hsync hoff]))
  case firstEdge =>
    intro frac sec v t hrun hrole hstray hv hsync href hnamed htod ht
    rw [exec_timeInPps]
    obtain ⟨-, hfirst⟩ := alignEdge_named href rfl htod
    exact live_does hrun ((ppsEdge_predicted hrole hstray).trans (by rw [hv, hfirst t hsync hnamed ht]))
  case stray =>
    intro frac hrun hrole hstray hn
    rw [exec_timeInPps]
    exact live_does hrun (ppsEdge_stray hrole hstray hn)
  case thirdStray =>
    intro frac hrun hrole hstray hn
    rw [exec_timeInPps]
    exact live_does hrun (ppsEdge_third_stray hrole hstray hn)
  case tod =>
    intro m c k hrun hrole hlen hstart hcrc hc hmax hnext
    rw [exec_timeInTod]
    exact live_does hrun (todMessage_taken hrole hlen hstart hcrc hc hmax hnext)
  case ppsOut =>
    intro hrun hen hsync ht
    rw [exec_timeOutPps]
    exact live_does hrun (ppsOut_rises hen hsync ht)
  case handover =>
    intro t good u hrun hlost hrole href hlate hdraw
    rw [exec_rootHandover]
    exact live_does hrun (rootHandover_late hlost hrole href hlate hdraw)
  case takeover =>
    rintro bank hrun hrole hready hlate rfl
    rw [exec_backupRootTakeover]
    exact live_does hrun (backupTakeover_late hrole hready hlate)
  case pace =>
    intro count mv period limit tj en t hrun hperiod hlimit ht
    rw [exec_paceWindow]
    exact live_does hrun (paceWindow_sets hperiod hlimit ht)

/-! ### Occurrences (R543, R551) -/

/-- Out of reset the sources of the part are handled: only counted in the safe state, else with what the translation caches
lose and with all that follows. -/
theorem occurrences_eq {s : State} {occs os : List Occ} (hreset : s.inReset = false)
    (hos : occs.filter (fun o => decide (o.src < 312)) = os) :
    let t := (os.filter (fun o => o.src == 293)).foldl (fun s _ => dropCached s) s
    occurrences occs s = if s.cus.safe then handleOccs s os
      else settle { t with cus := { t.cus with raised := t.cus.raised ++ os } } := by
  subst hos
  simp only [occurrences, hreset, Bool.false_eq_true, if_false]

/-! ### Resets of the device, of a half of the host link, and of a function (R184, R206, R599, R600) -/

/-- The release of a reset samples the straps; PCIE_MODE and the time role only at power-on. -/
theorem resetRelease_samples {s : State} (x : Straps) {y : Straps} {mode role : Nat} (hreset : s.inReset = true)
    (hmode : (if s.brd.cold then x.pcieMode % 2 else s.hif.mode) = mode)
    (hrole : (if s.brd.cold then x.timeRole % 4 else s.rgl.cfgRole) = role)
    (hy : ({ pcieMode := mode, timeRole := x.timeRole % 4, plane := x.plane % 2, board := x.board % 4096 } : Straps) = y) :
    resetRelease s x =
      { s with
        inReset := false,
        brd := { s.brd with straps := y, cold := false },
        hif := { s.hif with mode := mode },
        rgl := { s.rgl with cfgRole := role, role := if role = 3 then 0 else role },
        mvt := { s.mvt with plane := x.plane % 2 } } := by
  simp only [resetRelease, hreset, hmode, hrole, hy, Bool.not_true, Bool.false_eq_true, if_false]

theorem linkHalfReset_exists {s : State} {half : Nat} (h : halfExists s half = true) :
    linkHalfReset s half = functionReset (setHalf s half {}) (if half = 0 then 0 else 256) := by
  simp [linkHalfReset, h]

/-- The reset of a function that can be reached; that of a physical function first ends its virtual functions. -/
theorem functionReset_reached {s : State} {fn : Nat} (hp : fn = 0 ∨ (fnOf s fn).present = true) :
    functionReset s fn = resetFn (if fn = 0 ∨ fn = 256 then disableVfs s fn else s) fn := by
  have hreach : (fn != 0 && !(fnOf s fn).present) = false := by
    rcases hp with rfl | hp
    · rfl
    · simp [hp]
  simp only [functionReset, hreach, Bool.false_eq_true, if_false, Bool.or_eq_true, decide_eq_true_eq]

/-! ### The machine record (R604, R605) -/

/-- The first record to be read gives the shape where it is valid and raises CUR_RECORD_BAD where not; then the lane table is loaded, and
training starts on every port that may train, with the fabric ports fenced. -/
theorem machineRecordRead_first {s : State} {bytes b : List Byte} {t u : State} {ports : List Nat} (hrec : s.brd.record = false)
    (hb : padTo 16 bytes = b) (ht : { s with brd := { s.brd with record := true, anchorPos := numAt b 8 2 } } = t)
    (hu : loadLaneTable
      (if recordValid b s.brd.straps.board then { t with mvt := { t.mvt with shape := recordShape b } } else fault t 304 256)
      (padTo 464 (bytes.drop 16)) = u)
    (hports : ((List.range 12) ++ [14]).filter (mayTrain u) = ports) :
    machineRecordRead s bytes = ports.foldl (fun s p => setLane s p (startLane s p (laneOf s p)))
      { u with mvt := { u.mvt with linkFence := ports.filter (fun p => decide (p < 12)) } } := by
  subst ht hports
  simp only [machineRecordRead, hrec, hb, hu, Bool.false_eq_true, if_false]

/-! ### The boot loader (R270, R272, R605, R607) -/

/-- Once the record is read the boot loader of a device that has not booted takes the boot slot's image, else the other's, else halts. -/
theorem firmwareLoad_due {s : State} (hrec : s.brd.record = true) (hready : s.cur.ready = false) (hserved : s.brd.served = false)
    (hhalt : s.brd.halted = false) :
    firmwareLoad s = if bootable s (bootSlot s.brd s.brd.bootB) then startCurator s s.brd.bootB
      else if bootable s (bootSlot s.brd (!s.brd.bootB)) then startCurator s (!s.brd.bootB) else haltBoot s := by
  simp [firmwareLoad, hrec, hready, hserved, hhalt]

/-! ### The coordinate (R609) -/

/-- A device that has no coordinate yet has it from the record and the straps if it is an anchor that knows the machine's shape, else from
its neighbours. -/
theorem discover_due {s : State} (hready : s.cur.ready = true) (hself : s.mvt.selfValid = false) :
    discover s = if bitAt s.brd.straps.board 11 && s.mvt.shape != [] then
      fixCoordinate s (s.brd.anchorPos * 256 + s.brd.straps.board % 256) else discoverFrom s (coordSources s) := by
  simp only [discover, hready, hself, Bool.not_true, Bool.or_self, Bool.false_eq_true, if_false]

/-! ### Rails and junction (R631) -/

/-- A rail below its limit is raised with its voltage, a junction above its limit with its temperature. -/
theorem supplyMonitor_beyond (s : State) (src : Nat) (value : Int) :
    ((src = 3 ∧ value < 700) ∨ (src = 305 ∧ value < 820) → supplyMonitor s src value = fault s src value.toNat) ∧
    ((src = 306 ∧ value > gradeMax) ∨ (src = 307 ∧ value ≥ 125) →
      supplyMonitor s src value = fault s src (ofSigned 64 value)) := by
  constructor
  · rintro (⟨rfl, h⟩ | ⟨rfl, h⟩) <;> simp [supplyMonitor, h]
  · rintro (⟨rfl, h⟩ | ⟨rfl, h⟩) <;> simp [supplyMonitor, h]

/-- Settles O38: each event takes the branch of its rule that its hypotheses name. -/
theorem resetsAndFaultsComplete : Obligations.ResetsAndFaultsComplete := by
  unfold Obligations.ResetsAndFaultsComplete
  intro s
  refine ⟨?occRunning, ?occSafe, ?powerOn, ?warm, ?release, ?half, ?virtual, ?physical, ?recordGood, ?recordBad, ?boot, ?bootOther,
    ?bootHalt, ?anchor, ?neighbour, ?rail, ?junction⟩
  case occRunning =>
    intro occs os t hrun hos ht
    rw [exec_faultOccurrence]
    obtain ⟨hreset, hsafe⟩ := running_iff.mp hrun
    exact die_does ((occurrences_eq hreset hos).trans (by rw [hsafe, if_neg Bool.false_ne_true, ht]))
  case occSafe =>
    intro occs hreset hsafe
    rw [exec_faultOccurrence]
    exact die_does ((occurrences_eq hreset rfl).trans (if_pos hsafe))
  case powerOn => exact exec_powerOnReset s
  case warm => exact exec_warmReset s
  case release =>
    intro x y mode role hreset hmode hrole hy
    rw [exec_resetRelease]
    exact die_does (resetRelease_samples x hreset hmode hrole hy)
  case half =>
    intro half hrun h
    rw [exec_linkHalfReset]
    exact live_does hrun (linkHalfReset_exists h)
  case virtual =>
    intro fn hrun h0 h256 hp
    rw [exec_functionLevelReset]
    exact live_does hrun ((functionReset_reached (.inr hp)).trans (by rw [if_neg (not_or.mpr ⟨h0, h256⟩)]))
  case physical =>
    intro fn hrun hfn hp
    rw [exec_functionLevelReset]
    exact live_does hrun ((functionReset_reached hp).trans (by rw [if_pos hfn]))
  case recordGood =>
    intro bytes b t u ports hrun hrec hb hvalid ht hu hports
    rw [exec_machineRecordRead]
    exact live_does hrun (machineRecordRead_first hrec hb ht (by rw [if_pos hvalid, hu]) hports)
  case recordBad =>
    intro bytes b t u ports hrun hrec hb hvalid ht hu hports
    rw [exec_machineRecordRead]
    exact live_does hrun (machineRecordRead_first hrec hb ht (by rw [hvalid, if_neg Bool.false_ne_true, hu]) hports)
  case boot =>
    intro hrun hrec hready hserved hhalt hb
    rw [exec_firmwareLoad]
    exact live_does hrun ((firmwareLoad_due hrec hready hserved hhalt).trans (if_pos hb))
  case bootOther =>
    intro hrun hrec hready hserved hhalt hb ho
    rw [exec_firmwareLoad]
    exact live_does hrun ((firmwareLoad_due hrec hready hserved hhalt).trans (by simp [hb, ho]))
  case bootHalt =>
    intro hrun hrec hready hserved hhalt hb ho
    rw [exec_firmwareLoad]
    exact live_does hrun ((firmwareLoad_due hrec hready hserved hhalt).trans (by simp [hb, ho]))
  case anchor =>
    intro hrun hready hself hanchor hshape
    rw [exec_coordinateDiscovery]
    exact live_does hrun ((discover_due hready hself).trans (if_pos (by simp [hanchor, hshape])))
  case neighbour =>
    intro hrun hready hself h
    rw [exec_coordinateDiscovery]
    refine live_does hrun ((discover_due hready hself).trans (if_neg ?_))
    rcases h with h | h <;> simp [h]
  case rail =>
    intro src value hrun h
    rw [exec_supplyMonitor]
    obtain ⟨hrail, -⟩ := supplyMonitor_beyond s src value
    exact live_does hrun (hrail h)
  case junction =>
    intro src value hrun h
    rw [exec_supplyMonitor]
    obtain ⟨-, hjunction⟩ := supplyMonitor_beyond s src value
    exact live_does hrun (hjunction h)

end Sys2Proof.Machine
end

section
/-! Lanes and links: flit groups and their retry (R147 to R163), losses, fences and sleep (R159, R167, R169, R174, R175), and the phases of
training (R168 to R172, R180). -/

namespace Sys2Proof.Machine

/-! ### Flit groups and retry (R155, R161 to R163) -/

/-- A failure of the expected group is NAKed again while fewer than RETRY_MAX have come in a row (R161, R163). -/
theorem nakGroup_below_max {s : State} {p : Nat} (h : (laneOf s p).nakRow + 1 < max 1 s.lne.retryMax) :
    nakGroup s p = sendNak (setLane s p { laneOf s p with nakRow := (laneOf s p).nakRow + 1 }) p :=
  if_neg (Nat.not_le.mpr h)

/-- The failure that makes RETRY_MAX in a row takes the link down (R163). -/
theorem nakGroup_at_max {s : State} {p : Nat} (h : (laneOf s p).nakRow + 1 ≥ max 1 s.lne.retryMax) :
    nakGroup s p = linkLost (fault s (laneSrc p 1) (p + (laneOf s p).rxSeq * 16)) p 1 :=
  if_pos h

/-- While no NAK is in force an uncorrectable group is the expected one (R163, log entry 144). -/
theorem badGroup_expected {s : State} {p : Nat} (h : (laneOf s p).nak = false) : badGroup s p = nakGroup s p := by
  rw [badGroup, h, if_neg Bool.false_ne_true]

section Groups

variable {w : State} {p : Nat} {g : FlitGroup} (hrx : (laneOf w p).rx = .active) (hcorrected : g.corrected = 0)
include hrx hcorrected

/-- An uncorrectable group is counted, and its trailer is not used (R154, R161). -/
theorem takeGroup_uncorrectable (hgood : g.good = false) : takeGroup w p g = badGroup (bump w (182 + 7 * portIx p + 1)) p := by
  simp [takeGroup, hrx, hcorrected, hgood]

/-- A good empty group acts by its trailer alone: its credits and its acknowledgement are taken, and a NAK in it has every stored group
sent again (R155, R162). -/
theorem takeGroup_empty {u : State} (hgood : g.good = true)
    (hu : modLane w p (fun l => takeAck (takeCredits l g.credits) g.ackSeq (now w)) = u) (hslots : g.slots = []) :
    takeGroup w p g =
      if g.nak then transmit (bumpBy u (182 + 7 * portIx p + 2) (laneOf u p).replay.length) p true else kick u p := by
  simp [takeGroup, hrx, hcorrected, hgood, hu, hslots]

/-- A good group in sequence, with heads that pass R52, enters its channels and is acknowledged. -/
theorem takeGroup_in_sequence {u v : State} (hgood : g.good = true) (hnak : g.nak = false)
    (hu : kick (modLane w p (fun l => takeAck (takeCredits l g.credits) g.ackSeq (now w))) p = u)
    (hv : modLane u p (fun l => { l with rxSeq := (l.rxSeq + 1) % 4096, nak := false, nakRow := 0, nakBad := false, owed := true }) = v)
    (hslots : g.slots ≠ []) (hseq : g.seq = (laneOf u p).rxSeq) (hok : g.slots.all (slotOk p) = true) :
    takeGroup w p g = kick (g.slots.foldl (fun s x => acceptSlot s p x) v) p := by
  have hfits : (g.seq != (laneOf u p).rxSeq) = false := by simp [hseq]
  simp only [takeGroup, hrx, hcorrected, hgood, hnak, hu, hv, hslots, hfits, hok, bne_self_eq_false, Bool.not_true, if_true, if_false,
    Bool.false_eq_true]

end Groups

/-- The step of a group is that of its contents, once its sync headers have been watched. -/
theorem flitGroup_does {s w t : State} {p : Nat} {r : RawGroup} {g : FlitGroup} (hrun : running s = true) (hl : hasLanes p = true)
    (hw : watchHeads s p r = w) (hg : decodeGroup p r = g) (ht : takeGroup w p g = t) :
    exec (.flitGroupReceive p r) s = .next (conclude s (advanceAll t)) := by
  rw [exec_flitGroupReceive]
  exact lane_does hl hrun (by rw [groupReceive, hw, hg, ht])

/-- Every 2 µs a NAK in force is repeated, which counts as a new failure if a bad group has come meanwhile (R161,
R163, log entry 144). -/
theorem nakRepeat_due {s : State} {p : Nat} (hnak : (laneOf s p).nak = true) (hdue : (laneOf s p).nakAt + 2000 ≤ now s) :
    nakRepeat s p = if (laneOf s p).nakBad then nakGroup s p else sendNak s p := by
  simp [nakRepeat, hnak, hdue]

/-! ### Losses and figures of merit (R167, R169) -/

/-- A loss marks its lane; on a bridge that is READY it is one of the link (R169). -/
theorem signalLoss_eq {s t : State} {p lane : Nat} {lock : Bool} (ht : modLane s p (losing lane lock (now s)) = t) :
    signalLoss s p lane lock = if p = 14 && bridgeReady t then linkLost t 14 2 else t := by
  rw [← ht, signalLoss]

/-- A loss of 500 ns on any lane takes an active fabric port down (R169). -/
theorem linkDown_due {s : State} {p : Nat} (hp : p < 12) (hloss : (laneOf s p).lossAt.any (fun kv => decide (now s ≥ kv.2 + 500)) = true)
    (hactive : linkActive s p = true) :
    linkDown s p = linkFault (fault s (laneSrc p 0) (p + lostLanes (laneOf s p) * 16)) p :=
  if_pos (by rw [hactive, hloss, decide_eq_true hp]; rfl)

section FigureOfMerit

variable {s t : State} {p lane fom : Nat} (hp : p < 12) (hlane : lane < 4)
  (ht : modLane s p (fun l => noteFom s.lne.fomWarn (now s) l lane (fom % 256)) = t)
include hp hlane ht

/-- A figure of merit that is not low is only kept. -/
theorem fomLow_high (hlow : fmFind (laneOf t p).lowFrom lane = none) : fomLow s p lane fom = t := by
  simp [fomLow, Nat.not_le.mpr hp, Nat.not_le.mpr hlane, ht, hlow]

/-- One that has been low for 1 ms is raised, once (R167). -/
theorem fomLow_lasting {since : Nat} (hlow : fmFind (laneOf t p).lowFrom lane = some since) (hlate : since + 1000000 ≤ now t)
    (htold : (laneOf t p).lowTold.contains lane = false) :
    fomLow s p lane fom = fault (setLane t p { laneOf t p with lowTold := withMember (laneOf t p).lowTold lane }) (laneSrc p 5)
      (p + lane * 16 + fom % 256 * 256) := by
  have hraise : ¬(now t < since + 1000000 ∨ (laneOf t p).lowTold.contains lane = true) := by
    simp only [htold, Bool.false_eq_true, or_false, Nat.not_lt, hlate]
  simp only [fomLow, Nat.not_le.mpr hp, Nat.not_le.mpr hlane, decide_false, Bool.or_self, Bool.false_eq_true, if_false, ht, hlow,
    Bool.or_eq_true, decide_eq_true_eq, if_neg hraise]

end FigureOfMerit

/-! ### Ordered sets (R158, R159, R174, R175) -/

/-- A set that can be read is acted on. -/
theorem osReceive_read {s : State} {p : Nat} {lanes : List Nat} {o : OrderedSet} (act : OrderedSet → State) (h : osRead lanes = some o) :
    osReceive s p lanes act = act o := by
  rw [osReceive_eq, h, Option.elim_some]

/-- A corrupt set is counted and ignored. -/
theorem osReceive_unread {s : State} {p : Nat} {lanes : List Nat} (act : OrderedSet → State) (h : osRead lanes = none) :
    osReceive s p lanes act = bump s (182 + 7 * portIx p + 3) := by
  rw [osReceive_eq, h, Option.elim_none]

/-- The first FENCE takes the port down. The bridge's tells the twin block; a fabric port is fenced, and reported unless it was so
before (R159, R524; what `fenceDown` sends is log entry 146). -/
theorem fenceReceived_first {s t : State} {p reason : Nat} (hpeer : (laneOf s p).peerFence = false)
    (ht : fault (fenceDown s p) (laneSrc p 4) (p + reason % 256 * 16) = t) :
    fenceReceived s p reason =
      if p = 14 then { t with twn := { t.twn with bridgeLost := some (if reason = 1 then 0 else 1) } }
      else
        let u := { t with mvt := { t.mvt with peerFence := withMember t.mvt.peerFence p } }
        selectParent (if fenced s p then u else report u p false) := by
  simp only [fenceReceived, hpeer, ht, Bool.false_eq_true, if_false]

/-- An active fabric receiver goes to sleep (R174). -/
theorem sleepReceived_active {s : State} {p : Nat} (hp : p < 12) (hrx : (laneOf s p).rx = .active) :
    sleepReceived s p = setLane s p { laneOf s p with rx := .sleep } := by
  simp [sleepReceived, modLane, hp, hrx]

/-- A direction with nothing to send and nothing stored is not busy (R174). -/
theorem txBusy_eq_false {l : LanePort} (hsend : l.sendq = []) (howed : l.owed = false) (hcred : l.credDue = []) (hreplay : l.replay = []) :
    txBusy l = false := by
  simp [txBusy, hsend, howed, hcred, hreplay]

/-- A flit, a credit count or an acknowledgement that is due makes a direction busy (R175). -/
theorem txBusy_of_due {l : LanePort} (h : l.sendq ≠ [] ∨ l.owed = true ∨ l.credDue ≠ []) : txBusy l = true := by
  rcases h with h | h | h <;> simp [txBusy, h]

/-- A transmitter that has been idle for SLEEP_IDLE, on a link that carries no synchronisation, goes to sleep (R174). -/
theorem sleepEntry_due {s : State} {p : Nat} {l : LanePort} (hl : laneOf s p = l) (hp : p < 12) (htx : l.tx = .active)
    (hen : l.sleepEn = true) (hbusy : txBusy l = false) (hdue : l.idleFrom + max 1 l.sleepIdle * 1000 ≤ now s) (hparent : s.rgl.parent ≠ p)
    (htold : s.rgl.txParent.contains p = false) (hchild : (fmGet s.rgl.nbrs p {}).isParent = false) :
    sleepEntry s p = noteLevel (sendOs (setLane s p { l with tx := .sleep, sleptAt := some (now s) }) p .sleep) (182 + 7 * p + 5) 1 := by
  subst hl
  refine if_pos ?_
  rw [htx, hen, hbusy, htold, hchild, decide_eq_true hp, decide_eq_true hdue, bne_iff_ne.mpr hparent]
  rfl

/-- A sleeping transmitter that has become busy since the tick of its decision wakes its partner and sends (R175). -/
theorem sleepWake_due {s : State} {p : Nat} (htx : (laneOf s p).tx = .sleep) (hbusy : txBusy (laneOf s p) = true)
    (hslept : (laneOf s p).sleptAt ≠ some (now s)) :
    sleepWake s p = kick (bump (sendOs (setLane s p { laneOf s p with tx := .active, sleptAt := none, idleFrom := now s }) p
      (.train { trainMsg s p with phase := 4 })) (182 + 7 * portIx p + 6)) p := by
  simp [sleepWake, htx, hbusy, hslept]

/-- Settles O30: each event takes the branch of its rule that its hypotheses name. -/
theorem laneEventsComplete : Obligations.LaneEventsComplete := by
  unfold Obligations.LaneEventsComplete
  intro s p
  refine ⟨?inSequence, ?trailer, ?nakked, ?bad, ?badAtMax, ?renak, ?repeatBad, ?loss, ?bridgeLoss, ?down, ?fomLow, ?fomHigh, ?fence,
    ?bridgeFence, ?sleep, ?sleepEntry, ?wake⟩
  case inSequence =>
    intro r g w u v hrun hl hw hu hv hg hrx hgood hcorrected hnak hslots hseq hok
    exact flitGroup_does hrun hl hw hg (takeGroup_in_sequence hrx hcorrected hgood hnak hu hv hslots hseq hok)
  case trailer =>
    intro r g w hrun hl hw hg hrx hgood hcorrected hnak hslots
    exact flitGroup_does hrun hl hw hg ((takeGroup_empty hrx hcorrected hgood rfl hslots).trans (by rw [hnak, if_neg Bool.false_ne_true]))
  case nakked =>
    intro r g w u hrun hl hw hu hg hrx hgood hcorrected hnak hslots
    exact flitGroup_does hrun hl hw hg ((takeGroup_empty hrx hcorrected hgood hu hslots).trans (if_pos hnak))
  case bad =>
    rintro r g w _ hrun hl hw rfl hg hrx hgood hcorrected hnak hrow
    exact flitGroup_does hrun hl hw hg
      ((takeGroup_uncorrectable hrx hcorrected hgood).trans ((badGroup_expected hnak).trans (nakGroup_below_max hrow)))
  case badAtMax =>
    rintro r g w _ hrun hl hw rfl hg hrx hgood hcorrected hnak hrow
    exact flitGroup_does hrun hl hw hg
      ((takeGroup_uncorrectable hrx hcorrected hgood).trans ((badGroup_expected hnak).trans (nakGroup_at_max hrow)))
  case renak =>
    intro hrun hl hnak hdue hbad
    rw [exec_nakRepeat]
    exact lane_does hl hrun ((nakRepeat_due hnak hdue).trans (by rw [hbad, if_neg Bool.false_ne_true]))
  case repeatBad =>
    intro hrun hl hnak hdue hbad hrow
    rw [exec_nakRepeat]
    exact lane_does hl hrun ((nakRepeat_due hnak hdue).trans ((if_pos hbad).trans (nakGroup_below_max hrow)))
  case loss =>
    intro lane lock t hrun hl ht hbridge
    rw [exec_laneSignalLoss]
    refine lane_does hl hrun ((signalLoss_eq ht).trans (if_neg ?_))
    rcases hbridge with h | h <;> simp [h]
  case bridgeLoss =>
    intro lane lock t hrun hl hp ht hready
    rw [exec_laneSignalLoss]
    exact lane_does hl hrun ((signalLoss_eq ht).trans (if_pos (by rw [decide_eq_true hp, hready]; rfl)))
  case down =>
    intro hrun hl hp hloss hactive
    rw [exec_lneLinkDown]
    exact lane_does hl hrun (linkDown_due hp hloss hactive)
  case fomLow =>
    intro lane fom since t hrun hl hp hlane ht hlow hlate htold
    rw [exec_lneFomLow]
    exact lane_does hl hrun (fomLow_lasting hp hlane ht hlow hlate htold)
  case fomHigh =>
    intro lane fom t hrun hl hp hlane ht hlow
    rw [exec_lneFomLow]
    exact lane_does hl hrun (fomLow_high hp hlane ht hlow)
  case fence =>
    rintro lanes c pl reason _ t _ hrun hl hread hp hpeer rfl ht rfl
    rw [exec_fence]
    exact lane_does hl hrun ((osReceive_read _ hread).trans ((fenceReceived_first hpeer ht).trans (if_neg hp)))
  case bridgeFence =>
    rintro lanes c pl reason t hrun hl hread rfl hpeer ht
    rw [exec_fence]
    exact lane_does hl hrun ((osReceive_read _ hread).trans ((fenceReceived_first hpeer ht).trans (if_pos rfl)))
  case sleep =>
    intro lanes hrun hl hread hp hrx
    rw [exec_sleep]
    exact lane_does hl hrun ((osReceive_read _ hread).trans (sleepReceived_active hp hrx))
  case sleepEntry =>
    intro l hrun hlanes hl hp htx hen hsend howed hcred hreplay hdue hparent htold hchild
    rw [exec_sleepEntry]
    exact lane_does hlanes hrun
      (sleepEntry_due hl hp htx hen (txBusy_eq_false hsend howed hcred hreplay) hdue hparent htold hchild)
  case wake =>
    intro hrun hl htx hdue hslept
    rw [exec_sleepWake]
    exact lane_does hl hrun (sleepWake_due htx (txBusy_of_due hdue) hslept)

/-! ### Training (R168, R170, R171, R180) -/

/-- A lane detects signal in DETECT, which ends with the last of them; the bridge then goes on to BLOCK (R168, R170). -/
theorem signalDetect_in_detect {s : State} {p lane : Nat} {l : LanePort} {g : List Nat} (hl : clearLoss lane false (laneOf s p) = l)
    (htx : l.tx = .training) (hphase : l.phase = 0) (hlane : lane < laneCount p) (hg : withMember l.signal lane = g) :
    signalDetect s p lane =
      if g.length ≥ laneCount p then
        trainTo s p
          { l with
            signal := g,
            phase := if p = 14 then 2 else 1,
            eqAt := now s,
            eq := (List.range (laneCount p)).map (fun i => (i, startEq s p i)) }
      else setLane s p { l with signal := g } := by
  simp [signalDetect, hl, htx, hphase, hlane, hg]

section Adapt

variable {s : State} {p : Nat} {lanes : List (Nat × LaneEq)} {l : LanePort} (hp : p < 12)
  (hl : (List.range 4).foldl (fun l i => noteFom s.lne.fomWarn (now s) l i ((lanes.getD i (0, {})).1 % 256)) (laneOf s p) = l)
include hp hl

/-- ADAPT ends when every lane's figure of merit has reached FOM_MIN (R170). -/
theorem adapt_ends (htx : l.tx = .training) (hphase : l.phase = 1)
    (hfom : (List.range 4).all (fun i => decide (fmGet l.fom i 0 ≥ s.lne.fomMin)) = true) :
    adapt s p lanes = trainTo s p
      { l with eqAt := now s, eq := (List.range 4).map (fun i => (i, (lanes.getD i (0, {})).2)), adapted := true, phase := 2 } := by
  have hin : (l.tx == .training && l.phase == 1) = true := by simp [htx, hphase]
  simp only [adapt, if_neg (Nat.not_le.mpr hp), hl, hin, hfom, Bool.true_or, Bool.and_self, if_true, moveEq]

/-- In operation the settings move by one step at most, once in 100 µs (R167). -/
theorem adapt_moves (htx : l.tx = .active) (hrx : l.rx = .active) (hdue : l.eqAt + 100000 ≤ now s) :
    adapt s p lanes = setLane s p
      { l with eqAt := now s, eq := (List.range 4).map (fun i => (i, moveEq false (fmGet l.eq i {}) (lanes.getD i (0, {})).2)) } := by
  have hin : (l.tx == .training && l.phase == 1) = false := by simp [htx]
  have hmoves : (l.rx == .active && decide (now s ≥ l.eqAt + 100000)) = true := by simp [hrx, hdue]
  simp only [adapt, if_neg (Nat.not_le.mpr hp), hl, hin, hmoves, Bool.false_or, Bool.false_and, if_true, if_false, Bool.false_eq_true]

end Adapt

/-- The sync headers and the skew of a lane of the port may end BLOCK. -/
theorem blockLock_eq {s t u : State} {p lane skew : Nat} {heads : List Nat} (hlane : lane < laneCount p)
    (ht : relock s p (heads.foldl (trackHead lane) (laneOf s p)) = t)
    (hu : modLane t p (fun l => { l with skew := fmSet l.skew lane skew }) = u) : blockLock s p lane heads skew = endBlock u p := by
  rw [blockLock, if_neg (Nat.not_le.mpr hlane), ht, hu]

/-- BLOCK ends with its lanes mapped and deskewed (R170). -/
theorem endBlock_mapped {u : State} {p : Nat} (htx : (laneOf u p).tx = .training) (hphase : (laneOf u p).phase = 2)
    (hmap : mapped p (laneOf u p) = true) : endBlock u p = trainTo u p { laneOf u p with phase := 3 } := by
  simp [endBlock, htx, hphase, hmap]

/-- No other phase ends so. -/
theorem endBlock_of_phase_ne {u : State} {p : Nat} (hphase : (laneOf u p).phase ≠ 2) : endBlock u p = u := by
  simp [endBlock, hphase]

/-- A port that may train and is not administratively fenced answers the events of training. -/
theorem training_open {s : State} {p : Nat} (hmay : mayTrain s p = true) (hadmin : s.mvt.adminFence.contains p = false) :
    (!mayTrain s p || s.mvt.adminFence.contains p) = false := by
  rw [hmay, hadmin]; rfl

/-- TRAIN at a port in training that nothing fences, whose other end is where it belongs: in BLOCK its lanes' numbers map them; in IDENT
the expected end takes the port to phase 4; and with phase 4 from both ends the port is READY (R170, R171). -/
theorem train_in_phase {s t : State} {p : Nat} {m : TrainMsg} {l : LanePort} (lanes : List Nat)
    (ht : modLane s p (heardTrain · m) = t) (hl : laneOf t p = l) (hagree : peerAgrees s p = false ∨ peerAgrees t p = true)
    (hmay : mayTrain t p = true) (hadmin : t.mvt.adminFence.contains p = false) (hpeer : l.peerFence = false)
    (hfence : t.mvt.peerFence.contains p = false) (htx : l.tx = .training) (hrx : l.rx ≠ .sleep) :
    (l.phase = 2 → train s p m lanes =
      endBlock (setLane t p { l with laneMap := (lanes.take (laneCount p)).zipIdx.map (fun x => (x.2, x.1)) }) p) ∧
    (l.phase = 3 → identOk t p m = true → train s p m lanes =
      if m.phase = 4 then portReady (trainTo t p { l with phase := 4 }) p else trainTo t p { l with phase := 4 }) ∧
    (l.phase = 4 → m.phase = 4 → train s p m lanes = portReady t p) := by
  have hplaced : (peerAgrees s p && !peerAgrees t p) = false := by rcases hagree with h | h <;> simp [h]
  have hend : endPeerFence t p = t := by rw [endPeerFence, hl, hpeer, hfence]; rfl
  have hawake : (l.rx == .sleep && m.phase = 4) = false := by simp [hrx]
  have htraining : (l.tx != .training) = false := by simp [htx]
  simp only [train, ht, hplaced, hend, hl, training_open hmay hadmin, hpeer, hawake, htraining, Bool.false_eq_true, if_false]
  refine ⟨fun hphase => if_pos hphase, fun hphase hid => ?ident, fun hphase hm => ?ready⟩
  case ident => simp [hphase, hid]
  case ready => simp [hphase, hm]

/-- A port that is not READY within its bounds goes down and ends its command, and raises its first failure of a series (R170, R180). -/
theorem trainingTimeout_fails {s u v : State} {p t : Nat} (hmay : mayTrain s p = true) (hadmin : s.mvt.adminFence.contains p = false)
    (hfrom : (laneOf s p).trainFrom = some t) (htx : (laneOf s p).tx = .training) (hlate : t + trainBound p ≤ now s)
    (hu : setLane s p (trainFailed (laneOf s p) (now s)) = u)
    (hv : wakeCmds u (fun _ w => w == .laneTrain p || (p == 14 && w == .trainBridge)) stTimeout [] = v) :
    trainingTimeout s p =
      if (laneOf s p).failSeries then v else fault v (laneSrc p 2) (p + (laneOf s p).phase * 16) := by
  simp only [trainingTimeout, training_open hmay hadmin, hfrom, htx, hlate, hu, hv, beq_self_eq_true, decide_true, Bool.and_self,
    Bool.false_eq_true, if_false, if_true]

/-- 100 ms after a failure the port is trained anew, in the same series of failures (R170). -/
theorem trainingTimeout_retries {s : State} {p t : Nat} (hmay : mayTrain s p = true) (hadmin : s.mvt.adminFence.contains p = false)
    (hfrom : (laneOf s p).trainFrom = none) (hretry : (laneOf s p).retryAt = some t) (hdue : t ≤ now s) :
    trainingTimeout s p = setLane s p { restartLane (laneOf s p) (now s) with failSeries := (laneOf s p).failSeries } := by
  simp only [trainingTimeout, training_open hmay hadmin, hfrom, hretry, hdue, Bool.false_eq_true, if_false, if_true]

/-- Settles O31: each event takes the branch of its phase that its hypotheses name. -/
theorem trainingEventsComplete : Obligations.TrainingEventsComplete := by
  unfold Obligations.TrainingEventsComplete
  intro s p
  refine ⟨?detected, ?signal, ?adapted, ?moved, ?locked, ?lock, ?ident, ?identReady, ?ready, ?block, ?corrupt, ?failed, ?retry⟩
  case detected =>
    intro lane l g hrun hlanes hl htx hphase hlane hg hall
    rw [exec_signalDetect]
    exact lane_does hlanes hrun ((signalDetect_in_detect hl htx hphase hlane hg).trans (if_pos hall))
  case signal =>
    intro lane l g hrun hlanes hl htx hphase hlane hg hsome
    rw [exec_signalDetect]
    exact lane_does hlanes hrun ((signalDetect_in_detect hl htx hphase hlane hg).trans (if_neg (Nat.not_le.mpr hsome)))
  case adapted =>
    intro lanes l hrun hlanes hp hl htx hphase hfom
    rw [exec_adapt]
    exact lane_does hlanes hrun (adapt_ends hp hl htx hphase hfom)
  case moved =>
    intro lanes l hrun hlanes hp hl htx hrx hdue
    rw [exec_adapt]
    exact lane_does hlanes hrun (adapt_moves hp hl htx hrx hdue)
  case locked =>
    intro lane heads skew t u hrun hlanes hlane ht hu htx hphase hmap
    rw [exec_blockLock]
    exact lane_does hlanes hrun ((blockLock_eq hlane ht hu).trans (endBlock_mapped htx hphase hmap))
  case lock =>
    intro lane heads skew t u hrun hlanes hlane ht hu hphase
    rw [exec_blockLock]
    exact lane_does hlanes hrun ((blockLock_eq hlane ht hu).trans (endBlock_of_phase_ne hphase))
  case ident =>
    intro lanes m l t hrun hlanes hread ht hl hagree hmay hadmin hpeer hfence htx hrx hphase hid
    obtain ⟨-, hident, -⟩ := train_in_phase (lanes.map (fun v => field v 8 6)) ht hl hagree hmay hadmin hpeer hfence htx hrx
    rw [exec_train]
    exact lane_does hlanes hrun ((osReceive_read _ hread).trans (hident hphase hid))
  case identReady =>
    intro lanes m l t hrun hlanes hread ht hl hagree hmay hadmin hpeer hfence htx hrx hphase hid hm
    obtain ⟨-, hident, -⟩ := train_in_phase (lanes.map (fun v => field v 8 6)) ht hl hagree hmay hadmin hpeer hfence htx hrx
    rw [exec_train]
    exact lane_does hlanes hrun ((osReceive_read _ hread).trans ((hident hphase hid).trans (if_pos hm)))
  case ready =>
    intro lanes m l t hrun hlanes hread ht hl hagree hmay hadmin hpeer hfence htx hrx hphase hm
    obtain ⟨-, -, hready⟩ := train_in_phase (lanes.map (fun v => field v 8 6)) ht hl hagree hmay hadmin hpeer hfence htx hrx
    rw [exec_train]
    exact lane_does hlanes hrun ((osReceive_read _ hread).trans (hready hphase hm))
  case block =>
    intro lanes m l t hrun hlanes hread ht hl hagree hmay hadmin hpeer hfence htx hrx hphase
    obtain ⟨hblock, -, -⟩ := train_in_phase (lanes.map (fun v => field v 8 6)) ht hl hagree hmay hadmin hpeer hfence htx hrx
    rw [exec_train]
    exact lane_does hlanes hrun ((osReceive_read _ hread).trans (hblock hphase))
  case corrupt =>
    intro lanes hlanes hrun hread
    rw [exec_train, exec_timeX, exec_fence, exec_sleep]
    exact ⟨lane_does hlanes hrun (osReceive_unread _ hread), lane_does hlanes hrun (osReceive_unread _ hread),
      lane_does hlanes hrun (osReceive_unread _ hread), lane_does hlanes hrun (osReceive_unread _ hread)⟩
  case failed =>
    intro t u v hrun hlanes hmay hadmin hfrom htx hlate hu hv
    rw [exec_trainingTimeout]
    exact lane_does hlanes hrun (trainingTimeout_fails hmay hadmin hfrom htx hlate hu hv)
  case retry =>
    intro t hrun hlanes hmay hadmin hfrom hretry hdue
    rw [exec_trainingTimeout]
    exact lane_does hlanes hrun (trainingTimeout_retries hmay hadmin hfrom hretry hdue)

end Sys2Proof.Machine
end
